-- ==== Sys2Proof/Word.lean ====
section
/-!
DEFINITION. The bit vectors and numbers of things of the Hovalt 1216 (spec/00_scope.md, Conventions).
Register contents that software sees as words, and counts that wrap, are bit vectors; counts that saturate or have a
stated range are natural numbers.
-/

namespace Sys2Proof

/-- One byte of a packet or a slot-line message. -/
abbrev Byte := BitVec 8

/-- A count of the Millisecond Timebase: 32 bits, wrapping (00_scope.md, Times). -/
abbrev Time := BitVec 32

/-- A cartridge serial or the part serial: 8 bytes. -/
abbrev Serial := BitVec 64

/-- A nonce of the Random Source (R78, R161). -/
abbrev Nonce := BitVec 64

/-- A 64-bit output of the keyed digest (R74). -/
abbrev Tag := BitVec 64

/-- A 128-bit key (R74, R75). -/
abbrev Key := BitVec 128

/-- A slot's tenure: 0-65535, wrapping (R1, R2). -/
abbrev Tenure := BitVec 16

/-- Channels are numbered 0-11 (00_scope.md, Numbering). -/
abbrev Channel := Fin 12

/-- Slots are numbered 0-15. -/
abbrev SlotNo := Fin 16

/-- Heads are numbered 0-7. -/
abbrev HeadNo := Fin 8

/-- History entries are numbered 0-63 (R113). -/
abbrev EntryNo := Fin 64

/-- The largest value of a 32-bit quantity, 4,294,967,295. -/
def u32Max : Nat := 4294967295

/-- A saturating rise: the count stays at its largest value once it reaches it (00_scope.md). -/
def satAdd (largest count rise : Nat) : Nat := min largest (count + rise)

/-- A quantity outside its range takes the nearer end of the range (R156). -/
def clamp (least largest value : Nat) : Nat := max least (min largest value)

end Sys2Proof
end

