-- ==== Sys2Proof/Syntax.lean ====
section
/-!
DEFINITION. The commands of the block: one constructor of `Instr` for each row of spec/opcode_table.json.
A request carries its tag and its field bytes as the MGMT packet carries them (R155, R196), so that a payload of the
wrong size is a command too. An event carries what the step takes in.
-/

namespace Sys2Proof

/-- The inputs of the Pin Unit (R172). -/
inductive Pin where
  | presence (n : SlotNo)
  | level (n : SlotNo)
  | aux (n : Fin 4)
  | powerFail
  deriving DecidableEq, Repr

/-- The two symbols that begin a packet (R135): the start symbol, and the fill symbol, a whole FILL packet. -/
inductive LaneSymbol where
  | start
  | fill
  deriving DecidableEq, Repr

/-- The two grades of the Link Monitor (R151, R152). -/
inductive GradeName where
  | minor
  | major
  deriving DecidableEq, Repr

/-- The 68 records of the store (R183). -/
inductive RecordName where
  | identity
  | settings
  | history (n : EntryNo)
  | waste
  | cleanMark
  deriving DecidableEq, Repr

/-- Bit errors a record has picked up while the part had no power (R183): one, which its code corrects, or more. R183
promises the detection of two; three or more are taken as two are (log 94). -/
inductive BitErrors where
  | one
  | several
  deriving DecidableEq, Repr

/-- How a write interrupted by loss of power leaves its record (R183): GOOD with the old or the new contents, CORRECTED
with the old or the new contents, or UNCORRECTABLE. -/
inductive Torn where
  | goodOld
  | goodNew
  | correctedOld
  | correctedNew
  | uncorrectable
  deriving DecidableEq, Repr

/-- A packet as it has arrived: its payload, and its check as received (R135). -/
structure Arrival where
  payload : List Byte
  check : BitVec 16
  deriving DecidableEq, Repr

/-- The expiry of an input's filter timer. Where it begins a save (R188), `arrived` holds the level bytes of an arriving
line that had arrived (R144; log 16); it is empty for every other pin. -/
structure FilterExpiry where
  pin : Pin
  arrived : List Byte
  deriving DecidableEq, Repr

/-- The commands, in the order of spec/opcode_table.json; each docstring names the row's rule. -/
inductive Instr where
  /-- R158, R193 -/
  | readPart (tag : Byte) (fields : List Byte)
  /-- R171 -/
  | readStatus (tag : Byte) (fields : List Byte)
  /-- R169 -/
  | setNoticeMask (tag : Byte) (fields : List Byte)
  /-- R71, R48 -/
  | readChannel (tag : Byte) (fields : List Byte)
  /-- R69, R70 -/
  | setRoute (tag : Byte) (fields : List Byte)
  /-- R67 -/
  | holdChannel (tag : Byte) (fields : List Byte)
  /-- R67 -/
  | releaseChannel (tag : Byte) (fields : List Byte)
  /-- R27, R112 -/
  | readSlot (tag : Byte) (fields : List Byte)
  /-- R7 -/
  | rescanSlot (tag : Byte) (fields : List Byte)
  /-- R21 -/
  | setWatch (tag : Byte) (fields : List Byte)
  /-- R33 -/
  | loadVolumeTable (tag : Byte) (fields : List Byte)
  /-- R34 -/
  | selectVolumeBank (tag : Byte) (fields : List Byte)
  /-- R35 -/
  | loadTemperatureTable (tag : Byte) (fields : List Byte)
  /-- R153 -/
  | readLink (tag : Byte) (fields : List Byte)
  /-- R180 -/
  | readPins (tag : Byte) (fields : List Byte)
  /-- R182 -/
  | setPins (tag : Byte) (fields : List Byte)
  /-- R132 -/
  | readHistory (tag : Byte) (fields : List Byte)
  /-- R73 -/
  | readTrace (tag : Byte) (fields : List Byte)
  /-- R73 -/
  | clearTrace (tag : Byte) (fields : List Byte)
  /-- R159 -/
  | setPolicy (tag : Byte) (fields : List Byte)
  /-- R22 -/
  | grantGrace (tag : Byte) (fields : List Byte)
  /-- R133 -/
  | clearHistoryEntry (tag : Byte) (fields : List Byte)
  /-- R46 -/
  | resetWaste (tag : Byte) (fields : List Byte)
  /-- R161 -/
  | getUnlockNonce (tag : Byte) (fields : List Byte)
  /-- R162 -/
  | unlockService (tag : Byte) (fields : List Byte)
  /-- R165 -/
  | lockService (tag : Byte) (fields : List Byte)
  /-- R75 -/
  | programRootKey (tag : Byte) (fields : List Byte)
  /-- R187 -/
  | saveSettings (tag : Byte) (fields : List Byte)
  /-- R191 -/
  | restart (tag : Byte) (fields : List Byte)
  /-- R155: a request whose code is not one of the part's codes. -/
  | unknownRequest (tag code : Byte) (fields : List Byte)
  /-- R137, R194: a MGMT packet whose received check is a bad one. -/
  | mgmtCheckFailed (packet : Arrival)
  /-- R194: a MGMT packet with a good check and fewer than 2 payload bytes. -/
  | mgmtWithoutTag (payloadBytes : Nat)
  /-- R138: the payload and the received check of a HEAD packet. -/
  | headPacketEnd (payload : List Byte) (check : BitVec 16)
  /-- R149 -/
  | fillSymbolReceived
  /-- R136: a packet of unknown kind, of that many payload bytes. -/
  | unknownKindPacketEnd (payloadBytes : Nat)
  /-- R136: a packet longer than its kind's largest. -/
  | oversizePacketEnd (payloadBytes : Nat)
  /-- R136: the symbol that cuts the packet, and the bytes of the packet that had arrived since the last step about it
  (of a line whose header was taken: its level bytes, then bytes of its check). -/
  | packetCut (symbol : LaneSymbol) (arrived : List Byte)
  /-- R139, R140: the header fields of a LINE packet, with the length of its payload. -/
  | lineHeader (channel : Byte) (lineNumber : BitVec 16) (waveformSet : Byte) (nozzles length : BitVec 16)
  /-- R137, R194: the end of a refused LINE packet, with the payload bytes behind its header, or of a LINE packet too
short for a header, with its payload; and the received check. -/
  | refusedLineEnd (rest : List Byte) (check : BitVec 16)
  /-- R142: the level bytes and the received check of the arriving line; of an abandoned one, the level bytes that
arrive after the abandonment (R144). -/
  | lineUpstreamEnd (levels : List Byte) (check : BitVec 16)
  /-- R143: the check of the oldest line in flight has been sent. -/
  | lineEnd
  /-- R150: the link-lost timer expires; the level bytes of an arriving line that had arrived. -/
  | linkLost (arrived : List Byte)
  /-- R145: the kind and the length of a downstream return packet. -/
  | headretStart (kind : Byte) (length : BitVec 16)
  /-- R145: the payload bytes that had arrived of the HEADRET that is cut. -/
  | headretCut (arrived : List Byte)
  /-- R146: the payload and the check of the HEADRET that ends. -/
  | headretEnd (payload : List Byte) (check : BitVec 16)
  /-- R36 -/
  | staleTimerExpiry (head : HeadNo)
  /-- R147 -/
  | returnPacketEnd
  /-- R152 -/
  | gradeTimerExpiry (grade : GradeName)
  /-- R55 -/
  | switchTimerExpiry (channel : Channel)
  /-- R59 -/
  | revertTimerExpiry (channel : Channel)
  /-- R174: the raw level of the pin becomes this one; true is asserted (for LEVEL: LOW). -/
  | pinRawChange (pin : Pin) (asserted : Bool)
  /-- R174 -/
  | filterTimerExpiry (expiry : FilterExpiry)
  /-- R94 -/
  | breakEnd (slot : SlotNo)
  /-- R100 -/
  | requestSent (slot : SlotNo)
  /-- R100 -/
  | responseTimeout (slot : SlotNo)
  /-- R101 -/
  | replyComplete (slot : SlotNo)
  /-- R101 -/
  | gapTimeout (slot : SlotNo)
  /-- R103 -/
  | turnaroundEnd (slot : SlotNo)
  /-- R87 -/
  | digestPassComplete
  /-- R164 -/
  | lockoutTimerExpiry
  /-- R185 -/
  | recordWriteComplete
  /-- R192: power is applied; the bit errors records have picked up since they were last read. -/
  | powerOn (errors : List (RecordName × BitErrors))
  /-- R149 -/
  | startSymbolReceived
  /-- R101, R93: one received frame: its data bits, its parity bit and its stop bit (true is mark). -/
  | replyByteReceived (slot : SlotNo) (data : Byte) (parity stop : Bool)
  /-- R185, R183: power is lost; how the write in progress, if any, leaves its record. -/
  | powerLoss (torn : Torn)
  deriving DecidableEq, Repr

end Sys2Proof
end

