-- ==== Sys2Proof/Machine/State.lean ====
section
/-!
DEFINITION. The state of the Hovalt 1216, block by block (00_scope.md, The blocks), and the state after reset.
Enumerations list their members in the order of the rule that defines them, which is their encoding on the link
(11_packet_and_message_formats.md, Field encoding). An absent field is `none` (R1).
-/

namespace Sys2Proof.Machine

open Sys2Proof

/-! ### Slots (01_cartridge_slots.md) -/

/-- R1 -/
inductive SlotState where
  | empty | probing | mute | authenticating | genuine | depleted | grace | spent | rejected | fault
  deriving DecidableEq, Repr

/-- R1, field refill causes: a set, one Bool for each member. -/
structure Causes where
  rollback : Bool
  depletedReturn : Bool
  levelRise : Bool
  markConflict : Bool
  overNominal : Bool
  levelSenseRise : Bool
  deriving DecidableEq, Repr

/-- R18 -/
inductive WatchKind where
  | remainingAtOrBelow | graceAtOrBelow | overdrawAtOrAbove
  deriving DecidableEq, Repr

/-- R18 -/
inductive WatchAction where
  | notify | hold
  deriving DecidableEq, Repr

/-- R18 -/
inductive WatchState where
  | off | armed | fired
  deriving DecidableEq, Repr

/-- R18: the two watches of a slot. -/
inductive WatchNo where
  | w0 | w1
  deriving DecidableEq, Repr

/-- R18 -/
structure Watch where
  kind : WatchKind
  limit : Nat
  action : WatchAction
  state : WatchState
  deriving DecidableEq, Repr

/-- A FILL reply as received (R1 Note 1, R97). -/
structure Fill where
  remaining : Nat
  writeCount : Nat
  mark : Bool
  deriving DecidableEq, Repr

/-- The derived key of a slot, and whether it is void (R76). -/
structure DerivedKey where
  key : Key
  void : Bool
  deriving DecidableEq, Repr

/-- The slot record of R1. -/
structure Slot where
  state : SlotState
  present : Bool
  tenure : Tenure
  serial : Option Serial
  ink : Option Nat
  nominal : Option Nat
  reported : Option Fill
  remaining : Option Nat
  overdraw : Nat
  grace : Nat
  unbacked : Nat
  writeCount : Option Nat
  writtenRemaining : Option Nat
  drawn : Nat
  writeFailures : Nat
  causes : Causes
  held : Bool
  w0 : Watch
  w1 : Watch
  derivedKey : Option DerivedKey
  nonce : Option Nonce
  tag : Option Tag
  historyIndex : Option EntryNo
  deriving DecidableEq, Repr

/-! ### Slot line controllers (05_the_cartridge_bus.md) -/

/-- R91 -/
inductive LineState where
  | idle | tagWait | break | sending | awaiting | receiving | quiet
  deriving DecidableEq, Repr

/-- R90: the four kinds of transaction. -/
inductive TransKind where
  | identify | readFill | challenge | checkpoint
  deriving DecidableEq, Repr

/-- R102: the failure kinds. On the link they are numbered from 0 in this order, that of their first mention in R102's
table, which lists LENGTH twice (11.2; log 101). -/
inductive FailKind where
  | noResponse | parity | framing | length | gap | check | kind | content
  deriving DecidableEq, Repr

/-- R92: the four bit rates. -/
inductive BitRate where
  | r9600 | r19200 | r38400 | r76800
  deriving DecidableEq, Repr

/-- R104: the step a probe-step entry names. -/
inductive ProbeStep where
  | identify | readFill
  deriving DecidableEq, Repr

/-- The values a checkpoint carries (R25, R107). -/
structure CheckpointValues where
  remaining : Nat
  writeCount : Nat
  mark : Bool
  deriving DecidableEq, Repr

/-- The contents of a good IDENT (R96), kept as the probe hold. -/
structure Ident where
  serial : Serial
  ink : Nat
  nominal : Nat
  deriving DecidableEq, Repr

/-- How an attempt was judged (R102). -/
inductive Judgement where
  | good
  | failed (kind : FailKind)
  deriving DecidableEq, Repr

/-- The transaction record of R90; `judged` is the judgement of the current attempt, held during QUIET. -/
structure Transaction where
  kind : TransKind
  tenure : Tenure
  attempt : Nat
  ignoreResult : Bool
  nonce : Nonce
  values : CheckpointValues
  writeTag : Option Tag
  noted : Option FailKind
  judged : Option Judgement
  deriving DecidableEq, Repr

/-- R90, R102 Note 3: the line's most recent failed attempt. -/
structure LastFailure where
  kind : TransKind
  attempt : Nat
  failure : FailKind
  deriving DecidableEq, Repr

/-- The line controller of R90, with the timer that its line state runs (R94, R100, R101), the bit rate its attempt
took (R92), the request it sends (R95) and the reply bytes it has received (R101). -/
structure LineCtl where
  state : LineState
  trans : Option Transaction
  pendProbe : Option ProbeStep
  pendChallenge : Option Nonce
  pendCheckpoint : Bool
  probeHold : Option Ident
  lastFailure : Option LastFailure
  timer : Option Time
  rate : BitRate
  request : List Byte
  received : List Byte
  deriving DecidableEq, Repr

/-! ### Drop Meter and Temperature Capture (02_drop_metering.md) -/

/-- R28 -/
inductive Classifier where
  | print | service
  deriving DecidableEq, Repr

/-- The meter record of R28. -/
structure Meter where
  fine : Nat
  remainder : Nat
  run : Nat
  classifier : Classifier
  metered : BitVec 32
  service : BitVec 32
  orphan : Nat
  linesMetered : BitVec 32
  linesBlanked : BitVec 32
  lastCharge : Option (SlotNo × Tenure)
  lastBand : Option Nat
  deriving DecidableEq, Repr

/-- The volumes of the levels 1 to 3 for one channel and waveform set (R32). -/
structure Volumes where
  v1 : Nat
  v2 : Nat
  v3 : Nat
  deriving DecidableEq, Repr

/-- One bank of the volume table: channel, then waveform set (R32). -/
abbrev VolumeBank := Vector (Vector Volumes 4) 12

/-- R32 -/
inductive BankName where
  | a | b
  deriving DecidableEq, Repr

/-- The temperature table of R35. -/
structure TempTable where
  multipliers : Vector Nat 16
  base : Nat
  width : Nat
  fallback : Nat
  staleTime : Nat
  deriving DecidableEq, Repr

/-- What Temperature Capture keeps for a head (R36); the stale timer runs exactly while the head is fresh. -/
structure Head where
  reading : Option Nat
  readAt : Time
  staleTimer : Option Time
  deriving DecidableEq, Repr

/-- The waste account of R43. -/
structure WasteAccount where
  fine : Nat
  counter : Nat
  deriving DecidableEq, Repr

/-! ### Route Unit (03_supply_routing_and_channel_gating.md) -/

/-- R49, R52 -/
inductive CondSource where
  | activeUnfit | levelLow | aux0 | aux1 | aux2 | aux3 | always | never
  deriving DecidableEq, Repr

/-- The configured fields of a route record (R49). -/
structure RouteCfg where
  ink : Nat
  head : HeadNo
  nozzles : Nat
  defaultSlot : Option SlotNo
  alternate : Option SlotNo
  source : CondSource
  switchDelay : Nat
  revertEnable : Bool
  revertDelay : Nat
  settleLines : Nat
  valveInvert : Bool
  fullAllowance : Nat
  runLength : Nat
  deriving DecidableEq, Repr

/-- R50 -/
inductive RouteState where
  | unrouted | onDefault | pendingAlt | onAlternate | pendingDefault
  deriving DecidableEq, Repr

/-- R50: the switch timer. -/
inductive SwitchTimer where
  | idle
  | running (expiry : Time)
  | waiting
  deriving DecidableEq, Repr

/-- The gate reasons of a channel, a set (R63). -/
structure Gate where
  powerSave : Bool
  noRoute : Bool
  operatorHold : Bool
  noSupply : Bool
  settle : Bool
  deriving DecidableEq, Repr

/-- The members of the gate reasons, highest rank first (3.5). -/
inductive Reason where
  | powerSave | noRoute | operatorHold | noSupply | settle
  deriving DecidableEq, Repr

/-- The dynamic fields of a route record (R50). -/
structure Route where
  state : RouteState
  active : Option SlotNo
  switchTimer : SwitchTimer
  revertTimer : Option Time
  settleCount : Nat
  hold : Bool
  gate : Gate
  lastLine : Option (BitVec 16)
  deriving DecidableEq, Repr

/-- R72 -/
inductive SwitchCause where
  | condition | forcedReturn | revert | operator
  deriving DecidableEq, Repr

/-- An entry of the route trace (R72). -/
structure TraceEntry where
  channel : Channel
  fromSlot : Option SlotNo
  toSlot : Option SlotNo
  cause : SwitchCause
  lastLine : Option (BitVec 16)
  time : Time
  deriving DecidableEq, Repr

/-! ### Digest Engine (04_authentication.md) -/

/-- R84 -/
inductive PassKind where
  | derive | expect | writeTag | unlock
  deriving DecidableEq, Repr

/-- The seventeen requesters: slots 0-15, and the Request Unit, 16 (4.5). -/
abbrev Requester := Fin 17

/-- A request of the waiting set (R84). `slotKey` is the slot's derived key for EXPECT and WRITE_TAG; a DERIVE or
UNLOCK takes the root key at its grant (R75). -/
structure DigestRequest where
  kind : PassKind
  tenure : Tenure
  message : List Byte
  slotKey : Option Key
  deriving DecidableEq, Repr

/-- The pass in flight (R84), with the key it was granted with and whether the root key was good then (R75, R76). -/
structure Pass where
  requester : Requester
  kind : PassKind
  tenure : Tenure
  abandoned : Bool
  message : List Byte
  key : Key
  keyGood : Bool
  deriving DecidableEq, Repr

/-- R84: the waiting set holds at most one request of each requester. -/
structure Digest where
  inFlight : Option Pass
  waiting : Vector (Option DigestRequest) 17
  lastGranted : Requester
  deriving DecidableEq, Repr

/-! ### History Table (06_refill_detection_and_the_history_table.md) -/

/-- A valid history entry (R113); an invalid entry is `none`. -/
structure HistoryEntry where
  serial : Serial
  ink : Nat
  confirmed : Nat
  writeCount : Nat
  drawnSince : Nat
  depletedMark : Bool
  refillMark : Bool
  stamp : Nat
  deriving DecidableEq, Repr

/-- R113, with the next stamp. -/
structure History where
  entries : Vector (Option HistoryEntry) 64
  nextStamp : Nat
  deriving DecidableEq, Repr

/-- The sense record of a slot (R129). -/
structure Sense where
  lowSeen : Bool
  proven : Bool
  deriving DecidableEq, Repr

/-! ### Pins (09_pins.md) -/

/-- A running filter timer: the time of the raw change that started it, and its expiry (R173). -/
structure FilterTimer where
  started : Time
  expiry : Time
  deriving DecidableEq, Repr

/-- The filter of an input (R173); true is asserted (for LEVEL: LOW). -/
structure Filter where
  raw : Bool
  filtered : Bool
  timer : Option FilterTimer
  changed : Bool
  deriving DecidableEq, Repr

/-- The inputs of R172 and the VALVE outputs of R62. -/
structure Pins where
  presence : Vector Filter 16
  level : Vector Filter 16
  aux : Vector Filter 4
  powerFail : Filter
  valves : Vector Bool 12
  deriving DecidableEq, Repr

/-- The lamp sources of R181. -/
inductive LampSource where
  | off | on | anySlotUnfit | anyChannelGated | refillSeen | wasteNear | wasteFull | linkMinor | linkMajor
  | slotUnfit (n : SlotNo)
  deriving DecidableEq, Repr

/-- R181 -/
structure Lamp where
  source : LampSource
  invert : Bool
  deriving DecidableEq, Repr

/-- The pin settings of Set Pins (R182). -/
structure PinCfg where
  presenceAssert : Nat
  presenceRelease : Nat
  levelAssert : Nat
  levelRelease : Nat
  auxAssert : Nat
  auxRelease : Nat
  levelEnable : Vector Bool 16
  lamps : Vector Lamp 4
  deriving DecidableEq, Repr

/-! ### Policies and settings (R159, R187) -/

/-- R83 -/
inductive NonGenuinePolicy where
  | grace | reject
  deriving DecidableEq, Repr

/-- R124 -/
inductive RefillPolicy where
  | acceptLow | grace | reject
  deriving DecidableEq, Repr

/-- The policy settings of Set Policy, in the order of R159's table. -/
structure Policy where
  nonGenuine : NonGenuinePolicy
  refill : RefillPolicy
  bitRate : BitRate
  graceVolume : Nat
  overdrawLimit : Nat
  checkpointStep : Nat
  wasteNear : Nat
  wasteFull : Nat
  minorWindow : Nat
  majorWindow : Nat
  deriving DecidableEq, Repr

/-- The settings as they stand in the blocks (R187), but for the watches, which stand in the slot records. -/
structure Settings where
  routes : Vector RouteCfg 12
  bankA : VolumeBank
  bankB : VolumeBank
  active : BankName
  temp : TempTable
  policy : Policy
  mask : Vector Bool 14
  pins : PinCfg
  deriving DecidableEq, Repr

/-- A watch as the settings image holds it: kind, limit, action, and whether it is OFF (R18). -/
structure WatchSetting where
  kind : WatchKind
  limit : Nat
  action : WatchAction
  off : Bool
  deriving DecidableEq, Repr

/-- The settings image (R187). -/
structure Image where
  settings : Settings
  watches : Vector (WatchSetting × WatchSetting) 16
  deriving DecidableEq, Repr

/-! ### The Fire Link (07_the_fire_link.md) -/

/-- What the upstream forward receiver is receiving (R136, R139, R144): nothing; a packet whose kind is not yet acted
on; the rest of a refused line, with the header bytes that its check covers; the line whose header was taken last; the
rest of an abandoned line; after the loss of the link, the rest of a refused line that the loss ended (R149, R150). -/
inductive RxState where
  | idle
  | receiving
  | refusedLine (header : List Byte) (bytesLeft : Nat)
  | line
  | abandonedLine
  | lostRest
  deriving DecidableEq, Repr

/-- A grade of the Link Monitor with its counter, leak count and timer (R151, R152). -/
structure Grade where
  counter : Nat
  leak : Nat
  asserted : Bool
  timer : Option Time
  deriving DecidableEq, Repr

/-- The upstream port and the Link Monitor (R149, R151, R152); the link is UP or LOST. -/
structure Link where
  up : Bool
  timer : Option Time
  rx : RxState
  minor : Grade
  major : Grade
  deriving DecidableEq, Repr

/-- R140: a line's upstream state. -/
inductive Upstream where
  | arriving | good | failed
  deriving DecidableEq, Repr

/-- A line in flight (R29, R140): its latched values, its drop counts and its upstream state. -/
structure Flight where
  channel : Channel
  lineNumber : BitVec 16
  source : Option (SlotNo × Tenure)
  volumes : Volumes
  head : HeadNo
  blanked : Bool
  nozzles : Nat
  n1 : Nat
  n2 : Nat
  n3 : Nat
  upstream : Upstream
  deriving DecidableEq, Repr

/-- A packet of the forward buffer (R138): the bytes placed so far, its length on the lane, how many of its symbols have
been sent, its start symbol being the first of them (R135), and whether it is a line whose line end is still to come. -/
structure ForwardPacket where
  placed : List Byte
  total : Nat
  sent : Nat
  live : Bool
  deriving DecidableEq, Repr

/-- The forward buffer (R138) and the line-in-flight records of all channels, in header order (R140, R143); and, the
model's own, an account of symbol times against line ends, which are commands (log 15). Early: symbol times in which a
line end says that symbols have left, and which are still to come. Held: symbol times that have passed, and whose symbols
stand at or behind a check whose line end is still to come. -/
structure Forward where
  buffer : List ForwardPacket
  flights : List Flight
  early : Nat
  held : Nat
  deriving DecidableEq, Repr

/-- R135, R138: a symbol on the downstream forward lane. -/
inductive SentSymbol where
  | start
  | fill
  | data (b : Byte)
  deriving DecidableEq, Repr

/-- A HEADRET of the return buffer (R147): its bytes so far, its length on the lane, and whether it still arrives. -/
structure HeadReturn where
  bytes : List Byte
  total : Nat
  arriving : Bool
  deriving DecidableEq, Repr

/-- What the downstream return receiver is receiving (R145). -/
inductive ReturnRx where
  | idle
  | headret
  | discarding
  deriving DecidableEq, Repr

/-- The packet on the upstream return lane (R147); a REPLY or NOTICE has taken its bytes at the grant (R148). -/
inductive Grant where
  | fill
  | headret
  | reply (bytes : List Byte)
  | notice (bytes : List Byte)
  deriving DecidableEq, Repr

/-- The return lanes (R145, R147). -/
structure Returns where
  buffer : List HeadReturn
  rx : ReturnRx
  grant : Grant
  deriving DecidableEq, Repr

/-! ### Request Unit and Notice Queue (08_management_requests_and_notices.md) -/

/-- R155, numbered as the outcome codes of 11.2. -/
inductive ReplyOutcome where
  | done | unknownRequest | badSubject | badValue | refusedLevel | badState | lockedOut
  deriving DecidableEq, Repr

/-- A completed reply (R155, R157). -/
structure Reply where
  tag : Byte
  code : Byte
  outcome : ReplyOutcome
  contents : List Byte
  deriving DecidableEq, Repr

/-- R160 -/
inductive Access where
  | operate | service
  deriving DecidableEq, Repr

/-- An unlock in progress (R160, R162); it holds a reserved reply place. -/
structure Attempt where
  tag : Tag
  requestTag : Byte
  withdrawn : Bool
  deriving DecidableEq, Repr

/-- R160, and the reply list of R154. -/
structure RequestUnit where
  access : Access
  nonce : Option Nonce
  attempt : Option Attempt
  failedUnlocks : Nat
  lockout : Option Time
  replies : List Reply
  deriving DecidableEq, Repr

/-- R166 -/
inductive NoticeKind where
  | slot | refill | watch | route | gate | waste | link | lineRefused | temp | checkpoint | history | store | pin
  | unlock
  deriving DecidableEq, Repr

/-- R166 -/
inductive Subject where
  | none
  | slot (n : SlotNo)
  | channel (n : Channel)
  | head (n : HeadNo)
  | pin (p : Pin)
  deriving DecidableEq, Repr

/-- R44 -/
inductive WasteFlag where
  | near | full
  deriving DecidableEq, Repr

/-- The details of LINK notices: R138, R145, R149, R150, R152; their numbers are log 72. -/
inductive LinkEvent where
  | forwardFull | returnOversize | restored | lost | minorAsserted | minorCleared | majorAsserted | majorCleared
  deriving DecidableEq, Repr

/-- R139 -/
inductive RefuseReason where
  | channel | count | length | noRoom
  deriving DecidableEq, Repr

/-- R109: REFUSED, or the failure kind of attempt 2. -/
inductive CheckpointResult where
  | refused
  | failed (kind : FailKind)
  deriving DecidableEq, Repr

/-- R193 -/
inductive StoreEvent where
  | uncleanStart | corrected | uncorrectable
  deriving DecidableEq, Repr

/-- R184 -/
inductive SettingsSource where
  | saved | default
  deriving DecidableEq, Repr

/-- R163: the results of an unlock, in the order of its table. -/
inductive UnlockResult where
  | withdrawn | granted | denied
  deriving DecidableEq, Repr

/-- R160 -/
inductive UnlockEvent where
  | granted | denied | withdrawn | lockoutBegun | lockoutEnded | levelEnded
  deriving DecidableEq, Repr

/-- The details of a notice, as the rule that raises it gives them. -/
inductive Details where
  /-- R10: the new state, the state left, the tenure, the causes on entry into GRACE or REJECTED, the failed
  transaction kind and failure kind on entry into MUTE. -/
  | slot (newState oldState : SlotState) (tenure : Tenure) (causes : Option Causes)
      (failure : Option (TransKind × FailKind))
  /-- R10, R15: OVERDRAW_LIMIT, the state unchanged. -/
  | overdrawLimit (state : SlotState) (tenure : Tenure)
  /-- R123 -/
  | refill (serial : Serial) (findings : Causes) (policy : RefillPolicy) (entered : SlotState)
      (reportedRemaining reportedCount : Nat) (entry : Option (Nat × Nat))
  /-- R130 -/
  | levelSense (serial : Option Serial) (policy : RefillPolicy) (before : SlotState)
  /-- R20 -/
  | watch (which : WatchNo) (kind : WatchKind) (limit : Nat) (action : WatchAction) (value : Nat)
  /-- R60, and R70 with cause OPERATOR -/
  | switch (fromSlot toSlot : Option SlotNo) (cause : SwitchCause) (state : RouteState)
  /-- R61: the new state, and ALTERNATE_UNFIT. -/
  | route (state : RouteState) (alternateUnfit : Bool)
  /-- R64 -/
  | gate (primary previous : Option Reason) (reasons : Gate)
  /-- R44 -/
  | waste (flag : WasteFlag) (value : Bool) (counter nearThreshold fullThreshold : Nat)
  /-- R152: every LINK notice carries the whole link picture. -/
  | link (event : LinkEvent) (up : Bool) (minor major : Nat) (minorAsserted majorAsserted : Bool)
  /-- R139 -/
  | lineRefused (reason : RefuseReason) (channel : Byte) (lineNumber nozzles : BitVec 16) (configured : Option Nat)
  /-- R36: FRESH or STALE, and the reading. -/
  | temp (fresh : Bool) (reading : Option Nat)
  /-- R109 -/
  | checkpoint (values : CheckpointValues) (result : CheckpointResult) (writeFailures : Nat)
  /-- R117; the serial of the entry being locked is absent at a start-up eviction (R119). -/
  | history (entry : EntryNo) (serial : Serial) (depletedMark refillMark : Bool) (locking : Option Serial)
  /-- R193 -/
  | store (event : StoreEvent) (record : Option RecordName) (clean : Bool) (source : SettingsSource)
      (corrected uncorrectable : Nat)
  /-- R178 -/
  | pin (asserted : Bool) (time : Time)
  /-- R160 -/
  | unlock (event : UnlockEvent) (access : Access) (failedUnlocks lockoutLeft : Nat)
  deriving DecidableEq, Repr

/-- An entry of the Notice Queue (R166). -/
structure Notice where
  kind : NoticeKind
  subject : Subject
  count : Nat
  details : Details
  deriving DecidableEq, Repr

/-- The Notice Queue (R166) and the latched part of the status summary (R170). `merged` is present while the packet of
the oldest entry is being sent: the occurrences merged into it after the grant (R168). -/
structure NoticeUnit where
  queue : List Notice
  merged : Option Nat
  seen : Vector Bool 14
  overflow : Bool
  dropped : Nat
  turnedAway : Bool
  turnedAwayCount : Nat
  deriving DecidableEq, Repr

/-! ### Nonvolatile store (10_nonvolatile_store_power_fail_save_and_start_up.md) -/

/-- The identity record (R183); the key is programmed while the mark is present (R75). The revision is one byte
(log 73). -/
structure Identity where
  serial : Serial
  revision : Byte
  key : Key
  programmed : Bool
  deriving DecidableEq, Repr

/-- The error condition of a written record (R183). -/
inductive Condition where
  | good | corrected | uncorrectable
  deriving DecidableEq, Repr

/-- A record of the store: its contents, absent while it has never been written (BLANK), and its condition. -/
structure Stored (α : Type) where
  contents : Option α
  condition : Condition
  deriving DecidableEq, Repr

/-- The 68 records of R183. -/
structure Store where
  identity : Stored Identity
  settings : Stored Image
  history : Vector (Stored (Option HistoryEntry)) 64
  waste : Stored WasteAccount
  cleanMark : Stored Bool
  deriving DecidableEq, Repr

/-- A pending write (R185): it names its record and carries the contents. -/
inductive RecordWrite where
  | identity (contents : Identity)
  | settings (contents : Image)
  | history (n : EntryNo) (contents : Option HistoryEntry)
  | waste (contents : WasteAccount)
  | cleanMark (set : Bool)
  deriving DecidableEq, Repr

/-- R186 -/
inductive WriteTiming where
  | normal | save
  deriving DecidableEq, Repr

/-- R188 -/
inductive SaveState where
  | running | saving | saved
  deriving DecidableEq, Repr

/-- R188 -/
inductive SaveCause where
  | powerFail | restart
  deriving DecidableEq, Repr

/-- The NVM Controller: the records, the writer queue and the write in progress (R185, R186), the save (R188), the
start-up held back for the Restart's reply (R190, R191), and what the last start-up read (R184, R192, R193). -/
structure Nvm where
  store : Store
  queue : List RecordWrite
  inProgress : Option (RecordWrite × WriteTiming)
  timing : WriteTiming
  saveState : SaveState
  saveCause : Option SaveCause
  startUpHeld : Bool
  identity : Identity
  damaged : Bool
  source : SettingsSource
  clean : Bool
  corrected : Nat
  uncorrectable : Nat
  deriving DecidableEq, Repr

/-! ### The whole part -/

/-- The state of the part. `draws` counts the free values drawn so far: the model's own field (log 6). -/
structure State where
  pending : List Instr
  powered : Bool
  time : Time
  draws : Nat
  settings : Settings
  slots : Vector Slot 16
  lines : Vector LineCtl 16
  sense : Vector Sense 16
  meters : Vector Meter 12
  heads : Vector Head 8
  waste : WasteAccount
  routes : Vector Route 12
  trace : List TraceEntry
  digest : Digest
  history : History
  requests : RequestUnit
  notices : NoticeUnit
  link : Link
  forward : Forward
  returns : Returns
  pins : Pins
  nvm : Nvm
  deriving DecidableEq, Repr

/-- The reasons a step could stop the machine: none. The specification names no state in which the part stops, and no
command without an effect, so nothing raises a fault (log 33). That is safe: no claim can hide behind a fault. -/
inductive Fault where
  deriving DecidableEq, Repr

/-- Why a command has no meaning here. -/
inductive Refusal where
  /-- Raised by an arm of `exec` that has no meaning yet, with the row's mnemonic. No arm raises it. It is safe: the
  machine stops instead of answering. -/
  | notModelled (mnemonic : String)
  deriving DecidableEq, Repr

/-! ### Values at start-up and at reset -/

/-- R1, column Start-up, with the watch settings it is given. -/
def Slot.cold (w0 w1 : Watch) : Slot :=
  { state := .empty, present := false, tenure := 0, serial := none, ink := none, nominal := none, reported := none,
    remaining := none, overdraw := 0, grace := 0, unbacked := 0, writeCount := none, writtenRemaining := none,
    drawn := 0, writeFailures := 0, causes := ⟨false, false, false, false, false, false⟩, held := false, w0 := w0,
    w1 := w1, derivedKey := none, nonce := none, tag := none, historyIndex := none }

/-- R18: a watch without a valid settings image. -/
def Watch.reset : Watch :=
  { kind := .remainingAtOrBelow, limit := 0, action := .notify, state := .off }

/-- R90, column Start-up. No attempt has taken a bit rate yet: 19,200 stands in its place (log 50). -/
def LineCtl.cold : LineCtl :=
  { state := .idle, trans := none, pendProbe := none, pendChallenge := none, pendCheckpoint := false,
    probeHold := none, lastFailure := none, timer := none, rate := .r19200, request := [], received := [] }

/-- R28, column Start-up. -/
def Meter.cold : Meter :=
  { fine := 0, remainder := 0, run := 0, classifier := .print, metered := 0, service := 0, orphan := 0,
    linesMetered := 0, linesBlanked := 0, lastCharge := none, lastBand := none }

/-- R36: at start-up every reading is absent, so every head is stale. -/
def Head.cold : Head := { reading := none, readAt := 0, staleTimer := none }

/-- R49, column Reset value. -/
def RouteCfg.reset : RouteCfg :=
  { ink := 0, head := 0, nozzles := 1024, defaultSlot := none, alternate := none, source := .activeUnfit,
    switchDelay := 500, revertEnable := false, revertDelay := 5000, settleLines := 0, valveInvert := false,
    fullAllowance := 2, runLength := 4 }

/-- R50, R51, R63: an unrouted channel at start-up. -/
def Route.unrouted : Route :=
  { state := .unrouted, active := none, switchTimer := .idle, revertTimer := none, settleCount := 0, hold := false,
    gate := { powerSave := false, noRoute := true, operatorHold := false, noSupply := true, settle := false },
    lastLine := none }

/-- R84, column Start-up. -/
def Digest.cold : Digest := { inFlight := none, waiting := Vector.replicate 17 none, lastGranted := 16 }

/-- R113: every entry invalid, the next stamp 1. -/
def History.blank : History := { entries := Vector.replicate 64 none, nextStamp := 1 }

/-- R160, column Start-up; R154: the reply list is empty. -/
def RequestUnit.cold : RequestUnit :=
  { access := .operate, nonce := none, attempt := none, failedUnlocks := 0, lockout := none, replies := [] }

/-- R166, R170: at every start-up the queue is empty, the latched flags false and the counts 0. -/
def NoticeUnit.cold : NoticeUnit :=
  { queue := [], merged := none, seen := Vector.replicate 14 false, overflow := false, dropped := 0,
    turnedAway := false, turnedAwayCount := 0 }

/-- R151, R152: counters and leak counts 0, grades CLEAR, timers idle. -/
def Grade.cold : Grade := { counter := 0, leak := 0, asserted := false, timer := none }

/-- R149, R151: the link is LOST and the timer does not run. -/
def Link.cold : Link := { up := false, timer := none, rx := .idle, minor := Grade.cold, major := Grade.cold }

/-- R138, R140: both empty. -/
def Forward.cold : Forward := { buffer := [], flights := [], early := 0, held := 0 }

/-- R147: the return buffer is empty and the transmitter sends FILL. -/
def Returns.cold : Returns := { buffer := [], rx := .idle, grant := .fill }

/-- R173: released, idle, unchanged; the raw level is the pin's. -/
def Filter.cold (raw : Bool) : Filter := { raw := raw, filtered := false, timer := none, changed := false }

/-- R35, column Reset value. -/
def TempTable.reset : TempTable :=
  { multipliers := Vector.replicate 16 1024, base := 50, width := 10, fallback := 15, staleTime := 500 }

/-- R32: every entry 1000 cpL. -/
def VolumeBank.reset : VolumeBank := Vector.replicate 12 (Vector.replicate 4 ⟨1000, 1000, 1000⟩)

/-- R159, column Reset value. -/
def Policy.reset : Policy :=
  { nonGenuine := .reject, refill := .acceptLow, bitRate := .r19200, graceVolume := 20000, overdrawLimit := 2000,
    checkpointStep := 1000, wasteNear := 450000, wasteFull := 500000, minorWindow := 10000, majorWindow := 1000 }

/-- R172, R177, R181: the reset values of the pin settings. -/
def PinCfg.reset : PinCfg :=
  { presenceAssert := 200, presenceRelease := 50, levelAssert := 2000, levelRelease := 2000, auxAssert := 20,
    auxRelease := 20, levelEnable := Vector.replicate 16 false, lamps := Vector.replicate 4 ⟨.off, false⟩ }

/-- The reset value of every setting; the mask enables every kind except PIN (R169), the kind numbered 12. -/
def Settings.reset : Settings :=
  { routes := Vector.replicate 12 RouteCfg.reset, bankA := VolumeBank.reset, bankB := VolumeBank.reset, active := .a,
    temp := TempTable.reset, policy := Policy.reset, mask := (Vector.replicate 14 true).set 12 false,
    pins := PinCfg.reset }

/-- The watches of a settings image that holds the reset values (R18). -/
def Image.watchesReset : Vector (WatchSetting × WatchSetting) 16 :=
  Vector.replicate 16 (⟨.remainingAtOrBelow, 0, .notify, true⟩, ⟨.remainingAtOrBelow, 0, .notify, true⟩)

/-- The identity record at manufacture (R183): unprogrammed (R75). The serial, the revision and the key bits are
DESIGN CHOICE 0: the specification gives none (log 5). -/
def Identity.manufactured : Identity := { serial := 0, revision := 0, key := 0, programmed := false }

/-- The store as a part leaves manufacture: only the identity record has been written (R183; log 5). -/
def Store.manufactured : Store :=
  { identity := ⟨some Identity.manufactured, .good⟩, settings := ⟨none, .good⟩,
    history := Vector.replicate 64 ⟨none, .good⟩, waste := ⟨none, .good⟩, cleanMark := ⟨none, .good⟩ }

/-- The part as manufactured, before power is first applied; the raw pin levels are DESIGN CHOICE released (log 5). -/
def State.manufactured : State :=
  { pending := [], powered := false, time := 0, draws := 0, settings := Settings.reset,
    slots := Vector.replicate 16 (Slot.cold Watch.reset Watch.reset), lines := Vector.replicate 16 LineCtl.cold,
    sense := Vector.replicate 16 ⟨false, false⟩, meters := Vector.replicate 12 Meter.cold,
    heads := Vector.replicate 8 Head.cold, waste := ⟨0, 0⟩, routes := Vector.replicate 12 Route.unrouted,
    trace := [], digest := Digest.cold, history := History.blank, requests := RequestUnit.cold,
    notices := NoticeUnit.cold, link := Link.cold, forward := Forward.cold, returns := Returns.cold,
    pins :=
      { presence := Vector.replicate 16 (Filter.cold false), level := Vector.replicate 16 (Filter.cold false),
        aux := Vector.replicate 4 (Filter.cold false), powerFail := Filter.cold false,
        valves := Vector.replicate 12 false },
    nvm :=
      { store := Store.manufactured, queue := [], inProgress := none, timing := .normal, saveState := .running,
        saveCause := none, startUpHeld := false, identity := Identity.manufactured, damaged := false,
        source := .default, clean := false, corrected := 0, uncorrectable := 0 } }

/-- Reset: the state right after the first start-up of a part as manufactured (R192; log 5). The clean mark was BLANK,
so the start-up is unclean, its write as CLEAR is the write in progress, and the STORE notice is raised. -/
def State.reset : State :=
  { State.manufactured with
    powered := true
    notices :=
      { NoticeUnit.cold with
        queue := [{ kind := .store, subject := .none, count := 1,
                    details := .store .uncleanStart none false .default 0 0 }]
        seen := (Vector.replicate 14 false).set 11 true }
    nvm := { State.manufactured.nvm with inProgress := some (.cleanMark false, .normal) } }

end Sys2Proof.Machine
end

