-- ==== Sys2Proof/Machine/Wire.lean ====
section
/-!
DEFINITION. Bytes on the lanes and the slot lines: the packet check (R194), the poisoned check (R135), the check byte
and the frames of the slot lines (R93, R197), the encodings of fields (11.2), and reading fields back.
Multi-byte fields are big-endian (00_scope.md, Byte order).
-/

namespace Sys2Proof.Machine

open Sys2Proof

/-! ### The check of a packet -/

/-- R194: one bit. The register is shifted left by one; if the bit shifted out differs from the data bit, it is
combined by exclusive-or with 0x1021. -/
def crcBit (register : BitVec 16) (bit : Bool) : BitVec 16 :=
  if register.msb != bit then (register <<< 1) ^^^ 0x1021#16 else register <<< 1

/-- R194: each byte is taken most significant bit first. -/
def crcByte (register : BitVec 16) (byte : Byte) : BitVec 16 :=
  [7, 6, 5, 4, 3, 2, 1, 0].foldl (fun r i => crcBit r (byte.getLsbD i)) register

/-- R194: the check of the kind, length and payload bytes, in lane order. -/
def crc16 (bytes : List Byte) : BitVec 16 := bytes.foldl crcByte 0xFFFF#16

/-- A 16-bit word, high byte first. -/
def word16 (w : BitVec 16) : List Byte := [w.extractLsb' 8 8, w.extractLsb' 0 8]

/-- R135, R194: the poisoned check of the bytes sent: their correct check with every bit inverted. -/
def poisonedCheck (bytes : List Byte) : List Byte := word16 (~~~ crc16 bytes)

/-- The kind codes of 11.1. -/
def kindLine : Byte := 0x10#8
def kindMgmt : Byte := 0x20#8
def kindReply : Byte := 0x21#8
def kindNotice : Byte := 0x22#8
def kindHead : Byte := 0x30#8
def kindHeadret : Byte := 0x31#8

/-- R135: the bytes of a packet before its check: kind, length, payload. -/
def packetBody (kind : Byte) (payload : List Byte) : List Byte :=
  kind :: (word16 (BitVec.ofNat 16 payload.length) ++ payload)

/-- R135, R194: a packet of the part's own, with its check. -/
def packet (kind : Byte) (payload : List Byte) : List Byte :=
  packetBody kind payload ++ word16 (crc16 (packetBody kind payload))

/-- R135: a packet occupies its payload length plus 5 bytes on the lane. -/
def laneBytes (payload : Nat) : Nat := payload + 5

/-- R194: the correct check of a MGMT packet, a request among them. -/
def mgmtCheck (payload : List Byte) : BitVec 16 := crc16 (packetBody kindMgmt payload)

/-! ### Encoding of fields (11.2) -/

/-- A number in that many bytes, most significant byte first. -/
def bigEndian : Nat → Nat → List Byte
  | 0, _ => []
  | n + 1, v => BitVec.ofNat 8 (v / 256 ^ n) :: bigEndian n v

def u8 (v : Nat) : List Byte := bigEndian 1 v
def u16 (v : Nat) : List Byte := bigEndian 2 v
def u24 (v : Nat) : List Byte := bigEndian 3 v
def u32 (v : Nat) : List Byte := bigEndian 4 v
def u64 (v : BitVec 64) : List Byte := bigEndian 8 v.toNat

/-- on/off, false/true: 0x00 or 0x01. -/
def flag (b : Bool) : List Byte := [if b then 0x01#8 else 0x00#8]

/-- A slot that may be none: 0xFF is none. -/
def slotOrNone : Option SlotNo → List Byte
  | none => [0xFF#8]
  | some i => u8 i.val

/-- A field that may be absent: a presence byte, then the field; an absent field's bytes are 0x00. -/
def optional {α : Type} (width : Nat) (encode : α → List Byte) : Option α → List Byte
  | none => 0x00#8 :: List.replicate width 0x00#8
  | some x => 0x01#8 :: encode x

/-- A set as a number: bit i is set for the i-th member listed. -/
def setBits : List Bool → Nat
  | [] => 0
  | b :: bs => (if b then 1 else 0) + 2 * setBits bs

/-- A set: a bitmap of ceil(members / 8) bytes, the first members in the last byte. -/
def bitmap (members : List Bool) : List Byte := bigEndian ((members.length + 7) / 8) (setBits members)

def Causes.members (c : Causes) : List Bool :=
  [c.rollback, c.depletedReturn, c.levelRise, c.markConflict, c.overNominal, c.levelSenseRise]

def Gate.members (g : Gate) : List Bool := [g.powerSave, g.noRoute, g.operatorHold, g.noSupply, g.settle]

/-- A pin as one byte: PRESENCE n is n, LEVEL n is 16 + n, AUX n is 32 + n, POWER_FAIL is 36. -/
def Pin.code : Pin → Nat
  | .presence n => n.val
  | .level n => 16 + n.val
  | .aux n => 32 + n.val
  | .powerFail => 36

/-- A lamp source: its enumeration byte, then a slot byte read only for SLOTn_UNFIT, and sent as 0 for the others
(log 81). -/
def LampSource.bytes : LampSource → List Byte
  | .off => [0, 0]
  | .on => [1, 0]
  | .anySlotUnfit => [2, 0]
  | .anyChannelGated => [3, 0]
  | .refillSeen => [4, 0]
  | .wasteNear => [5, 0]
  | .wasteFull => [6, 0]
  | .linkMinor => [7, 0]
  | .linkMajor => [8, 0]
  | .slotUnfit n => 9 :: u8 n.val

/-- A record of R193: its enumeration byte, then the entry number (0 for the others; log 23). -/
def RecordName.bytes : RecordName → List Byte
  | .identity => [0, 0]
  | .settings => [1, 0]
  | .history n => 2 :: u8 n.val
  | .waste => [3, 0]
  | .cleanMark => [4, 0]

def CheckpointValues.bytes (v : CheckpointValues) : List Byte := u32 v.remaining ++ u24 v.writeCount ++ flag v.mark

def Fill.bytes (f : Fill) : List Byte := u32 f.remaining ++ u24 f.writeCount ++ flag f.mark

/-- REFUSED is 0; a failure kind follows as 1 + its number (log 23; the numbers: log 101). -/
def CheckpointResult.bytes : CheckpointResult → List Byte
  | .refused => [0]
  | .failed k => u8 (1 + k.ctorIdx)

/-- Subject class and subject number (11.2). -/
def Subject.bytes : Subject → List Byte
  | .none => [0, 0]
  | .slot n => 1 :: u8 n.val
  | .channel n => 2 :: u8 n.val
  | .head n => 3 :: u8 n.val
  | .pin p => 4 :: u8 (Pin.code p)

/-- Notice details as bytes, in the order the raising rule lists them (11.2; widths of unlisted classes: log 23). The
first byte of a kind with several forms of details names the form. STALE is 0 and FRESH 1 (log 44). OVERDRAW_LIMIT comes
with the state and the tenure (log 53), what a REFILL found in the entry has one presence byte (log 57),
LEVEL_SENSE_RISE is a set of one cause (log 58), and the LINK details are numbered from FORWARD_FULL on (log 72). Every
ROUTE notice of R61 ends with ALTERNATE_UNFIT as a false/true byte (log 78), and the level of a PIN notice is 1 for
asserted (log 80). The lockout time left of an UNLOCK notice is four bytes alone (log 85). A primary reason of none is
sent as a field that is absent (log 91), and so is a detail that a rule gives on some occasions only (log 92). Where a
rule names both thresholds, counters or grades, the near or MINOR one comes first (log 96). -/
def Details.bytes : Details → List Byte
  | .slot n o t c f =>
    [0] ++ u8 n.ctorIdx ++ u8 o.ctorIdx ++ u16 t.toNat ++ optional 1 (fun x => bitmap x.members) c ++
      optional 2 (fun x => u8 x.1.ctorIdx ++ u8 x.2.ctorIdx) f
  | .overdrawLimit st t => [1] ++ u8 st.ctorIdx ++ u16 t.toNat
  | .refill sn f p st r w e =>
    [0] ++ u64 sn ++ bitmap f.members ++ u8 p.ctorIdx ++ u8 st.ctorIdx ++ u32 r ++ u24 w ++
      optional 7 (fun x => u32 x.1 ++ u24 x.2) e
  | .levelSense sn p st =>
    [1] ++ bitmap [false, false, false, false, false, true] ++ optional 8 u64 sn ++ u8 p.ctorIdx ++ u8 st.ctorIdx
  | .watch w k l a v => u8 w.ctorIdx ++ u8 k.ctorIdx ++ u32 l ++ u8 a.ctorIdx ++ u32 v
  | .switch a b c st => [0] ++ slotOrNone a ++ slotOrNone b ++ u8 c.ctorIdx ++ u8 st.ctorIdx
  | .route st u => [1] ++ u8 st.ctorIdx ++ flag u
  | .gate p q g =>
    optional 1 (fun x => u8 (Reason.ctorIdx x)) p ++ optional 1 (fun x => u8 (Reason.ctorIdx x)) q ++ bitmap g.members
  | .waste f v c n m => u8 f.ctorIdx ++ flag v ++ u32 c ++ u32 n ++ u32 m
  | .link e up a b x y => u8 e.ctorIdx ++ flag (!up) ++ u8 a ++ u8 b ++ flag x ++ flag y
  | .lineRefused r c l n cfg => u8 r.ctorIdx ++ [c] ++ word16 l ++ word16 n ++ optional 2 u16 cfg
  | .temp f r => flag f ++ optional 1 u8 r
  | .checkpoint v r w => v.bytes ++ r.bytes ++ u8 w
  | .history n sn d r l => u8 n.val ++ u64 sn ++ bitmap [d, r] ++ optional 8 u64 l
  | .store e r c src a b =>
    u8 e.ctorIdx ++ optional 2 RecordName.bytes r ++ flag c ++ u8 src.ctorIdx ++ u8 a ++ u8 b
  | .pin a t => flag a ++ u32 t.toNat
  | .unlock e a n l => u8 e.ctorIdx ++ u8 a.ctorIdx ++ u8 n ++ u32 l

/-- R148, 11.2: a NOTICE packet: kind, subject, occurrence count, details. -/
def Notice.packet (n : Notice) : List Byte :=
  Machine.packet kindNotice (u8 n.kind.ctorIdx ++ n.subject.bytes ++ u8 n.count ++ n.details.bytes)

/-- R155, 11.2: a REPLY packet: tag, request code as received, outcome, contents. -/
def Reply.packet (r : Reply) : List Byte :=
  Machine.packet kindReply ([r.tag, r.code] ++ u8 r.outcome.ctorIdx ++ r.contents)

/-! ### Reading fields -/

/-- The number that bytes spell, most significant byte first. -/
def natOf (bytes : List Byte) : Nat := bytes.foldl (fun v b => v * 256 + b.toNat) 0

/-- The field of that width at that position. -/
def fieldAt (bytes : List Byte) (position width : Nat) : Nat := natOf ((bytes.drop position).take width)

/-- The byte at that position. -/
def byteAt (bytes : List Byte) (position : Nat) : Byte := bytes.getD position 0

/-! ### Lines (11.1) -/

/-- The header bytes of a LINE packet: kind, length, channel, line number, waveform set, N. -/
def lineHeaderBytes (channel : Byte) (lineNumber : BitVec 16) (waveformSet : Byte) (nozzles length : BitVec 16) :
    List Byte :=
  kindLine :: (word16 length ++ [channel] ++ word16 lineNumber ++ [waveformSet] ++ word16 nozzles)

/-- How many of a level byte's four nozzles are at that level; nozzle 4k is in bits 7-6. -/
def levelsInByte (level : BitVec 2) (byte : Byte) : Nat :=
  ([6, 4, 2, 0].filter (fun i => byte.extractLsb' i 2 == level)).length

/-- R30: the nozzles at that level in a line's level bytes. -/
def countLevel (level : BitVec 2) (levels : List Byte) : Nat :=
  levels.foldl (fun n b => n + levelsInByte level b) 0

/-- A line of N nozzles has N / 4 level bytes (11.1). -/
def levelBytes (nozzles : Nat) : Nat := nozzles / 4

/-! ### Slot lines (11.3) -/

/-- R197: a request of the part: kind, length, payload and the check byte (256 - s) mod 256. -/
def slotMessage (kind : Byte) (payload : List Byte) : List Byte :=
  let body := kind :: BitVec.ofNat 8 payload.length :: payload
  body ++ [BitVec.ofNat 8 (256 - (body.foldl (fun n b => n + b.toNat) 0) % 256)]

/-- R95: the bytes of a complete message sum to 0 mod 256. -/
def sumsToZero (bytes : List Byte) : Bool := (bytes.foldl (fun n b => n + b.toNat) 0) % 256 == 0

/-- R93: the frame of a byte that is sent, bit after bit, true being mark: a start bit, the data bits least significant
first, the parity bit that makes the count of 1s odd, a stop bit. -/
def frameOf (b : Byte) : List Bool :=
  let data := [0, 1, 2, 3, 4, 5, 6, 7].map b.getLsbD
  false :: data ++ [decide ((data.filter id).length % 2 = 0), true]

/-- R93: the bits of a message, its frames back to back. -/
def framesOf (message : List Byte) : List Bool := message.flatMap frameOf

/-- R93: the count of 1s in the data bits and the parity bit. -/
def onesOf (data : Byte) (parity : Bool) : Nat :=
  ([7, 6, 5, 4, 3, 2, 1, 0].filter (fun i => data.getLsbD i)).length + (if parity then 1 else 0)

/-- R93, R102: the error of a received frame; a byte with both errors is FRAMING. -/
def frameError (data : Byte) (parity stop : Bool) : Option FailKind :=
  if !stop then some .framing else if onesOf data parity % 2 == 0 then some .parity else none

/-- R101: a reply has ended by its length: 3 plus its length byte, or 43 bytes with a length byte above 40. -/
def replyEnded : List Byte → Bool
  | _ :: len :: rest =>
    if len.toNat ≤ 40 then decide (3 + len.toNat ≤ rest.length + 2) else decide (43 ≤ rest.length + 2)
  | _ => false

end Sys2Proof.Machine
end

