-- ==== Sys2Proof/Decode.lean ====
section
/-!
DEFINITION. Words and commands. spec/opcode_table.json gives no row any bits: a command is an event of the block, and
no word spells one. The MGMT packets that carry requests do have an encoding (R196, 11.2): `decodeMgmt` reads the
command that a MGMT payload is, `decodeMgmtPacket` the one that a whole packet is, and `encodeMgmt` writes
the payload of a request.
-/

namespace Sys2Proof

/-- The command that a word spells by the table's bits. No row of the table has bits, so no word spells one. -/
def decodeTableWord (_nbits _w : Nat) : Option Instr := none

/-- The request of that code (R196); a code outside 0x01-0x1D is an unknown request (R155). -/
def requestOf (tag code : Byte) (fields : List Byte) : Instr :=
  match code.toNat with
  | 0x01 => .readPart tag fields
  | 0x02 => .readStatus tag fields
  | 0x03 => .setNoticeMask tag fields
  | 0x04 => .readChannel tag fields
  | 0x05 => .setRoute tag fields
  | 0x06 => .holdChannel tag fields
  | 0x07 => .releaseChannel tag fields
  | 0x08 => .readSlot tag fields
  | 0x09 => .rescanSlot tag fields
  | 0x0A => .setWatch tag fields
  | 0x0B => .loadVolumeTable tag fields
  | 0x0C => .selectVolumeBank tag fields
  | 0x0D => .loadTemperatureTable tag fields
  | 0x0E => .readLink tag fields
  | 0x0F => .readPins tag fields
  | 0x10 => .setPins tag fields
  | 0x11 => .readHistory tag fields
  | 0x12 => .readTrace tag fields
  | 0x13 => .clearTrace tag fields
  | 0x14 => .setPolicy tag fields
  | 0x15 => .grantGrace tag fields
  | 0x16 => .clearHistoryEntry tag fields
  | 0x17 => .resetWaste tag fields
  | 0x18 => .getUnlockNonce tag fields
  | 0x19 => .unlockService tag fields
  | 0x1A => .lockService tag fields
  | 0x1B => .programRootKey tag fields
  | 0x1C => .saveSettings tag fields
  | 0x1D => .restart tag fields
  | _ => .unknownRequest tag code fields

/-- The command that a MGMT packet with a good check is, by its payload: tag, code, fields (11.2, R196); a payload
shorter than 2 bytes has no tag (R194). -/
def decodeMgmt : List Byte → Instr
  | tag :: code :: fields => requestOf tag code fields
  | payload => .mgmtWithoutTag payload.length

/-- R137, R194: the command that a MGMT packet is. Its received check is judged at its end: a packet whose check is good
is what its payload says, and any other is dropped. -/
def decodeMgmtPacket (payload : List Byte) (check : BitVec 16) : Instr :=
  if Machine.mgmtCheck payload = check then decodeMgmt payload else .mgmtCheckFailed ⟨payload, check⟩

/-- The tag, the code and the fields of a request; none for every other command. -/
def requestParts : Instr → Option (Byte × Byte × List Byte)
  | .readPart tag fields => some (tag, 0x01#8, fields)
  | .readStatus tag fields => some (tag, 0x02#8, fields)
  | .setNoticeMask tag fields => some (tag, 0x03#8, fields)
  | .readChannel tag fields => some (tag, 0x04#8, fields)
  | .setRoute tag fields => some (tag, 0x05#8, fields)
  | .holdChannel tag fields => some (tag, 0x06#8, fields)
  | .releaseChannel tag fields => some (tag, 0x07#8, fields)
  | .readSlot tag fields => some (tag, 0x08#8, fields)
  | .rescanSlot tag fields => some (tag, 0x09#8, fields)
  | .setWatch tag fields => some (tag, 0x0A#8, fields)
  | .loadVolumeTable tag fields => some (tag, 0x0B#8, fields)
  | .selectVolumeBank tag fields => some (tag, 0x0C#8, fields)
  | .loadTemperatureTable tag fields => some (tag, 0x0D#8, fields)
  | .readLink tag fields => some (tag, 0x0E#8, fields)
  | .readPins tag fields => some (tag, 0x0F#8, fields)
  | .setPins tag fields => some (tag, 0x10#8, fields)
  | .readHistory tag fields => some (tag, 0x11#8, fields)
  | .readTrace tag fields => some (tag, 0x12#8, fields)
  | .clearTrace tag fields => some (tag, 0x13#8, fields)
  | .setPolicy tag fields => some (tag, 0x14#8, fields)
  | .grantGrace tag fields => some (tag, 0x15#8, fields)
  | .clearHistoryEntry tag fields => some (tag, 0x16#8, fields)
  | .resetWaste tag fields => some (tag, 0x17#8, fields)
  | .getUnlockNonce tag fields => some (tag, 0x18#8, fields)
  | .unlockService tag fields => some (tag, 0x19#8, fields)
  | .lockService tag fields => some (tag, 0x1A#8, fields)
  | .programRootKey tag fields => some (tag, 0x1B#8, fields)
  | .saveSettings tag fields => some (tag, 0x1C#8, fields)
  | .restart tag fields => some (tag, 0x1D#8, fields)
  | .unknownRequest tag code fields => some (tag, code, fields)
  | _ => none

/-- The MGMT payload of a request (11.2); none for every other command. -/
def encodeMgmt (i : Instr) : Option (List Byte) := (requestParts i).map fun x => x.1 :: x.2.1 :: x.2.2

end Sys2Proof
end

