-- ==== Sys2Proof/Config.lean ====
section
/-!
DEFINITION. What the specification leaves open as a value: constants with no body, so that nothing proved of the model
rests on a value of theirs.
-/

namespace Sys2Proof

/-- The keyed digest KD of R74: a 128-bit key and a message of bytes give a 64-bit output.
"The part's behaviour depends only on whether two digests are equal" (00_scope.md): log 7. -/
opaque Config.kd : Key → List Byte → Tag

/-- The Random Source (R78, R161): the nonce of the n-th draw. A free value: log 6. -/
opaque Config.nonce : Nat → Nonce

/-- The symbol times of a millisecond are one more than this number: the specification gives the Fire Link no symbol
rate (log 15). A free value: nothing is known of the rate but that it is not 0. -/
opaque Config.symbolRate : Nat

/-- A free volume of the n-th draw for a level, for a waveform set that the volume table does not hold (log 8).
`Machine.freeVolume` brings it into the range of R32. -/
opaque Config.volume : Nat → Nat → Nat

end Sys2Proof
end

