-- ==== Sys2Proof/Machine/Ops.lean ====
section
/-!
DEFINITION. The named operations every command shares: reading and replacing one record, the Millisecond Timebase,
free values, the Notice Queue (R167), the writer queue (R185), the reply list (R154), the upstream forward lane
(R136, R149), the Link Monitor (R151, R152) and the forward buffer (R138).
-/

namespace Sys2Proof.Machine

open Sys2Proof

/-- The numbers of things in ascending order. -/
def channels : List Channel := List.finRange 12
def slotNos : List SlotNo := List.finRange 16
def headNos : List HeadNo := List.finRange 8
def entryNos : List EntryNo := List.finRange 64
def auxNos : List (Fin 4) := List.finRange 4

/-! ### One record of a block -/

def State.slot (s : State) (i : SlotNo) : Slot := s.slots[i]
def State.putSlot (s : State) (i : SlotNo) (x : Slot) : State := { s with slots := s.slots.set i x }
def State.line (s : State) (i : SlotNo) : LineCtl := s.lines[i]
def State.putLine (s : State) (i : SlotNo) (x : LineCtl) : State := { s with lines := s.lines.set i x }
def State.senseOf (s : State) (i : SlotNo) : Sense := s.sense[i]
def State.putSense (s : State) (i : SlotNo) (x : Sense) : State := { s with sense := s.sense.set i x }
def State.meter (s : State) (c : Channel) : Meter := s.meters[c]
def State.putMeter (s : State) (c : Channel) (x : Meter) : State := { s with meters := s.meters.set c x }
def State.head (s : State) (h : HeadNo) : Head := s.heads[h]
def State.putHead (s : State) (h : HeadNo) (x : Head) : State := { s with heads := s.heads.set h x }
def State.route (s : State) (c : Channel) : Route := s.routes[c]
def State.putRoute (s : State) (c : Channel) (x : Route) : State := { s with routes := s.routes.set c x }
def State.routeCfg (s : State) (c : Channel) : RouteCfg := s.settings.routes[c]
def State.policy (s : State) : Policy := s.settings.policy
def State.entry (s : State) (n : EntryNo) : Option HistoryEntry := s.history.entries[n]
def State.putEntry (s : State) (n : EntryNo) (x : Option HistoryEntry) : State :=
  { s with history := { s.history with entries := s.history.entries.set n x } }

/-- The filter of an input. -/
def State.filter (s : State) : Pin → Filter
  | .presence n => s.pins.presence[n]
  | .level n => s.pins.level[n]
  | .aux n => s.pins.aux[n]
  | .powerFail => s.pins.powerFail

def State.putFilter (s : State) (p : Pin) (f : Filter) : State :=
  match p with
  | .presence n => { s with pins := { s.pins with presence := s.pins.presence.set n f } }
  | .level n => { s with pins := { s.pins with level := s.pins.level.set n f } }
  | .aux n => { s with pins := { s.pins with aux := s.pins.aux.set n f } }
  | .powerFail => { s with pins := { s.pins with powerFail := f } }

/-! ### The symbols that leave the forward buffer -/

/-- The symbols of a packet not yet sent: its start symbol, which is sent before its first byte (R138), and the bytes
placed. -/
def ForwardPacket.unsent (p : ForwardPacket) : Nat := p.placed.length + 1 - p.sent

/-- The bytes of a packet placed and not yet sent. -/
def ForwardPacket.bytesLeft (p : ForwardPacket) : Nat := p.placed.length - (p.sent - 1)

/-- The symbols of these packets not yet sent. -/
def unsentSymbols (ps : List ForwardPacket) : Nat := (ps.map ForwardPacket.unsent).sum

/-- R138: the packets after so many symbol times, symbols being sent in the order in which they were placed. -/
def passSymbols : Nat → List ForwardPacket → List ForwardPacket
  | _, [] => []
  | n, p :: ps => { p with sent := p.sent + min n p.unsent } :: passSymbols (n - p.unsent) ps

/-- The packets once the symbol times that are held have been taken (log 15). -/
def Forward.passed (f : Forward) : List ForwardPacket := passSymbols f.held f.buffer

/-- R138: the backlog, the bytes in the buffer not yet sent. -/
def Forward.backlog (f : Forward) : Nat := (f.passed.map ForwardPacket.bytesLeft).sum

/-- The symbol times in which the transmitter sends what the buffer holds: the bytes of the backlog, and the start
symbols still to be sent before them (R138). -/
def Forward.toSend (f : Forward) : Nat := unsentSymbols f.buffer - f.held

/-- R138: the next symbol of a packet. -/
def ForwardPacket.next (p : ForwardPacket) : SentSymbol :=
  if p.sent = 0 then .start else .data (p.placed.getD (p.sent - 1) 0x00#8)

/-- R138: what the downstream forward transmitter sends in a symbol time: the oldest symbol not yet sent, and a fill
symbol when the buffer holds nothing ready to send. -/
def Forward.sends (f : Forward) : SentSymbol :=
  match f.passed.find? fun p => decide (0 < p.unsent) with
  | none => .fill
  | some p => p.next

/-- R138: the buffer holds up to 1024 bytes. -/
def Forward.free (f : Forward) : Nat := 1024 - f.backlog

/-- The symbols of a packet that can leave now. The check of a line in flight is sent at its line end (R143), so until
then the symbols before it can leave, and no more (log 15). -/
def ForwardPacket.ready (p : ForwardPacket) : Nat :=
  (if p.live then min p.placed.length (p.total - 2) else p.placed.length) + 1 - p.sent

/-- R138: symbols are sent in the order they were placed; none passes a line in flight. -/
def sendSymbols : Nat → List ForwardPacket → List ForwardPacket
  | _, [] => []
  | n, p :: ps =>
    { p with sent := p.sent + min n p.ready } :: (if p.live then ps else sendSymbols (n - p.ready) ps)

/-- A packet stays while a symbol of it is to be sent or placed, or its line end is to come. -/
def ForwardPacket.stays (p : ForwardPacket) : Bool := p.live || decide (p.sent ≤ p.total)

/-- R138: so many symbol times pass, and in each of them a symbol of the buffer leaves, a start symbol before each
packet's bytes. Those that a line end has taken early are no further ones, and symbols that a check holds up are held
(log 15). -/
def Forward.send (f : Forward) (symbols : Nat) : Forward :=
  let due := f.held + (symbols - f.early)
  let buffer := (sendSymbols due f.buffer).filter ForwardPacket.stays
  { f with
    buffer := buffer, early := f.early - symbols
    held := min (unsentSymbols buffer) (due - (unsentSymbols f.buffer - unsentSymbols buffer)) }

def State.send (s : State) (symbols : Nat) : State := { s with forward := s.forward.send symbols }

/-! ### The Millisecond Timebase -/

/-- The count that many milliseconds from now, wrapping (00_scope.md, Times). -/
def State.after (s : State) (ms : Nat) : Time := s.time + BitVec.ofNat 32 ms

/-- Whether a count lies ahead of now, by less than half the range of the count. -/
def State.ahead (s : State) (t : Time) : Bool := (t - s.time).toNat < 2147483648

/-- The milliseconds left until an expiry; 0 when it is overdue. -/
def State.left (s : State) (expiry : Time) : Nat := if s.ahead expiry then (expiry - s.time).toNat else 0

/-- The milliseconds left on a timer that may be idle. -/
def State.leftOf (s : State) : Option Time → Nat
  | none => 0
  | some t => s.left t

/-- The milliseconds since a count, modulo 4,294,967,296. -/
def State.since (s : State) (t : Time) : Nat := (s.time - t).toNat

/-- The symbol times of so many milliseconds (log 15). -/
def symbolsIn (ms : Nat) : Nat := (Config.symbolRate + 1) * ms

/-- The count comes to that value, so many milliseconds later: the downstream forward transmitter goes on sending
meanwhile (R138, R150; log 15). -/
def State.waits (s : State) (ms : Nat) (count : Time) : State := { s.send (symbolsIn ms) with time := count }

/-- A timer that expires has run its time: the count is at its expiry, or past it when the expiry is taken late
(log 2). -/
def State.reach (s : State) (expiry : Time) : State :=
  if s.ahead expiry then s.waits (expiry - s.time).toNat expiry else s

/-! ### Free values -/

/-- R78, R161: the Random Source supplies a fresh nonce (log 6). -/
def State.freshNonce (s : State) : Nonce := Config.nonce s.draws

/-- The next free value is another one. -/
def State.drawn (s : State) : State := { s with draws := s.draws + 1 }

/-- Volumes for a waveform set the table does not hold: free values within 10-65535 (R32; log 8). -/
def freeVolume (draw level : Nat) : Nat := 10 + Config.volume draw level % 65526

/-! ### The Notice Queue -/

/-- R166, R167 step 3: the entry takes the notice: its count rises, saturating, and its details are replaced. -/
def Notice.merge (n : Notice) (d : Details) : Notice := { n with count := satAdd 255 n.count 1, details := d }

/-- Whether an entry has that kind and subject (R166). -/
def Notice.isAbout (n : Notice) (kind : NoticeKind) (subject : Subject) : Bool :=
  decide (n.kind = kind) && decide (n.subject = subject)

/-- R167 step 3: the queue with the notice merged into the entry of its kind and subject. -/
def mergeNotice (kind : NoticeKind) (subject : Subject) (d : Details) : List Notice → List Notice
  | [] => []
  | n :: ns => if n.isAbout kind subject then n.merge d :: ns else n :: mergeNotice kind subject d ns

/-- R168: while the oldest entry's packet is being sent, a merge into it is also counted as one after the grant. -/
def NoticeUnit.mergedAfter (u : NoticeUnit) (kind : NoticeKind) (subject : Subject) : Option Nat :=
  match u.merged, u.queue.head? with
  | some k, some n => if n.isAbout kind subject then some (k + 1) else some k
  | m, _ => m

/-- The position of a kind among the fourteen (R166). -/
def NoticeKind.position : NoticeKind → Fin 14
  | .slot => 0 | .refill => 1 | .watch => 2 | .route => 3 | .gate => 4 | .waste => 5 | .link => 6
  | .lineRefused => 7 | .temp => 8 | .checkpoint => 9 | .history => 10 | .store => 11 | .pin => 12 | .unlock => 13

/-- R167: the Notice Queue takes a notice. The seen flag is set; a notice merges with the entry of its kind and
subject, masked or not (R169; log 10); otherwise a masked notice goes no further, a full queue drops it, and else it is
appended. -/
def NoticeUnit.take (u : NoticeUnit) (enabled : Bool) (kind : NoticeKind) (subject : Subject) (d : Details) :
    NoticeUnit :=
  let u := { u with seen := u.seen.set kind.position true }
  if u.queue.any (fun n => n.isAbout kind subject) then
    { u with queue := mergeNotice kind subject d u.queue, merged := u.mergedAfter kind subject }
  else if !enabled then u
  else if 32 ≤ u.queue.length then { u with overflow := true, dropped := satAdd 255 u.dropped 1 }
  else { u with queue := u.queue ++ [{ kind := kind, subject := subject, count := 1, details := d }] }

/-- R167: a notice is raised. -/
def State.raise (s : State) (kind : NoticeKind) (subject : Subject) (d : Details) : State :=
  { s with notices := s.notices.take s.settings.mask[kind.position] kind subject d }

/-- R152: a LINK notice carries the whole link picture. -/
def State.raiseLink (s : State) (e : LinkEvent) : State :=
  s.raise .link .none
    (.link e s.link.up s.link.minor.counter s.link.major.counter s.link.minor.asserted s.link.major.asserted)

/-- R160: an UNLOCK notice carries the access level, the failed-unlock count and the lockout timer's time left. -/
def State.raiseUnlock (s : State) (e : UnlockEvent) : State :=
  s.raise .unlock .none (.unlock e s.requests.access s.requests.failedUnlocks (s.leftOf s.requests.lockout))

/-! ### The writer queue -/

/-- The record a write names. -/
def RecordWrite.record : RecordWrite → RecordName
  | .identity _ => .identity
  | .settings _ => .settings
  | .history n _ => .history n
  | .waste _ => .waste
  | .cleanMark _ => .cleanMark

/-- R185: new contents replace those of a pending write of the same record, in its place. -/
def replaceWrite (w : RecordWrite) : List RecordWrite → List RecordWrite
  | [] => []
  | p :: ps => if p.record = w.record then w :: ps else p :: replaceWrite w ps

/-- R185: when no write is in progress, the oldest pending write begins, with the timing in force (R186). -/
def Nvm.begin (m : Nvm) : Nvm :=
  match m.inProgress, m.queue with
  | none, w :: ws => { m with inProgress := some (w, m.timing), queue := ws }
  | _, _ => m

/-- R185: a write is queued. -/
def Nvm.enqueue (m : Nvm) (w : RecordWrite) : Nvm :=
  Nvm.begin
    { m with
      queue := if m.queue.any (fun p => decide (p.record = w.record)) then replaceWrite w m.queue
               else m.queue ++ [w] }

def State.queueWrite (s : State) (w : RecordWrite) : State := { s with nvm := s.nvm.enqueue w }

/-- R119: a write of a history record carries the entry as it stands when the write is queued. -/
def State.queueEntry (s : State) (n : EntryNo) : State := s.queueWrite (.history n (s.entry n))

/-! ### The reply list -/

/-- R154, R157: the places in use: completed replies, and a place reserved for an unlock in progress. -/
def RequestUnit.placesInUse (r : RequestUnit) : Nat := r.replies.length + (if r.attempt.isSome then 1 else 0)

/-- R157: a completed reply joins the reply list as the newest. -/
def State.addReply (s : State) (r : Reply) : State :=
  { s with requests := { s.requests with replies := s.requests.replies ++ [r] } }

/-! ### The Link Monitor -/

/-- R152: the counter rises from 0. -/
def Grade.rise (g : Grade) (start : Time) : Grade :=
  if g.counter = 0 then { g with counter := 1, timer := if g.asserted then none else some start }
  else { g with counter := satAdd 255 g.counter 1 }

/-- R151, R152: a good packet advances the leak count; at its limit the counter falls by 1 unless it is 0, and a return
to 0 is judged by the grade. -/
def Grade.leaks (g : Grade) (limit : Nat) (start : Time) : Grade :=
  if g.leak + 1 < limit then { g with leak := g.leak + 1 }
  else if g.counter = 1 then
    { g with leak := 0, counter := 0, timer := if g.asserted then some start else none }
  else { g with leak := 0, counter := g.counter - 1 }

/-- R151: a check failure or a framing fault adds 1 to both counters. -/
def State.countFailure (s : State) : State :=
  { s with
    link :=
      { s.link with
        minor := s.link.minor.rise (s.after s.policy.minorWindow)
        major := s.link.major.rise (s.after s.policy.majorWindow) } }

/-- R151: a good packet adds 1 to both leak counts. MINOR leaks at 100,000 and clears after three windows; MAJOR leaks
at 1,000 and clears after five (R152). -/
def State.countGood (s : State) : State :=
  { s with
    link :=
      { s.link with
        minor := s.link.minor.leaks 100000 (s.after (3 * s.policy.minorWindow))
        major := s.link.major.leaks 1000 (s.after (5 * s.policy.majorWindow)) } }

/-- R137: the check of a packet is judged at its end. -/
def State.countCheck (s : State) (good : Bool) : State := if good then s.countGood else s.countFailure

/-! ### The packets of the forward buffer -/

/-- R138: a packet enters the buffer behind those placed before it. -/
def State.place (s : State) (p : ForwardPacket) : State :=
  { s with forward := { s.forward with buffer := s.forward.buffer ++ [p] } }

/-- R142, R144: a line's packet is completed: zero levels for the levels never placed, a check poisoned for the bytes
sent, in place of any check placed before. -/
def ForwardPacket.poison (p : ForwardPacket) : ForwardPacket :=
  let body := p.placed.take (p.total - 2)
  let body := body ++ List.replicate (p.total - 2 - body.length) 0x00#8
  { p with placed := body ++ poisonedCheck body }

/-- The newest packet of the buffer changed. -/
def onNewest (f : ForwardPacket → ForwardPacket) : List ForwardPacket → List ForwardPacket
  | [] => []
  | [p] => [f p]
  | p :: ps => p :: onNewest f ps

/-- The newest line in flight changed: the one whose header was taken last. -/
def onNewestFlight (f : Flight → Flight) : List Flight → List Flight
  | [] => []
  | [l] => [f l]
  | l :: ls => l :: onNewestFlight f ls

/-- R141, R142: level bytes placed as received for an open line, as zero levels for a blanked one. -/
def levelsPlaced (blanked : Bool) (levels : List Byte) : List Byte :=
  if blanked then List.replicate levels.length 0x00#8 else levels

/-! ### The upstream forward lane -/

/-- R149: the link-lost time. -/
def linkLostTime : Nat := 50

/-- R137, R149: every symbol received restarts the link-lost timer while the link is UP. -/
def State.symbolReceived (s : State) : State :=
  if s.link.up then { s with link := { s.link with timer := some (s.after linkLostTime) } } else s

/-- R149: in LOST the first packet that begins to arrive restores the link. -/
def State.packetBegins (s : State) : State :=
  if s.link.up then s.symbolReceived
  else
    { s with link := { s.link with up := true, timer := some (s.after linkLostTime) } }.raiseLink .restored

/-- R30, R141: the drop counts of an open line are taken from its levels as received, which come with the command that
ends their arrival (log 16); a blanked line keeps none. -/
def Flight.count (l : Flight) (levels : List Byte) : Flight :=
  let count (level : BitVec 2) := if l.blanked then 0 else countLevel level levels
  { l with n1 := count 1, n2 := count 2, n3 := count 3 }

/-- R141: level bytes of the arriving line are placed behind its header, and counted. -/
def State.placeLevels (s : State) (arrived : List Byte) : State :=
  match s.forward.flights.getLast? with
  | none => s
  | some l =>
    let levels := arrived.take (levelBytes l.nozzles)
    let placed := levelsPlaced l.blanked levels
    { s with
      forward :=
        { s.forward with
          buffer := onNewest (fun p => { p with placed := p.placed ++ placed }) s.forward.buffer
          flights := onNewestFlight (fun l => l.count levels) s.forward.flights } }

/-- R136, R142: the arriving line is cut: its levels that arrived are placed and counted (R141), zero levels and a
poisoned check follow, its check is FAILED. -/
def State.cutLine (s : State) (arrived : List Byte) : State :=
  let t := s.placeLevels arrived
  { t with
    forward :=
      { t.forward with
        buffer := onNewest ForwardPacket.poison t.forward.buffer
        flights := onNewestFlight (fun l => { l with upstream := .failed }) t.forward.flights } }

/-- Bytes of the packet in progress that had arrived when something ends it: the level bytes of a line whose header was
taken are placed (R141), and the buffer drains meanwhile (R138). -/
def State.bytesArrive (s : State) (arrived : List Byte) : State :=
  (match s.link.rx with
    | .line => s.placeLevels arrived
    | _ => s).send arrived.length

/-- R136: a start or fill symbol that arrives before the current packet's check is complete cuts the packet, and the
cut is one framing fault. The rest of an abandoned line counts neither way (R144), and the rest of a packet that the
loss of the link ended is no packet (R149, R150). -/
def State.cutPacket (s : State) (arrived : List Byte) : State :=
  match s.link.rx with
  | .idle => s
  | .lostRest => s
  | .receiving => (s.send arrived.length).countFailure
  | .refusedLine _ _ => (s.send arrived.length).countFailure
  | .line => ((s.cutLine arrived).send arrived.length).countFailure
  | .abandonedLine => s.send arrived.length

/-- R136, R149: a start symbol or a fill symbol arrives: it cuts a packet in progress, restores or keeps the link, and
a start symbol begins a packet. -/
def State.symbolArrives (s : State) (symbol : LaneSymbol) (arrived : List Byte) : State :=
  let s := (s.cutPacket arrived).send 1
  let s := s.packetBegins
  { s with link := { s.link with rx := match symbol with | .start => .receiving | .fill => .idle } }

/-- A command that ends a packet, or takes its header, follows the packet's start symbol. Where that symbol was not a
step of its own, it is taken here (log 4). -/
def State.ensureBegun (s : State) : State :=
  if s.link.up = true ∧ s.link.rx = .receiving then s else s.symbolArrives .start []

/-- The bytes of a packet that is not forwarded arrive, to its end: the buffer drains meanwhile (R138), the timer
restarts (R149), and no packet is in progress. -/
def State.packetArrives (s : State) (payloadBytes : Nat) : State :=
  let s := s.ensureBegun.send (laneBytes payloadBytes)
  let s := s.symbolReceived
  { s with link := { s.link with rx := .idle } }

/-! ### Requests -/

/-- What carrying out a request gives: the state it leaves, the outcome and the contents of the reply (R155). -/
structure Answer where
  state : State
  outcome : ReplyOutcome
  contents : List Byte

/-- R155: a refused request changes nothing, and its reply carries no contents. -/
def refuse (s : State) (o : ReplyOutcome) : Answer := ⟨s, o, []⟩

/-- R155: a request that passes every check is answered DONE. -/
def done (s : State) (contents : List Byte) : Answer := ⟨s, .done, contents⟩

/-- R155, check 3: the request needs SERVICE. -/
def needsService (s : State) (k : Answer) : Answer :=
  match s.requests.access with
  | .operate => refuse s .refusedLevel
  | .service => k

/-- R154: with 16 places in use the request is turned away: it is not carried out and gets no reply. -/
def State.turnAway (s : State) : State :=
  { s with
    notices :=
      { s.notices with turnedAway := true, turnedAwayCount := satAdd 255 s.notices.turnedAwayCount 1 } }

/-- R137, R151: a MGMT packet with a good check ends; its payload is the tag, the code and the fields (11.2). It counts
before its request is carried out (log 61). -/
def State.requestArrives (s : State) (fields : List Byte) : State :=
  (s.packetArrives (fields.length + 2)).countGood

/-- R154: a request is carried out at once, and its reply takes a place, while fewer than 16 places are in use. -/
def State.carryOut (s : State) (tag code : Byte) (k : State → Answer) : State :=
  if s.requests.placesInUse < 16 then
    let a := k s
    a.state.addReply { tag := tag, code := code, outcome := a.outcome, contents := a.contents }
  else s.turnAway

/-- A request is taken (R154, R155): the packet ends, and the request is carried out or turned away. -/
def State.takeRequest (s : State) (tag code : Byte) (fields : List Byte) (k : State → Answer) : State :=
  (s.requestArrives fields).carryOut tag code k

/-- A part without power takes no event but POWER_ON and the raw levels of its pins (R192; log 27). -/
def whenPowered (s : State) (f : State → State) : Host.Outcome State Fault Refusal :=
  .next (if s.powered then f s else s)

end Sys2Proof.Machine
end

