-- ==== Sys2Proof/Machine/Flags.lean ====
section
/-!
DEFINITION. What follows from the state at every moment and is stored nowhere: fitness and drawability (R11), the
slot-unfit flag (R12), watch conditions (R19), the route conditions (R52, R53), the primary gate reason (R64), the
waste flags (R44), the live flags of the status summary (R170) and the lamp levels (R181).
-/

namespace Sys2Proof.Machine

open Sys2Proof

/-! ### Slots -/

/-- R11: a slot is fit for a channel. -/
def Slot.fitFor (x : Slot) (ink : Nat) : Bool :=
  (decide (x.state = .genuine) || decide (x.state = .grace)) && !x.held && decide (x.ink = some ink) &&
    decide (ink ≠ 0)

/-- R11: a slot is drawable for a channel: fit, or DEPLETED below the overdraw limit. -/
def Slot.drawableFor (x : Slot) (ink limit : Nat) : Bool :=
  x.fitFor ink ||
    (decide (x.state = .depleted) && !x.held && decide (x.ink = some ink) && decide (x.overdraw < limit))

def State.fit (s : State) (i : SlotNo) (c : Channel) : Bool := (s.slot i).fitFor (s.routeCfg c).ink

def State.drawable (s : State) (i : SlotNo) (c : Channel) : Bool :=
  (s.slot i).drawableFor (s.routeCfg c).ink s.policy.overdrawLimit

/-- R12: the slot-unfit flag. -/
def Slot.unfit (x : Slot) : Bool := !(decide (x.state = .genuine) || decide (x.state = .grace)) || x.held

/-- The states in which checkpoints are written (R23). -/
def SlotState.supplies : SlotState → Bool
  | .genuine => true
  | .depleted => true
  | _ => false

/-- R19: the quantity a watch compares. -/
def Watch.quantity (w : Watch) (x : Slot) : Nat :=
  match w.kind with
  | .remainingAtOrBelow => x.remaining.getD 0
  | .graceAtOrBelow => x.grace
  | .overdrawAtOrAbove => x.overdraw

/-- R19: the condition of a watch; false in every other state. -/
def Watch.condition (w : Watch) (x : Slot) : Bool :=
  match w.kind with
  | .remainingAtOrBelow => x.state.supplies && decide (w.quantity x ≤ w.limit)
  | .graceAtOrBelow =>
    (decide (x.state = .grace) || decide (x.state = .spent)) && decide (w.quantity x ≤ w.limit)
  | .overdrawAtOrAbove => decide (x.state = .depleted) && decide (w.limit ≤ w.quantity x)

/-- R20: a watch holds the slot. -/
def Watch.holds (w : Watch) : Bool := decide (w.action = .hold) && decide (w.state = .fired)

def Slot.watch (x : Slot) : WatchNo → Watch
  | .w0 => x.w0
  | .w1 => x.w1

/-- R20: a watch replaced, and held recomputed. -/
def Slot.putWatch (x : Slot) (n : WatchNo) (w : Watch) : Slot :=
  match n with
  | .w0 => { x with w0 := w, held := w.holds || x.w1.holds }
  | .w1 => { x with w1 := w, held := x.w0.holds || w.holds }

/-- R10: the members of a cause set, together. -/
def Causes.union (a b : Causes) : Causes :=
  ⟨a.rollback || b.rollback, a.depletedReturn || b.depletedReturn, a.levelRise || b.levelRise,
    a.markConflict || b.markConflict, a.overNominal || b.overNominal, a.levelSenseRise || b.levelSenseRise⟩

def Causes.none : Causes := ⟨false, false, false, false, false, false⟩

def Causes.isEmpty (a : Causes) : Bool := decide (a = Causes.none)

/-! ### Routes -/

/-- R177: the reported level of a LEVEL input: its filtered level while its enable is on, and WET otherwise; true is
LOW. -/
def State.reportedLow (s : State) (i : SlotNo) : Bool :=
  s.settings.pins.levelEnable[i] && (s.filter (.level i)).filtered

/-- R53, DF: the default slot is fit for the channel. -/
def State.defaultFit (s : State) (c : Channel) : Bool :=
  match (s.routeCfg c).defaultSlot with
  | none => false
  | some i => s.fit i c

/-- R53, AF: the alternate slot is configured and fit for the channel. -/
def State.alternateFit (s : State) (c : Channel) : Bool :=
  match (s.routeCfg c).alternate with
  | none => false
  | some i => s.fit i c

/-- R52: the leave-default condition D. -/
def State.leaveDefault (s : State) (c : Channel) : Bool :=
  match (s.routeCfg c).source with
  | .activeUnfit => !s.defaultFit c
  | .levelLow =>
    match (s.routeCfg c).defaultSlot with
    | none => false
    | some i => s.reportedLow i
  | .aux0 => (s.filter (.aux 0)).filtered
  | .aux1 => (s.filter (.aux 1)).filtered
  | .aux2 => (s.filter (.aux 2)).filtered
  | .aux3 => (s.filter (.aux 3)).filtered
  | .always => true
  | .never => false

/-- R53: the forced-return condition. -/
def State.forcedReturn (s : State) (c : Channel) : Bool := !s.alternateFit c && s.defaultFit c

/-- R53: the revert condition. -/
def State.revertHolds (s : State) (c : Channel) : Bool :=
  (s.routeCfg c).revertEnable && !s.leaveDefault c && s.defaultFit c && s.alternateFit c

/-- R52: the AUX input a condition source names. -/
def CondSource.aux : CondSource → Option (Fin 4)
  | .aux0 => some 0
  | .aux1 => some 1
  | .aux2 => some 2
  | .aux3 => some 3
  | _ => none

/-- R63: NO_SUPPLY: there is no active slot, or the active slot is not drawable for the channel. -/
def State.noSupply (s : State) (c : Channel) : Bool :=
  match (s.route c).active with
  | none => true
  | some i => !s.drawable i c

/-- R64: the highest-ranked member. -/
def Gate.primary (g : Gate) : Option Reason :=
  if g.powerSave then some .powerSave
  else if g.noRoute then some .noRoute
  else if g.operatorHold then some .operatorHold
  else if g.noSupply then some .noSupply
  else if g.settle then some .settle
  else none

/-- R65: the gate decision is open exactly when the gate reasons are empty. -/
def Gate.isOpen (g : Gate) : Bool := !g.powerSave && !g.noRoute && !g.operatorHold && !g.noSupply && !g.settle

/-- R62: the level of a VALVE output. -/
def State.valveLevel (s : State) (c : Channel) : Bool :=
  match (s.route c).state with
  | .unrouted => false
  | .onDefault => (s.routeCfg c).valveInvert
  | .pendingAlt => (s.routeCfg c).valveInvert
  | .onAlternate => !(s.routeCfg c).valveInvert
  | .pendingDefault => !(s.routeCfg c).valveInvert

/-! ### Status summary and lamps -/

/-- R44 -/
def State.wasteNear (s : State) : Bool := decide (s.policy.wasteNear ≤ s.waste.counter)

/-- R44 -/
def State.wasteFull (s : State) : Bool := decide (s.policy.wasteFull ≤ s.waste.counter)

/-- R64: at least one channel that is not UNROUTED has a non-empty gate set. -/
def State.anyChannelGated (s : State) : Bool :=
  channels.any fun c => decide ((s.route c).state ≠ .unrouted) && !(s.route c).gate.isOpen

/-- Whether a slot that may be none has its slot-unfit flag true. -/
def State.namedUnfit (s : State) : Option SlotNo → Bool
  | none => false
  | some i => (s.slot i).unfit

/-- R170: at least one slot that a routed channel names as its default or alternate is unfit. -/
def State.anySlotUnfit (s : State) : Bool :=
  channels.any fun c =>
    decide ((s.route c).state ≠ .unrouted) &&
      (s.namedUnfit (s.routeCfg c).defaultSlot || s.namedUnfit (s.routeCfg c).alternate)

/-- R170: the live flags, in the order of the table. -/
def State.liveFlags (s : State) : List Bool :=
  [s.wasteNear, s.wasteFull, s.link.minor.asserted, s.link.major.asserted, !s.link.up, s.anyChannelGated,
    s.anySlotUnfit, decide (s.requests.access = .service), s.requests.lockout.isSome]

/-- R181: the value of a lamp source. -/
def State.lampSource (s : State) : LampSource → Bool
  | .off => false
  | .on => true
  | .anySlotUnfit => s.anySlotUnfit
  | .anyChannelGated => s.anyChannelGated
  | .refillSeen => s.notices.seen[NoticeKind.refill.position]
  | .wasteNear => s.wasteNear
  | .wasteFull => s.wasteFull
  | .linkMinor => s.link.minor.asserted
  | .linkMajor => s.link.major.asserted
  | .slotUnfit n => (s.slot n).unfit

/-- R181: the level of a LAMP output: its source's value, inverted when invert is on (log 28). -/
def State.lampLevel (s : State) (n : Fin 4) : Bool :=
  let lamp := s.settings.pins.lamps[n]
  s.lampSource lamp.source != lamp.invert

end Sys2Proof.Machine
end

