-- ==== Sys2Proof/Machine/Operands.lean ====
section
/-!
DEFINITION. The operands of the requests: the payload size of each (R155 check 2, R196), the fields read from the
bytes, the enumerations (R156; 11.2: members numbered from 0 in the order of the defining rule) and the clamps.
-/

namespace Sys2Proof.Machine

open Sys2Proof

/-- R155, check 2: a payload shorter or longer than the fields of the code need is answered BAD_VALUE. -/
def sized (s : State) (fields : List Byte) (needed : Nat) (k : Answer) : Answer :=
  if fields.length = needed then k else refuse s .badValue

/-- R196: the field bytes of a request whose list starts with the count byte at that position. -/
def listSize (fields : List Byte) (countAt member : Nat) : Nat :=
  countAt + 1 + member * (byteAt fields countAt).toNat

/-- A number of a thing that is in range. -/
def numberOf (n : Nat) (v : Nat) : Option (Fin n) := if h : v < n then some ⟨v, h⟩ else none

/-- A slot that may be none: 0xFF is none; 16-254 is out of range (R196 Note 2). -/
def slotField (v : Nat) : Option (Option SlotNo) :=
  if v = 255 then some none else (numberOf 16 v).map some

/-- on/off, false/true; another byte is outside the enumeration (R196 Note 1). -/
def boolOf : Nat → Option Bool
  | 0 => some false
  | 1 => some true
  | _ => none

/-! ### Enumerations -/

def bankOf : Nat → Option BankName
  | 0 => some .a
  | 1 => some .b
  | _ => none

def watchNoOf : Nat → Option WatchNo
  | 0 => some .w0
  | 1 => some .w1
  | _ => none

/-- R21: mode ARM (true) or OFF (false). -/
def armModeOf : Nat → Option Bool
  | 0 => some true
  | 1 => some false
  | _ => none

def watchKindOf : Nat → Option WatchKind
  | 0 => some .remainingAtOrBelow
  | 1 => some .graceAtOrBelow
  | 2 => some .overdrawAtOrAbove
  | _ => none

def watchActionOf : Nat → Option WatchAction
  | 0 => some .notify
  | 1 => some .hold
  | _ => none

def condSourceOf : Nat → Option CondSource
  | 0 => some .activeUnfit
  | 1 => some .levelLow
  | 2 => some .aux0
  | 3 => some .aux1
  | 4 => some .aux2
  | 5 => some .aux3
  | 6 => some .always
  | 7 => some .never
  | _ => none

def nonGenuineOf : Nat → Option NonGenuinePolicy
  | 0 => some .grace
  | 1 => some .reject
  | _ => none

def refillPolicyOf : Nat → Option RefillPolicy
  | 0 => some .acceptLow
  | 1 => some .grace
  | 2 => some .reject
  | _ => none

def bitRateOf : Nat → Option BitRate
  | 0 => some .r9600
  | 1 => some .r19200
  | 2 => some .r38400
  | 3 => some .r76800
  | _ => none

/-- R169: mode ENABLE (true) or DISABLE (false). -/
def enableModeOf : Nat → Option Bool
  | 0 => some true
  | 1 => some false
  | _ => none

/-- R182: what a lamp source field holds: a source, a source outside R181's list, or SLOTn_UNFIT with n above 15. -/
inductive LampField where
  | source (x : LampSource)
  | outside
  | slotOutOfRange
  deriving DecidableEq, Repr

/-- The two bytes of a lamp source (11.2). -/
def lampFieldOf (source slot : Nat) : LampField :=
  match source with
  | 0 => .source .off
  | 1 => .source .on
  | 2 => .source .anySlotUnfit
  | 3 => .source .anyChannelGated
  | 4 => .source .refillSeen
  | 5 => .source .wasteNear
  | 6 => .source .wasteFull
  | 7 => .source .linkMinor
  | 8 => .source .linkMajor
  | 9 =>
    match numberOf 16 slot with
    | some n => .source (.slotUnfit n)
    | none => .slotOutOfRange
  | _ => .outside

/-! ### Whole operands -/

/-- R69: a nozzle count: below 64 to 64, above 2048 to 2048, otherwise rounded down to a multiple of 64. -/
def clampNozzles (v : Nat) : Nat := clamp 64 2048 v / 64 * 64

/-- R69: what the checks of Set Route find in its fields: the channel and the route record to store, or the outcome of
the first check that fails. -/
def setRouteOperand (f : List Byte) : Except ReplyOutcome (Channel × RouteCfg) :=
  match numberOf 12 (fieldAt f 0 1) with
  | none => .error .badSubject
  | some c =>
  match slotField (fieldAt f 5 1), slotField (fieldAt f 6 1), numberOf 8 (fieldAt f 2 1) with
  | some d, some a, some h =>
    match condSourceOf (fieldAt f 7 1), boolOf (fieldAt f 10 1), boolOf (fieldAt f 14 1) with
    | some src, some rev, some inv =>
      if 31 < fieldAt f 1 1 then .error .badValue
      else if a.isSome && decide (a = d) then .error .badValue
      else
        .ok (c,
          { ink := fieldAt f 1 1, head := h, nozzles := clampNozzles (fieldAt f 3 2), defaultSlot := d,
            alternate := a, source := src, switchDelay := min 60000 (fieldAt f 8 2), revertEnable := rev,
            revertDelay := min 60000 (fieldAt f 11 2), settleLines := min 255 (fieldAt f 13 1), valveInvert := inv,
            fullAllowance := min 15 (fieldAt f 15 1), runLength := clamp 1 16 (fieldAt f 16 1) })
    | _, _, _ => .error .badValue
  | _, _, _ => .error .badSubject

/-- R21: the checks of Set Watch, and the watch with the given fields; `true` arms it. -/
def setWatchOperand (f : List Byte) : Except ReplyOutcome (SlotNo × WatchNo × Bool × Watch) :=
  match numberOf 16 (fieldAt f 0 1) with
  | none => .error .badSubject
  | some i =>
  match watchNoOf (fieldAt f 1 1), armModeOf (fieldAt f 2 1), watchKindOf (fieldAt f 3 1),
      watchActionOf (fieldAt f 8 1) with
  | some n, some arm, some k, some a =>
    .ok (i, n, arm,
      { kind := k, limit := min 2000000 (fieldAt f 4 4), action := a, state := if arm then .armed else .off })
  | _, _, _, _ => .error .badValue

/-- R33: an entry of Load Volume Table, as its eight bytes give it. -/
structure VolumeField where
  channel : Nat
  waveform : Nat
  volumes : Volumes
  deriving DecidableEq, Repr

/-- R33: the entries of the list; a volume below 10 is stored as 10. -/
def volumeFields (f : List Byte) : List VolumeField :=
  (List.range (byteAt f 1).toNat).map fun k =>
    { channel := fieldAt f (2 + 8 * k) 1, waveform := fieldAt f (3 + 8 * k) 1,
      volumes := { v1 := max 10 (fieldAt f (4 + 8 * k) 2), v2 := max 10 (fieldAt f (6 + 8 * k) 2),
                   v3 := max 10 (fieldAt f (8 + 8 * k) 2) } }

/-- R35: Load Temperature Table carries the whole table, out-of-range values clamped. -/
def tempTableOperand (f : List Byte) : TempTable :=
  { multipliers := Vector.ofFn fun b : Fin 16 => clamp 512 2047 (fieldAt f (2 * b.val) 2)
    base := fieldAt f 32 1, width := clamp 1 32 (fieldAt f 33 1), fallback := min 15 (fieldAt f 34 1),
    staleTime := clamp 10 5000 (fieldAt f 35 2) }

/-- A delay of Set Pins: above 10,000 ms to 10,000 (R182). -/
def pinDelay (f : List Byte) (position : Nat) : Nat := min 10000 (fieldAt f position 2)

/-- The lamp field of lamp n: source, slot, invert (R196). -/
def lampSourceField (f : List Byte) (n : Fin 4) : LampField :=
  lampFieldOf (fieldAt f (28 + 3 * n.val) 1) (fieldAt f (29 + 3 * n.val) 1)

def lampInvertField (f : List Byte) (n : Fin 4) : Option Bool := boolOf (fieldAt f (30 + 3 * n.val) 1)

def levelEnableField (f : List Byte) (n : SlotNo) : Option Bool := boolOf (fieldAt f (12 + n.val) 1)

/-- R182: the checks of Set Pins in order, and the pin settings to store. The six delays come group by group, assert
before release (log 86); the level enables and the lamps come in ascending number (log 99). -/
def setPinsOperand (f : List Byte) : Except ReplyOutcome PinCfg :=
  if slotNos.any (fun n => (levelEnableField f n).isNone) ||
      auxNos.any (fun n => (lampInvertField f n).isNone || decide (lampSourceField f n = .outside)) then
    .error .badValue
  else if auxNos.any (fun n => decide (lampSourceField f n = .slotOutOfRange)) then .error .badSubject
  else
    .ok
      { presenceAssert := pinDelay f 0, presenceRelease := pinDelay f 2, levelAssert := pinDelay f 4,
        levelRelease := pinDelay f 6, auxAssert := pinDelay f 8, auxRelease := pinDelay f 10,
        levelEnable := Vector.ofFn fun n : SlotNo => (levelEnableField f n).getD false,
        lamps := Vector.ofFn fun n : Fin 4 =>
          { source := match lampSourceField f n with | .source x => x | _ => .off
            invert := (lampInvertField f n).getD false } }

/-- R159: Set Policy carries every policy setting; its enumerations are checked, its quantities clamped. -/
def setPolicyOperand (f : List Byte) : Except ReplyOutcome Policy :=
  match nonGenuineOf (fieldAt f 0 1), refillPolicyOf (fieldAt f 1 1), bitRateOf (fieldAt f 2 1) with
  | some g, some r, some b =>
    .ok
      { nonGenuine := g, refill := r, bitRate := b, graceVolume := min 2000000 (fieldAt f 3 4),
        overdrawLimit := min 65535 (fieldAt f 7 4), checkpointStep := clamp 100 50000 (fieldAt f 11 4),
        wasteNear := max 1 (fieldAt f 15 4), wasteFull := max 1 (fieldAt f 19 4),
        minorWindow := clamp 100 60000 (fieldAt f 23 2), majorWindow := clamp 100 60000 (fieldAt f 25 2) }
  | _, _, _ => .error .badValue

/-- R169: the kinds of Set Notice Mask; none when a member is outside the fourteen. -/
def noticeKindsOperand (f : List Byte) : Option (List (Fin 14)) :=
  ((f.drop 2).mapM fun b => numberOf 14 b.toNat)

/-- R22: the amount of Grant Grace is clamped to 1-2,000,000. -/
def graceAmount (f : List Byte) : Nat := clamp 1 2000000 (fieldAt f 1 4)

/-- R132: the count is clamped to 1-8, and then to no more than 64 minus the first entry number. -/
def historyCount (first count : Nat) : Nat := min (64 - first) (clamp 1 8 count)

end Sys2Proof.Machine
end

