-- ==== Sys2Proof/Machine/Digest.lean ====
section
/-!
DEFINITION. The Digest Engine's holding of requests and passes (4.5): the waiting set, grants, and the removal of a
slot's work (R84 to R86, R88), and the messages of the four forms of KD (R74).
-/

namespace Sys2Proof.Machine

open Sys2Proof

/-! ### Messages (R74) -/

/-- The derivation message: serial, ink code. The halves append 0x00 and 0x01 (R74 Note 2). -/
def deriveMessage (serial : Serial) (ink : Nat) : List Byte := u64 serial ++ u8 ink

/-- The expected-tag message: nonce, serial, and the fill as reported (R74 Note 3). -/
def expectMessage (nonce : Nonce) (serial : Serial) (f : Fill) : List Byte := u64 nonce ++ u64 serial ++ f.bytes

/-- The write-tag message: serial, new remaining, new write count, depleted mark. -/
def writeTagMessage (serial : Serial) (v : CheckpointValues) : List Byte := u64 serial ++ v.bytes

/-- The service-unlock message: "SVC", part serial, unlock nonce. -/
def unlockMessage (partSerial : Serial) (nonce : Nonce) : List Byte :=
  [0x53#8, 0x56#8, 0x43#8] ++ u64 partSerial ++ u64 nonce

/-- R74 Note 2: the two halves of a derived key. -/
def deriveKey (key : Key) (message : List Byte) : Key :=
  Config.kd key (message ++ [0x00#8]) ++ Config.kd key (message ++ [0x01#8])

/-! ### Grants -/

/-- A slot as a requester. -/
def slotRequester (i : SlotNo) : Requester := i.castLE (by decide)

/-- The slot that a requester is; none for the Request Unit. -/
def Requester.slot (r : Requester) : Option SlotNo := numberOf 16 r.val

/-- The Request Unit, requester 16. -/
def requestUnitRequester : Requester := 16

/-- R76, R184: a key that is unprogrammed or damaged makes every comparison a mismatch. -/
def Nvm.rootKeyGood (m : Nvm) : Bool := m.identity.programmed && !m.damaged

/-- R85: a granted request becomes the pass in flight. DERIVE and UNLOCK take the root key of the moment (R75). -/
def DigestRequest.grant (q : DigestRequest) (r : Requester) (root : Key) (rootGood : Bool) : Pass :=
  { requester := r, kind := q.kind, tenure := q.tenure, abandoned := false, message := q.message,
    key := q.slotKey.getD root, keyGood := q.slotKey.isSome || rootGood }

/-- No request waits. -/
def Digest.nobodyWaits (d : Digest) : Bool := d.waiting.toList.all Option.isNone

/-- R85: a request is granted at once when the engine is free and nobody waits; otherwise it joins the waiting set,
replacing an older request of its requester. -/
def Digest.request (d : Digest) (root : Key) (rootGood : Bool) (r : Requester) (q : DigestRequest) : Digest :=
  if d.inFlight.isNone && d.nobodyWaits then
    { d with inFlight := some (q.grant r root rootGood), lastGranted := r }
  else { d with waiting := d.waiting.set r (some q) }

/-- R86: the requesters counted upward from the one after last granted; after 16 comes 0. -/
def countUp (r : Requester) : List Requester := (List.finRange 17).map fun k => r + 1 + k

/-- R86: the free engine grants the first requester it reaches that has a request in the waiting set. -/
def Digest.grantNext (d : Digest) (root : Key) (rootGood : Bool) : Digest :=
  match (countUp d.lastGranted).find? (fun r => d.waiting[r].isSome) with
  | none => d
  | some r =>
    match d.waiting[r] with
    | none => d
    | some q =>
      { inFlight := some (q.grant r root rootGood), waiting := d.waiting.set r none, lastGranted := r }

def State.digestRequest (s : State) (r : Requester) (q : DigestRequest) : State :=
  { s with digest := s.digest.request s.nvm.identity.key s.nvm.rootKeyGood r q }

def State.digestGrant (s : State) : State :=
  { s with digest := s.digest.grantNext s.nvm.identity.key s.nvm.rootKeyGood }

/-! ### Slot events (R88) -/

/-- A pass of that requester whose kind passes the test is marked abandoned. -/
def Pass.abandon (p : Pass) (r : Requester) (kinds : PassKind → Bool) : Pass :=
  if p.requester = r && kinds p.kind then { p with abandoned := true } else p

/-- R88: a slot's request of those kinds leaves the waiting set, and its pass is marked abandoned. -/
def Digest.drop (d : Digest) (i : SlotNo) (kinds : PassKind → Bool) : Digest :=
  { d with
    inFlight := d.inFlight.map fun p => p.abandon (slotRequester i) kinds
    waiting := d.waiting.set (slotRequester i) (d.waiting[slotRequester i].filter fun q => !kinds q.kind) }

/-- The kinds a Rescan Slot drops: DERIVE and EXPECT; a WRITE_TAG is left as it is (R88). -/
def PassKind.ofChallenge : PassKind → Bool
  | .derive => true
  | .expect => true
  | _ => false

def State.digestDrop (s : State) (i : SlotNo) (kinds : PassKind → Bool) : State :=
  { s with digest := s.digest.drop i kinds }

end Sys2Proof.Machine
end

