-- ==== Sys2Proof/Machine/SlotLine.lean ====
section
/-!
DEFINITION. The Slot Line Controller (05_the_cartridge_bus.md): the messages, placing and taking pending entries
(R104, R105), attempts and their judgement (R100 to R103), the abort (R110), and the commands that move a line without
handing a transaction on: BREAK_END, REQUEST_SENT, RESPONSE_TIMEOUT, REPLY_BYTE_RECEIVED, REPLY_COMPLETE, GAP_TIMEOUT.
-/

namespace Sys2Proof.Machine

open Sys2Proof

/-! ### Times in milliseconds -/

/-- R94: a break holds the line at space first. -/
def breakSpaceTime : Nat := 2
/-- R94: and then at mark. -/
def breakMarkTime : Nat := 1
/-- R94: a whole break. -/
def breakTime : Nat := breakSpaceTime + breakMarkTime
/-- R94 -/
def turnaroundTime : Nat := 1
/-- R100 -/
def responseTime : Nat := 3
/-- R101 -/
def gapTime : Nat := 2

/-! ### Messages -/

/-- R95: the request message of a transaction. -/
def Transaction.message (t : Transaction) : List Byte :=
  match t.kind with
  | .identify => slotMessage 0x01#8 []
  | .readFill => slotMessage 0x02#8 []
  | .challenge => slotMessage 0x03#8 (u64 t.nonce)
  | .checkpoint => slotMessage 0x04#8 (t.values.bytes ++ u64 (t.writeTag.getD 0))

/-- R95: the kind byte of the reply a request expects. -/
def TransKind.replyKind : TransKind → Byte
  | .identify => 0x81#8
  | .readFill => 0x82#8
  | .challenge => 0x83#8
  | .checkpoint => 0x84#8

/-- R95: the payload length of the expected reply. -/
def TransKind.replyLength : TransKind → Nat
  | .identify => 14
  | .readFill => 8
  | .challenge => 8
  | .checkpoint => 1

/-- R96: a good IDENT; an ink code byte above 31 is taken as 0. -/
def identOf (reply : List Byte) : Ident :=
  { serial := BitVec.ofNat 64 (fieldAt reply 2 8)
    ink := if fieldAt reply 10 1 ≤ 31 then fieldAt reply 10 1 else 0
    nominal := fieldAt reply 11 4 }

/-- R97: a good FILL; the depleted mark is clear when the byte is 0x00 and set for any other value. -/
def fillOf (reply : List Byte) : Fill :=
  { remaining := fieldAt reply 2 4, writeCount := fieldAt reply 6 3, mark := decide (fieldAt reply 9 1 ≠ 0) }

/-- R98: a good TAG. -/
def tagOf (reply : List Byte) : Tag := BitVec.ofNat 64 (fieldAt reply 2 8)

/-- R99, R197: ANSWER 0xA5 is ACCEPTED, any other value REFUSED. -/
def accepted (reply : List Byte) : Bool := decide (byteAt reply 2 = 0xA5#8)

/-! ### Attempts -/

/-- R93: the bits that the part drives onto the line while it sends a request; true is mark. -/
def LineCtl.driven (l : LineCtl) : List Bool := if l.state = .sending then framesOf l.request else []

/-- R94: the level at which the part holds the line in BREAK, true being mark: space until the time at mark is all that
is left of the break, then mark. In SENDING it drives the bits above; in every other line state the line is idle. -/
def State.breakLevel (s : State) (i : SlotNo) : Bool := decide (s.leftOf (s.line i).timer ≤ breakMarkTime)

/-- An attempt begins to send its request (SENDING), at the bit rate in force (R92, R95). -/
def LineCtl.sendRequest (l : LineCtl) (t : Transaction) (rate : BitRate) : LineCtl :=
  { l with state := .sending, trans := some t, timer := none, rate := rate, request := t.message, received := [] }

/-- An attempt that begins with a break (R94); the rate is taken at its start (R92). -/
def LineCtl.sendBreak (l : LineCtl) (t : Transaction) (rate : BitRate) (expiry : Time) : LineCtl :=
  { l with state := .break, trans := some t, timer := some expiry, rate := rate, request := t.message,
           received := [] }

/-- R105: a pending entry becomes the transaction in flight, attempt 1, ignore result false. -/
def Transaction.start (kind : TransKind) (tenure : Tenure) : Transaction :=
  { kind := kind, tenure := tenure, attempt := 1, ignoreResult := false, nonce := 0, values := ⟨0, 0, false⟩,
    writeTag := none, noted := none, judged := none }

/-- R25: the values a checkpoint takes from the slot record when its transaction starts. -/
def Slot.checkpointValues (x : Slot) : CheckpointValues :=
  { remaining := x.remaining.getD 0
    writeCount := min 16777215 (x.writeCount.getD 0 + 1)
    mark := decide (x.remaining.getD 0 = 0) }

/-- R107: a checkpoint entry is taken: its values are fixed, the line waits in TAG_WAIT, and a WRITE_TAG request is
made (R89). -/
def State.startCheckpoint (s : State) (i : SlotNo) : State :=
  let l := s.line i
  let x := s.slot i
  let v := x.checkpointValues
  let t := s.putLine i
    { l with state := .tagWait, pendCheckpoint := false, timer := none,
             trans := some { Transaction.start .checkpoint x.tenure with values := v } }
  t.digestRequest (slotRequester i)
    { kind := .writeTag, tenure := x.tenure, message := writeTagMessage (x.serial.getD 0) v,
      slotKey := some ((x.derivedKey.map DerivedKey.key).getD 0) }

/-- R105: an IDLE line takes its first pending entry in the order probe-step, challenge, checkpoint. -/
def State.takePending (s : State) (i : SlotNo) : State :=
  let l := s.line i
  let tenure := (s.slot i).tenure
  if l.state ≠ .idle then s
  else
    match l.pendProbe with
    | some .identify =>
      s.putLine i (LineCtl.sendBreak { l with pendProbe := none } (Transaction.start .identify tenure)
        s.policy.bitRate (s.after breakTime))
    | some .readFill =>
      s.putLine i (LineCtl.sendRequest { l with pendProbe := none } (Transaction.start .readFill tenure)
        s.policy.bitRate)
    | none =>
      match l.pendChallenge with
      | some n =>
        s.putLine i (LineCtl.sendRequest { l with pendChallenge := none }
          { Transaction.start .challenge tenure with nonce := n } s.policy.bitRate)
      | none => if l.pendCheckpoint then s.startCheckpoint i else s

/-- R104: a probe-step is placed; it takes the step of the newer one. -/
def State.placeProbe (s : State) (i : SlotNo) (step : ProbeStep) : State :=
  (s.putLine i { s.line i with pendProbe := some step }).takePending i

/-- R104: a challenge entry is placed; it takes the newer nonce. -/
def State.placeChallenge (s : State) (i : SlotNo) (n : Nonce) : State :=
  (s.putLine i { s.line i with pendChallenge := some n }).takePending i

/-- R23, R24, R104: a checkpoint that becomes due is placed; two are one entry. -/
def State.placeCheckpoint (s : State) (i : SlotNo) : State :=
  (s.putLine i { s.line i with pendCheckpoint := true }).takePending i

/-- R24: a checkpoint transaction is in flight on the line. -/
def LineCtl.checkpointInFlight (l : LineCtl) : Bool :=
  match l.trans with
  | some t => decide (t.kind = .checkpoint)
  | none => false

/-- R26, R104: the pending checkpoint entry is removed. -/
def State.dropCheckpoint (s : State) (i : SlotNo) : State :=
  s.putLine i { s.line i with pendCheckpoint := false }

/-! ### The judgement of an attempt -/

/-- How a reply ended (R100, R101). -/
inductive ReplyEnd where
  | noReply
  | ended
  | gap
  deriving DecidableEq, Repr

/-- R102: the first failure kind that applies, read from the top of the table; none: the attempt is good. -/
def judgeAttempt (kind : TransKind) (noted : Option FailKind) (how : ReplyEnd) (reply : List Byte) :
    Option FailKind :=
  if how = .noReply then some .noResponse
  else if noted.isSome then noted
  else if 40 < (byteAt reply 1).toNat then some .length
  else if how = .gap then some .gap
  else if !sumsToZero reply then some .check
  else if byteAt reply 0 ≠ kind.replyKind then some .kind
  else if (byteAt reply 1).toNat ≠ kind.replyLength then some .length
  else if kind = .identify ∧ byteAt reply 15 = 0x00#8 then some .content
  else none

/-- The attempt ends: the line enters QUIET for the turnaround, and a failure becomes the line's last failure
(R102 Note 3). -/
def LineCtl.endAttempt (l : LineCtl) (t : Transaction) (how : ReplyEnd) (quietEnds : Time) : LineCtl :=
  match judgeAttempt t.kind t.noted how l.received with
  | none => { l with state := .quiet, timer := some quietEnds, trans := some { t with judged := some .good } }
  | some k =>
    { l with state := .quiet, timer := some quietEnds, trans := some { t with judged := some (.failed k) },
             lastFailure := some { kind := t.kind, attempt := t.attempt, failure := k } }

/-- The line's timer expires (log 2, log 31). -/
def State.reachLine (s : State) (i : SlotNo) : State :=
  match (s.line i).timer with
  | none => s
  | some e => s.reach e

/-- The attempt on a line ends in that way, now. -/
def State.endAttempt (s : State) (i : SlotNo) (how : ReplyEnd) : State :=
  match (s.line i).trans with
  | none => s
  | some t => s.putLine i ((s.line i).endAttempt t how (s.after turnaroundTime))

/-! ### The abort -/

/-- R110: presence lost aborts the transaction in flight, whatever its line state: the pending set is emptied, the
probe hold becomes absent and the line enters QUIET, with a new turnaround (log 51). A line with no transaction keeps
its state (log 26). The last failure becomes absent (R112). -/
def LineCtl.abort (l : LineCtl) (quietEnds : Time) : LineCtl :=
  let l := { l with pendProbe := none, pendChallenge := none, pendCheckpoint := false, probeHold := none,
                    lastFailure := none }
  match l.trans with
  | none => l
  | some _ => { l with state := .quiet, trans := none, timer := some quietEnds, request := [], received := [] }

/-! ### Commands -/

/-- BREAK_END (R94, R91): the break ends and the request begins. -/
def State.breakEnds (s : State) (i : SlotNo) : State :=
  if (s.line i).state = .break then
    (s.reachLine i).putLine i { s.line i with state := .sending, timer := none }
  else s

/-- REQUEST_SENT (R100): the line enters AWAITING, and the response timer starts. -/
def State.requestEnds (s : State) (i : SlotNo) : State :=
  if (s.line i).state = .sending then
    s.putLine i { s.line i with state := .awaiting, timer := some (s.after responseTime) }
  else s

/-- RESPONSE_TIMEOUT (R100): the attempt ends with NO_RESPONSE, and the line enters QUIET at once. -/
def State.responseExpires (s : State) (i : SlotNo) : State :=
  if (s.line i).state = .awaiting then (s.reachLine i).endAttempt i .noReply else s

/-- R93: the first error of the attempt is noted. -/
def Transaction.note (t : Transaction) (e : Option FailKind) : Transaction :=
  { t with noted := if t.noted.isSome then t.noted else e }

/-- R101: a received byte joins the reply; its stop bit starts the gap timer unless the reply has ended with it. -/
def LineCtl.receive (l : LineCtl) (data : Byte) (error : Option FailKind) (gapEnds : Time) : LineCtl :=
  let received := l.received ++ [data]
  { l with state := .receiving, received := received, trans := l.trans.map fun t => t.note error,
           timer := if replyEnded received then none else some gapEnds }

/-- REPLY_BYTE_RECEIVED (R100, R101, R94): in AWAITING the first start bit stops the response timer; in RECEIVING the
byte belongs to the reply until it has ended; in any other line state the byte is discarded or not read. -/
def State.byteReceived (s : State) (i : SlotNo) (data : Byte) (parity stop : Bool) : State :=
  let l := s.line i
  match l.state with
  | .awaiting => s.putLine i (l.receive data (frameError data parity stop) (s.after gapTime))
  | .receiving =>
    if replyEnded l.received then s
    else s.putLine i (l.receive data (frameError data parity stop) (s.after gapTime))
  | _ => s

/-- REPLY_COMPLETE (R101): the reply has ended by its length. -/
def State.replyEnds (s : State) (i : SlotNo) : State :=
  if (s.line i).state = .receiving && replyEnded (s.line i).received then s.endAttempt i .ended else s

/-- R101: the error that the gap timer's expiry notes: GAP for a reply with a length byte of 40 or less, which is
incomplete; with a length byte above 40, or the kind byte alone, the expiry simply ends the reply. -/
def gapError (received : List Byte) : Option FailKind :=
  if 2 ≤ received.length ∧ (byteAt received 1).toNat ≤ 40 then some .gap else none

/-- GAP_TIMEOUT (R101): the gap timer expires during a reply: GAP is noted if no earlier error is, and the reply has
ended. -/
def State.gapExpires (s : State) (i : SlotNo) : State :=
  let l := s.line i
  if l.state = .receiving && !replyEnded l.received then
    let t := (s.reachLine i).putLine i { l with trans := l.trans.map fun x => x.note (gapError l.received) }
    t.endAttempt i .gap
  else s

def execBreakEnd (i : SlotNo) (s : State) : Host.Outcome State Fault Refusal := whenPowered s fun s => s.breakEnds i

def execRequestSent (i : SlotNo) (s : State) : Host.Outcome State Fault Refusal :=
  whenPowered s fun s => s.requestEnds i

def execResponseTimeout (i : SlotNo) (s : State) : Host.Outcome State Fault Refusal :=
  whenPowered s fun s => s.responseExpires i

def execReplyByteReceived (i : SlotNo) (data : Byte) (parity stop : Bool) (s : State) :
    Host.Outcome State Fault Refusal :=
  whenPowered s fun s => s.byteReceived i data parity stop

def execReplyComplete (i : SlotNo) (s : State) : Host.Outcome State Fault Refusal :=
  whenPowered s fun s => s.replyEnds i

def execGapTimeout (i : SlotNo) (s : State) : Host.Outcome State Fault Refusal :=
  whenPowered s fun s => s.gapExpires i

end Sys2Proof.Machine
end

