-- ==== Sys2Proof/Machine/History.lean ====
section
/-!
DEFINITION. The History Table (06_refill_detection_and_the_history_table.md): lookup, recency, insertion, locking and
eviction (R114 to R117), updates for a slot (R118), the checks of a tag match (R121, R122), and the commands
READ_HISTORY and CLEAR_HISTORY_ENTRY.
-/

namespace Sys2Proof.Machine

open Sys2Proof

/-! ### Lookup and recency -/

/-- R114: a lookup gives the valid entry that holds the serial, or a miss. -/
def History.lookup (h : History) (serial : Serial) : Option EntryNo :=
  entryNos.find? fun n =>
    match h.entries[n] with
    | none => false
    | some e => decide (e.serial = serial)

/-- R113: an entry is locked while its marks are not empty. -/
def HistoryEntry.locked (e : HistoryEntry) : Bool := e.depletedMark || e.refillMark

/-- The number of valid entries that pass the test. -/
def History.count (h : History) (test : HistoryEntry → Bool) : Nat :=
  (entryNos.filter fun n => (h.entries[n]).any test).length

/-- R115, R119: less recent: a lower stamp, or the same stamp and a lower entry number. -/
def lessRecent (a : HistoryEntry) (i : EntryNo) (b : HistoryEntry) (j : EntryNo) : Bool :=
  decide (a.stamp < b.stamp) || (decide (a.stamp = b.stamp) && decide (i < j))

/-- The less recent of the best so far and entry n, among those that pass the test. -/
def History.older (h : History) (test : HistoryEntry → Bool) (best : Option EntryNo) (n : EntryNo) :
    Option EntryNo :=
  match h.entries[n] with
  | none => best
  | some e =>
    if !test e then best
    else
      match best with
      | none => some n
      | some b =>
        match h.entries[b] with
        | none => some n
        | some be => if lessRecent e n be b then some n else best

/-- The least recent valid entry that passes the test. -/
def History.leastRecent (h : History) (test : HistoryEntry → Bool) : Option EntryNo :=
  entryNos.foldl (h.older test) none

/-- R115, R132: the recency rank: the number of valid entries more recent. -/
def History.rank (h : History) (n : EntryNo) : Nat :=
  match h.entries[n] with
  | none => 0
  | some e =>
    (entryNos.filter fun m =>
      match h.entries[m] with
      | none => false
      | some f => lessRecent e n f m).length

/-- R115: the place of an entry among the valid ones, the least recent being 1. -/
def History.placeOf (h : History) (n : EntryNo) : Nat := h.count (fun _ => true) - h.rank n

/-- The largest use stamp (R113). -/
def largestStamp : Nat := 4294967295

/-- R115: the valid entries receive the stamps 1, 2, 3 and so on in their order. -/
def History.renumber (h : History) : History :=
  { entries := Vector.ofFn fun n : EntryNo => (h.entries[n]).map fun e => { e with stamp := h.placeOf n }
    nextStamp := h.count (fun _ => true) + 1 }

/-- R115: before a move that would give a stamp above 4,294,967,295, the History Table renumbers, and a write of every
valid entry is queued (in entry order: log 18). -/
def State.renumberIfFull (s : State) : State :=
  if s.history.nextStamp ≤ largestStamp then s
  else
    let t := { s with history := s.history.renumber }
    entryNos.foldl (fun t n => if (t.entry n).isSome then t.queueEntry n else t) t

/-- R115: a move to most recent: the entry takes the next stamp, which rises by 1. -/
def State.moveEntry (s : State) (n : EntryNo) : State :=
  let t := s.renumberIfFull
  match t.entry n with
  | none => t
  | some e =>
    let t' := t.putEntry n (some { e with stamp := t.history.nextStamp })
    { t' with history := { t'.history with nextStamp := t.history.nextStamp + 1 } }

/-! ### Insertion, locking, eviction -/

/-- R116, R117, R133: a slot whose history index names the entry has its history index made absent. -/
def State.forgetIndex (s : State) (n : EntryNo) : State :=
  { s with
    slots := Vector.ofFn fun i : SlotNo =>
      if (s.slots[i]).historyIndex = some n then { s.slots[i] with historyIndex := none } else s.slots[i] }

/-- R116: the entry an insertion takes: the lowest-numbered invalid one, else the least recent unlocked one. Entry 0
stands for the case R117 excludes, that every entry is locked. -/
def History.vacancy (h : History) : EntryNo :=
  match entryNos.find? (fun n => (h.entries[n]).isNone) with
  | some n => n
  | none => (h.leastRecent fun e => !e.locked).getD 0

/-- R116: a new serial is placed in the table and moved to most recent. Its write is queued by the update it is part
of (R118). A renumbering that the move causes counts the entry itself (log 52). -/
def State.insertEntry (s : State) (e : HistoryEntry) : State × EntryNo :=
  let n := s.history.vacancy
  (((s.forgetIndex n).putEntry n (some e)).moveEntry n, n)

/-- R117: the least recent locked entry is evicted. -/
def State.evict (s : State) (locking : Option Serial) : State :=
  match s.history.leastRecent HistoryEntry.locked with
  | none => s
  | some n =>
    match s.entry n with
    | none => s
    | some e =>
      (((s.putEntry n none).forgetIndex n).queueEntry n).raise .history .none
        (.history n e.serial e.depletedMark e.refillMark locking)

/-- R117: at most 56 entries are locked. -/
def mostLocked : Nat := 56

/-- R117: marks are added to an entry; when that would lock a 57th entry, one is evicted first. The update that adds
them queues the entry's one write (log 70). -/
def State.addMarks (s : State) (n : EntryNo) (depletedMark refillMark : Bool) : State :=
  match s.entry n with
  | none => s
  | some e =>
    let t :=
      if !e.locked && (depletedMark || refillMark) && decide (mostLocked ≤ s.history.count HistoryEntry.locked) then
        s.evict (some e.serial)
      else s
    t.putEntry n (some { e with depletedMark := e.depletedMark || depletedMark,
                                refillMark := e.refillMark || refillMark })

/-! ### Updates for a slot (R118) -/

/-- R118: the entry built from the slot on a miss. -/
def Slot.historyEntry (x : Slot) (serial : Serial) : HistoryEntry :=
  { serial := serial, ink := x.ink.getD 0, confirmed := x.writtenRemaining.getD 0, writeCount := x.writeCount.getD 0,
    drawnSince := 0, depletedMark := false, refillMark := false, stamp := 1 }

/-- R118: the entry found for the serial, or the one inserted for it. -/
def State.findOrInsert (s : State) (serial : Serial) (fresh : HistoryEntry) : State × EntryNo :=
  match s.history.lookup serial with
  | some n => (s, n)
  | none => s.insertEntry fresh

/-- R118: after an update the slot's history index is set to the entry's number, and a write of its record is queued. -/
def State.closeUpdate (s : State) (i : SlotNo) (n : EntryNo) : State :=
  (s.putSlot i { s.slot i with historyIndex := some n }).queueEntry n

/-- R118: an update for a slot: found or built by the slot's serial, applied, moved to most recent, closed. -/
def State.historyUpdate (s : State) (i : SlotNo) (update : State → EntryNo → State) : State :=
  match (s.slot i).serial with
  | none => s
  | some serial =>
    let (t, n) := s.findOrInsert serial ((s.slot i).historyEntry serial)
    ((update t n).moveEntry n).closeUpdate i n

/-- R126: the DEPLETED mark. -/
def State.markDepleted (s : State) (i : SlotNo) : State :=
  s.historyUpdate i fun t n => t.addMarks n true false

/-- R130, step 3: the REFILL mark. -/
def State.markRefill (s : State) (i : SlotNo) : State :=
  s.historyUpdate i fun t n => t.addMarks n false true

/-- R127: the confirmed remaining and the write count become the sent values; a sent depleted mark is added. -/
def State.confirmEntry (s : State) (n : EntryNo) (v : CheckpointValues) : State :=
  match s.entry n with
  | none => s
  | some e =>
    (s.putEntry n (some { e with confirmed := v.remaining, writeCount := v.writeCount })).addMarks n v.mark false

/-- R127: a checkpoint is confirmed. -/
def State.confirmHistory (s : State) (i : SlotNo) (v : CheckpointValues) : State :=
  s.historyUpdate i fun t n => t.confirmEntry n v

/-- R128: the save writes the slot's drawn since checkpoint into the entry's drawn-since. An entry found is not
moved; an entry built is inserted, and takes the next stamp. That it takes one stamp, at the insertion, and is not moved
once more after the update, as R118 could be read, is the model's choice (log 93). -/
def State.writeDrawnSince (s : State) (i : SlotNo) : State :=
  match (s.slot i).serial with
  | none => s
  | some serial =>
    let (t, n) := s.findOrInsert serial ((s.slot i).historyEntry serial)
    match t.entry n with
    | none => t
    | some e => (t.putEntry n (some { e with drawnSince := (s.slot i).drawn })).closeUpdate i n

/-! ### Checks at a tag match -/

/-- R121, R122: the findings of a tag match: two checks on what the cartridge reports, three on a hit. -/
def findingsOf (fill : Fill) (nominal : Nat) (entry : Option HistoryEntry) : Causes :=
  { rollback := entry.any fun e => decide (fill.writeCount < e.writeCount)
    depletedReturn := entry.any fun e => e.depletedMark && decide (0 < fill.remaining)
    levelRise := entry.any fun e => decide (e.confirmed < fill.remaining)
    markConflict := fill.mark && decide (0 < fill.remaining)
    overNominal := decide (nominal < fill.remaining)
    levelSenseRise := false }

/-- R125, step 1 on a hit: the lesser confirmed remaining, the greater write count, the slot's ink code. -/
def HistoryEntry.absorb (e : HistoryEntry) (fill : Fill) (ink : Nat) : HistoryEntry :=
  { e with confirmed := min e.confirmed fill.remaining, writeCount := max e.writeCount fill.writeCount, ink := ink }

/-- R125, step 1 on a miss: the entry as reported. -/
def reportedEntry (serial : Serial) (fill : Fill) (ink : Nat) : HistoryEntry :=
  { serial := serial, ink := ink, confirmed := fill.remaining, writeCount := fill.writeCount, drawnSince := 0,
    depletedMark := false, refillMark := false, stamp := 1 }

/-- R125, step 4: a drawn-since above 0 becomes 0. -/
def State.clearDrawnSince (s : State) (n : EntryNo) : State :=
  match s.entry n with
  | none => s
  | some e => s.putEntry n (some { e with drawnSince := 0 })

/-- R125: the outcome update, for a slot that has moved. The answer's second part says whether a saved-drawdown
checkpoint becomes due (step 4). -/
def State.outcomeUpdate (s : State) (i : SlotNo) (serial : Serial) (fill : Fill) (findings : Causes)
    (effective : Nat) : State × Bool :=
  let ink := (s.slot i).ink.getD 0
  let (t, n) := s.findOrInsert serial (reportedEntry serial fill ink)
  let t :=
    match t.entry n with
    | none => t
    | some e => t.putEntry n (some (e.absorb fill ink))
  let t := t.addMarks n false (!findings.isEmpty)
  let t := t.addMarks n (decide (effective = 0)) false
  let saved := (t.entry n).any (fun e => decide (0 < e.drawnSince)) && (t.slot i).state.supplies
  let t := if saved then t.clearDrawnSince n else t
  let t := (t.moveEntry n).closeUpdate i n
  (t.putSense i { t.senseOf i with proven := true }, saved)

/-! ### Requests -/

/-- R132: a valid entry as Read History returns it: its fields, whether it is locked, its rank in one byte
(log 71), and the slots whose history index names it, as a set (log 60). -/
def State.historyBytes (s : State) (n : EntryNo) (e : HistoryEntry) : List Byte :=
  u64 e.serial ++ u8 e.ink ++ u32 e.confirmed ++ u24 e.writeCount ++ u32 e.drawnSince ++
    bitmap [e.depletedMark, e.refillMark] ++ flag e.locked ++ u8 (s.history.rank n) ++
    bitmap (slotNos.map fun i => decide ((s.slot i).historyIndex = some n))

/-- R132: an entry number, whether it is valid, and a valid entry's fields; an invalid entry's are zero bytes (log 59).
-/
def State.historyRecord (s : State) (n : EntryNo) : List Byte :=
  u8 n.val ++ optional 25 (s.historyBytes n) (s.entry n)

/-- READ_HISTORY (R132): the clamped count, the valid and locked counts, and the entries in number order, directly, with
no count byte of their own (log 102). -/
def readHistory (fields : List Byte) (s : State) : Answer :=
  sized s fields 2 <|
    let first := fieldAt fields 0 1
    if 63 < first then refuse s .badSubject
    else
      let count := historyCount first (fieldAt fields 1 1)
      done s <|
        u8 count ++ u8 (s.history.count fun _ => true) ++ u8 (s.history.count HistoryEntry.locked) ++
          ((entryNos.drop first).take count).flatMap s.historyRecord

/-- CLEAR_HISTORY_ENTRY (R133). -/
def clearHistoryEntry (fields : List Byte) (s : State) : Answer :=
  sized s fields 1 <| needsService s <|
    match numberOf 64 (fieldAt fields 0 1) with
    | none => refuse s .badSubject
    | some n =>
      match s.entry n with
      | none => refuse s .badState
      | some _ => done (((s.putEntry n none).forgetIndex n).queueEntry n) []

def execReadHistory (tag : Byte) (fields : List Byte) (s : State) : Host.Outcome State Fault Refusal :=
  whenPowered s fun s => s.takeRequest tag 0x11#8 fields (readHistory fields)

def execClearHistoryEntry (tag : Byte) (fields : List Byte) (s : State) : Host.Outcome State Fault Refusal :=
  whenPowered s fun s => s.takeRequest tag 0x16#8 fields (clearHistoryEntry fields)

end Sys2Proof.Machine
end

