-- ==== Sys2Proof/Machine/Route.lean ====
section
/-!
DEFINITION. The Route Unit (03_supply_routing_and_channel_gating.md): gate reasons, switches, the judging of a
channel's conditions, the fitness changes the Slot Table hands over (R12), and the commands of this family:
SWITCH_TIMER_EXPIRY, REVERT_TIMER_EXPIRY, HOLD_CHANNEL, RELEASE_CHANNEL, SET_ROUTE, READ_TRACE, CLEAR_TRACE.
-/

namespace Sys2Proof.Machine

open Sys2Proof

/-! ### Gate reasons -/

/-- R64: the gate reasons change; a change of the primary reason raises a GATE notice. -/
def State.setGate (s : State) (c : Channel) (g : Gate) : State :=
  let r := s.route c
  let t := s.putRoute c { r with gate := g }
  if g.primary = r.gate.primary then t else t.raise .gate (.channel c) (.gate g.primary r.gate.primary g)

/-- R63: NO_SUPPLY is judged against the active slot. -/
def State.judgeSupply (s : State) (c : Channel) : State :=
  s.setGate c { (s.route c).gate with noSupply := s.noSupply c }

/-- R62: the VALVE output is driven. -/
def State.driveValve (s : State) (c : Channel) : State :=
  { s with pins := { s.pins with valves := s.pins.valves.set c (s.valveLevel c) } }

/-- R72: an entry is appended as the newest; when the trace already holds 10, the oldest is removed first. -/
def State.addTrace (s : State) (e : TraceEntry) : State :=
  { s with trace := (if 10 ≤ s.trace.length then s.trace.drop 1 else s.trace) ++ [e] }

/-! ### Switches -/

/-- R60: the slot a switch goes to: the alternate for CONDITION, the default otherwise. -/
def RouteCfg.target (cfg : RouteCfg) : SwitchCause → Option SlotNo
  | .condition => cfg.alternate
  | _ => cfg.defaultSlot

/-- R60, steps 1 and 3: the route record after a switch but for its gate; the timer that caused it becomes IDLE. -/
def Route.switched (r : Route) (cfg : RouteCfg) (cause : SwitchCause) : Route :=
  { r with
    state := match cause with | .condition => .onAlternate | _ => .onDefault
    active := cfg.target cause
    switchTimer := match cause with | .revert => r.switchTimer | _ => .idle
    revertTimer := match cause with | .revert => none | _ => r.revertTimer
    settleCount := cfg.settleLines }

/-- R60: a switch, one change of the route record: the slot, the valve, settle and NO_SUPPLY, the trace entry and the
ROUTE notice; the GATE notice of the change as a whole follows (log 11). -/
def State.switchTo (s : State) (c : Channel) (cause : SwitchCause) : State :=
  let r := s.route c
  let cfg := s.routeCfg c
  let t := (s.putRoute c (r.switched cfg cause)).driveValve c
  let t := t.addTrace { channel := c, fromSlot := r.active, toSlot := cfg.target cause, cause := cause,
                        lastLine := r.lastLine, time := t.time }
  let t := t.raise .route (.channel c) (.switch r.active (cfg.target cause) cause (r.switched cfg cause).state)
  t.setGate c { r.gate with settle := decide (0 < cfg.settleLines), noSupply := t.noSupply c }

/-- R61: a change of route state that is not a switch raises a ROUTE notice with the new state. -/
def State.raiseRoute (s : State) (c : Channel) (alternateUnfit : Bool) : State :=
  s.raise .route (.channel c) (.route (s.route c).state alternateUnfit)

/-! ### Judging -/

/-- R55: the switch timer expires in PENDING_ALT. -/
def State.expirePendingAlt (s : State) (c : Channel) : State :=
  if s.alternateFit c then s.switchTo c .condition
  else (s.putRoute c { s.route c with switchTimer := .waiting }).raiseRoute c true

/-- R54: the channel enters PENDING_ALT; with a switch delay of 0 the expiry is taken at once. -/
def State.enterPendingAlt (s : State) (c : Channel) : State :=
  let d := (s.routeCfg c).switchDelay
  let t := s.putRoute c { s.route c with state := .pendingAlt, switchTimer := .running (s.after d) }
  let t := t.raiseRoute c false
  if d = 0 then t.expirePendingAlt c else t

/-- R54: a judging in ON_DEFAULT. -/
def State.judgeOnDefault (s : State) (c : Channel) : State :=
  if s.leaveDefault c && (s.routeCfg c).alternate.isSome then s.enterPendingAlt c else s

/-- R58: the switch timer expires in PENDING_DEFAULT; D is judged on arrival. -/
def State.expirePendingDefault (s : State) (c : Channel) : State := (s.switchTo c .forcedReturn).judgeOnDefault c

/-- R59: the revert timer expires; D is judged on arrival. -/
def State.expireRevert (s : State) (c : Channel) : State := (s.switchTo c .revert).judgeOnDefault c

/-- R57: forced return: a running revert timer is cancelled; with a switch delay of 0 the expiry is taken at once. -/
def State.enterPendingDefault (s : State) (c : Channel) : State :=
  let d := (s.routeCfg c).switchDelay
  let t := s.putRoute c
    { s.route c with state := .pendingDefault, switchTimer := .running (s.after d), revertTimer := none }
  let t := t.raiseRoute c false
  if d = 0 then t.expirePendingDefault c else t

/-- R59: the revert condition starts the revert timer, and its end cancels it. -/
def State.judgeRevert (s : State) (c : Channel) : State :=
  let r := s.route c
  let d := (s.routeCfg c).revertDelay
  if s.revertHolds c then
    if r.revertTimer.isSome then s
    else
      let t := s.putRoute c { r with revertTimer := some (s.after d) }
      if d = 0 then t.expireRevert c else t
  else s.putRoute c { r with revertTimer := none }

/-- R57, R59: a judging in ON_ALTERNATE. -/
def State.judgeOnAlternate (s : State) (c : Channel) : State :=
  if s.forcedReturn c then s.enterPendingDefault c else s.judgeRevert c

/-- R55, R56, R58: a pending change is cancelled: the timer becomes IDLE and the channel returns. -/
def State.cancelPending (s : State) (c : Channel) (back : RouteState) : State :=
  (s.putRoute c { s.route c with state := back, switchTimer := .idle }).raiseRoute c false

/-- R55, R56: a judging in PENDING_ALT. D false decides; a waiting timer takes the switch when the alternate is fit. -/
def State.judgePendingAlt (s : State) (c : Channel) : State :=
  if !s.leaveDefault c then s.cancelPending c .onDefault
  else if decide ((s.route c).switchTimer = .waiting) && s.alternateFit c then s.switchTo c .condition
  else s

/-- R58: a judging in PENDING_DEFAULT. -/
def State.judgePendingDefault (s : State) (c : Channel) : State :=
  if s.forcedReturn c then s else (s.cancelPending c .onAlternate).judgeRevert c

/-- R53: the channel's conditions are judged, and it acts on its route state (R54 to R59). -/
def State.judgeRoute (s : State) (c : Channel) : State :=
  match (s.route c).state with
  | .unrouted => s
  | .onDefault => s.judgeOnDefault c
  | .pendingAlt => s.judgePendingAlt c
  | .onAlternate => s.judgeOnAlternate c
  | .pendingDefault => s.judgePendingDefault c

/-- R53: one event judged on several channels, one at a time in ascending channel number. -/
def State.judgeChannels (s : State) (named : Channel → Bool) : State :=
  channels.foldl (fun t c => if named c then t.judgeRoute c else t) s

/-! ### Fitness changes -/

/-- R12: for one channel, a change of the slot's fitness reaches the conditions of a channel that names the slot, and a
change of its drawability reaches NO_SUPPLY of a channel it feeds (R53, R63; order: log 13). -/
def State.handFitness (before : State) (i : SlotNo) (s : State) (c : Channel) : State :=
  let cfg := s.routeCfg c
  let t :=
    if (before.fit i c != s.fit i c) && (decide (cfg.defaultSlot = some i) || decide (cfg.alternate = some i)) then
      s.judgeRoute c
    else s
  if (before.drawable i c != s.drawable i c) && decide ((t.route c).active = some i) then t.judgeSupply c else t

/-- R12: the Slot Table judges the slot's fitness and drawability afresh and hands each change to the Route Unit.
`before` is the state before the slot changed. -/
def State.judgeFitness (s : State) (before : State) (i : SlotNo) : State :=
  channels.foldl (State.handFitness before i) s

/-! ### Timers -/

/-- SWITCH_TIMER_EXPIRY (R55, R58): a channel's running switch timer expires. -/
def State.switchExpires (s : State) (c : Channel) : State :=
  match (s.route c).switchTimer with
  | .running e =>
    let t := s.reach e
    match (s.route c).state with
    | .pendingAlt => t.expirePendingAlt c
    | .pendingDefault => t.expirePendingDefault c
    | _ => s
  | _ => s

/-- REVERT_TIMER_EXPIRY (R59): a channel's running revert timer expires. -/
def State.revertExpires (s : State) (c : Channel) : State :=
  match (s.route c).revertTimer with
  | some e => (s.reach e).expireRevert c
  | none => s

def execSwitchTimerExpiry (c : Channel) (s : State) : Host.Outcome State Fault Refusal :=
  whenPowered s fun s => s.switchExpires c

def execRevertTimerExpiry (c : Channel) (s : State) : Host.Outcome State Fault Refusal :=
  whenPowered s fun s => s.revertExpires c

/-! ### Operator hold -/

/-- R67: the operator hold is set, with its gate reason. -/
def State.putHold (s : State) (c : Channel) (held : Bool) : State :=
  let t := s.putRoute c { s.route c with hold := held }
  t.setGate c { (t.route c).gate with operatorHold := held }

/-- A request that names a channel: above 11 is answered BAD_SUBJECT. -/
def onChannel (s : State) (fields : List Byte) (k : Channel → Answer) : Answer :=
  sized s fields 1 <|
    match numberOf 12 (fieldAt fields 0 1) with
    | none => refuse s .badSubject
    | some c => k c

/-- HOLD_CHANNEL (R67). -/
def holdChannel (fields : List Byte) (s : State) : Answer :=
  onChannel s fields fun c => done (s.putHold c true) []

/-- RELEASE_CHANNEL (R67). -/
def releaseChannel (fields : List Byte) (s : State) : Answer :=
  onChannel s fields fun c => done (s.putHold c false) []

def execHoldChannel (tag : Byte) (fields : List Byte) (s : State) : Host.Outcome State Fault Refusal :=
  whenPowered s fun s => s.takeRequest tag 0x06#8 fields (holdChannel fields)

def execReleaseChannel (tag : Byte) (fields : List Byte) (s : State) : Host.Outcome State Fault Refusal :=
  whenPowered s fun s => s.takeRequest tag 0x07#8 fields (releaseChannel fields)

/-! ### Set Route -/

/-- R70, steps 1 to 3: the dynamic route record of a new configuration. -/
def Route.configured (r : Route) (cfg : RouteCfg) : Route :=
  if cfg.ink = 0 ∨ cfg.defaultSlot = none then
    { r with state := .unrouted, active := none, switchTimer := .idle, revertTimer := none }
  else
    { r with state := .onDefault, active := cfg.defaultSlot, switchTimer := .idle, revertTimer := none }

/-- R66, R70 step 6: the settle count is loaded when the active slot changed to a slot. -/
def Route.loadSettle (r : Route) (before : Option SlotNo) (settleLines : Nat) : Route :=
  if r.active ≠ before ∧ r.active.isSome then { r with settleCount := settleLines } else r

/-- R70, step 7: a change of the active slot writes a trace entry with cause OPERATOR and raises a ROUTE notice; a
change of route state alone raises the ROUTE notice of R61 (log 14). The notice's details are those of R60 (log 49). -/
def State.traceOperator (s : State) (c : Channel) (old : Route) : State :=
  let r := s.route c
  if r.active ≠ old.active then
    (s.addTrace { channel := c, fromSlot := old.active, toSlot := r.active, cause := .operator,
                  lastLine := r.lastLine, time := s.time }).raise .route (.channel c)
      (.switch old.active r.active .operator r.state)
  else if r.state ≠ old.state then s.raiseRoute c false
  else s

/-- R70: the effects of a Set Route that passes its checks, in order. The gate reasons of step 6 change together (log
55). -/
def State.configureRoute (s : State) (c : Channel) (cfg : RouteCfg) : State :=
  let old := s.route c
  let t := { s with settings := { s.settings with routes := s.settings.routes.set c cfg } }
  let r := (old.configured cfg).loadSettle old.active cfg.settleLines
  let t := (t.putRoute c r).driveValve c
  let t := t.setGate c
    { r.gate with
      noRoute := decide (r.state = .unrouted), noSupply := t.noSupply c, settle := decide (0 < r.settleCount) }
  let t := t.traceOperator c old
  if r.state = .onDefault then t.judgeOnDefault c else t

/-- R69: the quantities as stored, echoed in the order of the fields. -/
def RouteCfg.echo (cfg : RouteCfg) : List Byte :=
  u16 cfg.nozzles ++ u16 cfg.switchDelay ++ u16 cfg.revertDelay ++ u8 cfg.settleLines ++ u8 cfg.fullAllowance ++
    u8 cfg.runLength

/-- SET_ROUTE (R69, R70). -/
def setRoute (fields : List Byte) (s : State) : Answer :=
  sized s fields 17 <|
    match setRouteOperand fields with
    | .error o => refuse s o
    | .ok (c, cfg) => done (s.configureRoute c cfg) cfg.echo

def execSetRoute (tag : Byte) (fields : List Byte) (s : State) : Host.Outcome State Fault Refusal :=
  whenPowered s fun s => s.takeRequest tag 0x05#8 fields (setRoute fields)

/-! ### The route trace -/

/-- R72: the fields of an entry, in order. -/
def TraceEntry.bytes (e : TraceEntry) : List Byte :=
  u8 e.channel.val ++ slotOrNone e.fromSlot ++ slotOrNone e.toSlot ++ u8 e.cause.ctorIdx ++
    optional 2 word16 e.lastLine ++ u32 e.time.toNat

/-- READ_TRACE (R73): the number of entries and each entry, oldest first. -/
def readTrace (fields : List Byte) (s : State) : Answer :=
  sized s fields 0 <| done s (u8 s.trace.length ++ s.trace.flatMap TraceEntry.bytes)

/-- CLEAR_TRACE (R73). -/
def clearTrace (fields : List Byte) (s : State) : Answer := sized s fields 0 <| done { s with trace := [] } []

def execReadTrace (tag : Byte) (fields : List Byte) (s : State) : Host.Outcome State Fault Refusal :=
  whenPowered s fun s => s.takeRequest tag 0x12#8 fields (readTrace fields)

def execClearTrace (tag : Byte) (fields : List Byte) (s : State) : Host.Outcome State Fault Refusal :=
  whenPowered s fun s => s.takeRequest tag 0x13#8 fields (clearTrace fields)

end Sys2Proof.Machine
end

