-- ==== Sys2Proof/Machine/Slots.lean ====
section
/-!
DEFINITION. The Slot Table (01_cartridge_slots.md): changes of state (R10, R12), watches (R19 to R21), debits (R13 to
R17), checkpoints becoming due (R23, R24), presence (R3, R6), the level-sense finding (R9, R130), and the commands
READ_SLOT, RESCAN_SLOT, SET_WATCH, GRANT_GRACE.
-/

namespace Sys2Proof.Machine

open Sys2Proof

/-! ### Changes of state -/

/-- R10: the details of a SLOT notice for a change of state. -/
def slotDetails (old new : Slot) (failure : Option (TransKind × FailKind)) : Details :=
  .slot new.state old.state new.tenure
    (if new.state = .grace ∨ new.state = .rejected then some new.causes else none) failure

/-- R1 Note 5: the challenge nonce and the received tag are held only in AUTHENTICATING. -/
def Slot.leaveChallenge (x : Slot) : Slot :=
  if x.state = .authenticating then x else { x with nonce := none, tag := none }

/-- R10, R12, R26: the slot changes state: a pending checkpoint goes when it leaves GENUINE and DEPLETED, a SLOT notice
is raised, and fitness is judged afresh. -/
def State.changeSlot (s : State) (i : SlotNo) (new : Slot) (failure : Option (TransKind × FailKind)) : State :=
  let old := s.slot i
  let x := new.leaveChallenge
  let t := s.putSlot i x
  let t := if old.state.supplies && !x.state.supplies then t.dropCheckpoint i else t
  let t := t.raise .slot (.slot i) (slotDetails old x failure)
  t.judgeFitness s i

/-! ### Watches -/

/-- R19, R20: an ARMED watch is compared; when its condition is true it becomes FIRED, a WATCH notice is raised and
held is recomputed. -/
def State.compareWatch (s : State) (i : SlotNo) (n : WatchNo) : State :=
  let x := s.slot i
  let w := x.watch n
  if decide (w.state = .armed) && w.condition x then
    let t := s.putSlot i (x.putWatch n { w with state := .fired })
    let t := t.raise .watch (.slot i) (.watch n w.kind w.limit w.action (w.quantity x))
    t.judgeFitness s i
  else s

/-- R19: both watches of the slot are compared, W0 before W1 (log 41). -/
def State.compareWatches (s : State) (i : SlotNo) : State := (s.compareWatch i .w0).compareWatch i .w1

/-- R10, R12, R19: the slot changes state, and its watches are compared. -/
def State.moveSlot (s : State) (i : SlotNo) (new : Slot) (failure : Option (TransKind × FailKind)) : State :=
  (s.changeSlot i new failure).compareWatches i

/-! ### Checkpoints becoming due -/

/-- R23, depletion: due unless the cartridge's written remaining is already 0 and its reported mark is set. -/
def Slot.depletionCounts (x : Slot) : Bool := !(decide (x.writtenRemaining = some 0) && x.reported.any Fill.mark)

/-- R23, depletion. -/
def State.depletionDue (s : State) (i : SlotNo) : State :=
  if (s.slot i).depletionCounts then s.placeCheckpoint i else s

/-- R23, step: due when drawn since checkpoint is at or above the step; not queued while a checkpoint transaction is in
flight (R24). -/
def State.stepDue (s : State) (i : SlotNo) : State :=
  let x := s.slot i
  if x.state.supplies && decide (s.policy.checkpointStep ≤ x.drawn) && !(s.line i).checkpointInFlight then
    s.placeCheckpoint i
  else s

/-- R23, link lost: due when drawn since checkpoint is above 0. -/
def State.linkLostDue (s : State) (i : SlotNo) : State :=
  let x := s.slot i
  if x.state.supplies && decide (0 < x.drawn) then s.placeCheckpoint i else s

/-! ### Debits -/

/-- R14: a debit in GENUINE: remaining falls by 1 and drawn since checkpoint rises by 1; at 0 the slot is DEPLETED. -/
def Slot.drawGenuine (x : Slot) : Slot :=
  let left := x.remaining.getD 0 - 1
  { x with remaining := some left, drawn := satAdd u32Max x.drawn 1,
           state := if left = 0 then .depleted else .genuine }

/-- R14: what the entry into DEPLETED by a debit brings: the checkpoint, the history mark, the SLOT notice, fitness. -/
def State.enterDepleted (s before : State) (i : SlotNo) : State :=
  let t := (s.depletionDue i).markDepleted i
  let t := t.raise .slot (.slot i) (slotDetails (before.slot i) (t.slot i) none)
  t.judgeFitness before i

/-- R14 with R13: the debit, the watches and the checkpoint due test. -/
def State.debitGenuine (s : State) (i : SlotNo) : State :=
  let x := (s.slot i).drawGenuine
  let t := s.putSlot i x
  let t := if x.state = .depleted then t.enterDepleted s i else t
  (t.compareWatches i).stepDue i

/-- R17: unbacked rises by 1, saturating. -/
def Slot.addUnbacked (x : Slot) : Slot := { x with unbacked := satAdd u32Max x.unbacked 1 }

/-- R15: a debit in DEPLETED goes to overdraw below the limit, and to unbacked otherwise. -/
def State.debitDepleted (s : State) (i : SlotNo) : State :=
  let x := s.slot i
  let limit := s.policy.overdrawLimit
  if x.overdraw < limit then
    let t := s.putSlot i { x with overdraw := x.overdraw + 1 }
    let t :=
      if x.overdraw + 1 = limit then t.raise .slot (.slot i) (.overdrawLimit x.state x.tenure) else t
    (t.judgeFitness s i).compareWatches i
  else (s.putSlot i x.addUnbacked).compareWatches i

/-- R16: a debit in GRACE; at 0 the slot is SPENT. -/
def State.debitGrace (s : State) (i : SlotNo) : State :=
  let x := { s.slot i with grace := (s.slot i).grace - 1 }
  if x.grace = 0 then s.moveSlot i { x with state := .spent } none
  else (s.putSlot i x).compareWatches i

/-- R13: the Slot Table applies one debit by the slot's state at that moment. -/
def State.applyDebit (s : State) (i : SlotNo) : State :=
  match (s.slot i).state with
  | .genuine => s.debitGenuine i
  | .depleted => s.debitDepleted i
  | .grace => s.debitGrace i
  | .empty => (s.putSlot i (s.slot i).addUnbacked).compareWatches i
  | .probing => (s.putSlot i (s.slot i).addUnbacked).compareWatches i
  | .mute => (s.putSlot i (s.slot i).addUnbacked).compareWatches i
  | .authenticating => (s.putSlot i (s.slot i).addUnbacked).compareWatches i
  | .spent => (s.putSlot i (s.slot i).addUnbacked).compareWatches i
  | .rejected => (s.putSlot i (s.slot i).addUnbacked).compareWatches i
  | .fault => (s.putSlot i (s.slot i).addUnbacked).compareWatches i

/-! ### Grace and policies -/

/-- R5 Note 2, R16: entry into GRACE under a policy loads the grace volume; with a volume of 0 the slot is SPENT. -/
def Slot.enterGrace (x : Slot) (volume : Nat) : Slot :=
  if volume = 0 then { x with state := .spent, grace := 0 } else { x with state := .grace, grace := volume }

/-- R9: the state of a slot after a level-sense finding, by the refill policy. -/
def Slot.afterFinding (x : Slot) (policy : RefillPolicy) (volume : Nat) : Slot :=
  match x.state, policy with
  | .genuine, .grace => x.enterGrace volume
  | .depleted, .grace => x.enterGrace volume
  | .spent, .grace => x.enterGrace volume
  | .genuine, .reject => { x with state := .rejected }
  | .depleted, .reject => { x with state := .rejected }
  | .grace, .reject => { x with state := .rejected }
  | .spent, .reject => { x with state := .rejected }
  | _, _ => x

/-- R9: LEVEL_SENSE_RISE is added to the causes, and the policy decides the state. -/
def State.levelFinding (s : State) (i : SlotNo) : State :=
  let x := s.slot i
  let x := { x with causes := { x.causes with levelSenseRise := true } }
  let y := x.afterFinding s.policy.refill s.policy.graceVolume
  if y.state = x.state then s.putSlot i y else s.moveSlot i y none

/-- R130: the finding: the REFILL notice, the slot's causes and state, the REFILL mark of a proven slot, low seen. -/
def State.levelSenseFinding (s : State) (i : SlotNo) : State :=
  let x := s.slot i
  let t := s.raise .refill (.slot i) (.levelSense x.serial s.policy.refill x.state)
  let t := t.levelFinding i
  let t := if (t.senseOf i).proven then t.markRefill i else t
  t.putSense i { t.senseOf i with lowSeen := false }

/-- R129: a change of the reported level to LOW sets low seen while the slot is not EMPTY. -/
def State.levelLow (s : State) (i : SlotNo) : State :=
  if (s.slot i).state = .empty then s else s.putSense i { s.senseOf i with lowSeen := true }

/-- R130: a filtered change to WET is a finding when low seen is true, but for PROBING and AUTHENTICATING; it makes low
seen false. -/
def State.levelWet (s : State) (i : SlotNo) : State :=
  if (s.senseOf i).lowSeen && decide ((s.slot i).state ≠ .empty) && decide ((s.slot i).state ≠ .probing) &&
      decide ((s.slot i).state ≠ .authenticating) then
    s.levelSenseFinding i
  else s.putSense i { s.senseOf i with lowSeen := false }

/-- R129: disabling the input makes low seen false without a finding. -/
def State.levelDisabled (s : State) (i : SlotNo) : State := s.putSense i { s.senseOf i with lowSeen := false }

/-! ### Presence -/

/-- R3: in EMPTY, presence asserted starts the probe. -/
def State.presenceAsserted (s : State) (i : SlotNo) : State :=
  let x := s.slot i
  if x.state = .empty then
    let y := { x with state := .probing, present := true }
    let t := (s.putSlot i y).placeProbe i .identify
    let t := t.raise .slot (.slot i) (slotDetails x y none)
    t.judgeFitness s i
  else s

/-- R6: a watch in FIRED returns to ARMED. -/
def Watch.rearm (w : Watch) : Watch := if w.state = .fired then { w with state := .armed } else w

/-- R6: the record after presence lost: the fields of the cartridge are cleared, the watches and unbacked stay. -/
def Slot.vacate (x : Slot) : Slot :=
  { Slot.cold x.w0.rearm x.w1.rearm with tenure := x.tenure + 1, unbacked := x.unbacked }

/-- R6: presence lost ends the tenure; the line aborts (R110), the Digest Engine drops the slot's work (R88), and the
sense record is cleared (R129). -/
def State.presenceLost (s : State) (i : SlotNo) : State :=
  let x := s.slot i
  if x.state = .empty then s
  else
    let t := s.putSlot i x.vacate
    let t := t.putLine i ((s.line i).abort (s.after turnaroundTime))
    let t := t.digestDrop i fun _ => true
    let t := t.putSense i ⟨false, false⟩
    let t := t.raise .slot (.slot i) (slotDetails x x.vacate none)
    t.judgeFitness s i

/-! ### Rescan Slot -/

/-- R111: the transaction in flight gets its ignore-result flag; R7: the challenge and checkpoint entries go. -/
def LineCtl.rescan (l : LineCtl) : LineCtl :=
  { l with trans := l.trans.map fun t => { t with ignoreResult := true }, pendChallenge := none,
           pendCheckpoint := false }

/-- R7: the slot moves to PROBING within the same tenure, and a new probe is placed. That ink code, nominal, reported
fill and history index, of which R7 says nothing, are kept is the model's choice (log 97). -/
def State.rescan (s : State) (i : SlotNo) : State :=
  let x := s.slot i
  let y := Slot.leaveChallenge { x with state := .probing, writeFailures := 0 }
  let t := s.putSlot i y
  let t := t.putLine i (s.line i).rescan
  let t := t.digestDrop i PassKind.ofChallenge
  let t := t.putSense i { t.senseOf i with proven := false }
  let t := t.placeProbe i .identify
  let t := t.raise .slot (.slot i) (slotDetails x y none)
  (t.judgeFitness s i).compareWatches i

/-- A request that names a slot: above 15 is answered BAD_SUBJECT. -/
def onSlot (s : State) (fields : List Byte) (k : SlotNo → Answer) : Answer :=
  match numberOf 16 (fieldAt fields 0 1) with
  | none => refuse s .badSubject
  | some i => k i

/-- RESCAN_SLOT (R7). -/
def rescanSlot (fields : List Byte) (s : State) : Answer :=
  sized s fields 1 <| onSlot s fields fun i =>
    if (s.slot i).state = .empty then refuse s .badState else done (s.rescan i) []

def execRescanSlot (tag : Byte) (fields : List Byte) (s : State) : Host.Outcome State Fault Refusal :=
  whenPowered s fun s => s.takeRequest tag 0x09#8 fields (rescanSlot fields)

/-! ### Set Watch -/

/-- R21: the watch takes its settings; an armed one is compared at once; held is recomputed once, after that. -/
def State.configureWatch (s : State) (i : SlotNo) (n : WatchNo) (w : Watch) : State :=
  let x := s.slot i
  if decide (w.state = .armed) && w.condition x then
    let t := s.putSlot i (x.putWatch n { w with state := .fired })
    let t := t.raise .watch (.slot i) (.watch n w.kind w.limit w.action (w.quantity x))
    t.judgeFitness s i
  else (s.putSlot i (x.putWatch n w)).judgeFitness s i

/-- SET_WATCH (R21). -/
def setWatch (fields : List Byte) (s : State) : Answer :=
  sized s fields 9 <|
    match setWatchOperand fields with
    | .error o => refuse s o
    | .ok (i, n, _, w) => done (s.configureWatch i n w) (u32 w.limit)

def execSetWatch (tag : Byte) (fields : List Byte) (s : State) : Host.Outcome State Fault Refusal :=
  whenPowered s fun s => s.takeRequest tag 0x0A#8 fields (setWatch fields)

/-! ### Grant Grace -/

/-- GRANT_GRACE (R22). -/
def grantGrace (fields : List Byte) (s : State) : Answer :=
  sized s fields 5 <| needsService s <| onSlot s fields fun i =>
    let x := s.slot i
    let amount := graceAmount fields
    match x.state with
    | .grace => done (s.putSlot i { x with grace := satAdd 2000000 x.grace amount }) (u32 amount)
    | .spent => done (s.moveSlot i { x with state := .grace, grace := amount } none) (u32 amount)
    | _ => refuse s .badState

def execGrantGrace (tag : Byte) (fields : List Byte) (s : State) : Host.Outcome State Fault Refusal :=
  whenPowered s fun s => s.takeRequest tag 0x15#8 fields (grantGrace fields)

/-! ### Read Slot -/

/-- R27: every field of the record but the derived key and the watches, in the order of R1 (widths: log 23). -/
def Slot.bytes (x : Slot) : List Byte :=
  u8 x.state.ctorIdx ++ flag x.present ++ u16 x.tenure.toNat ++ optional 8 u64 x.serial ++ optional 1 u8 x.ink ++
    optional 4 u32 x.nominal ++ optional 8 Fill.bytes x.reported ++ optional 4 u32 x.remaining ++ u32 x.overdraw ++
    u32 x.grace ++ u32 x.unbacked ++ optional 3 u24 x.writeCount ++ optional 4 u32 x.writtenRemaining ++
    u32 x.drawn ++ u8 x.writeFailures ++ bitmap x.causes.members ++ flag x.held ++ optional 8 u64 x.nonce ++
    optional 8 u64 x.tag ++ optional 1 (fun n => u8 (Fin.val n)) x.historyIndex

/-- R27: the state of a watch with its kind, limit and action. -/
def Watch.bytes (w : Watch) : List Byte :=
  u8 w.state.ctorIdx ++ u8 w.kind.ctorIdx ++ u32 w.limit ++ u8 w.action.ctorIdx

/-- R27: each channel for which the slot is fit or drawable, and which of the two holds, as a list (log 23), in
ascending channel number (log 90). -/
def State.suppliedChannels (s : State) (i : SlotNo) : List Byte :=
  let named := channels.filter fun c => s.fit i c || s.drawable i c
  u8 named.length ++ named.flatMap fun c => u8 c.val ++ flag (s.fit i c) ++ flag (s.drawable i c)

/-- R112: the slot's line controller, and the bit rate in force (log 25). Fields absent together have one presence byte,
and the pending kinds are a set (log 23); an attempt is one byte that holds its number, 1 or 2 (log 98); the failure kind
takes its number of log 101. -/
def LineCtl.bytes (l : LineCtl) (rate : BitRate) : List Byte :=
  u8 l.state.ctorIdx ++
    optional 3 (fun t : Transaction => u8 t.kind.ctorIdx ++ u8 t.attempt ++ flag t.ignoreResult) l.trans ++
    optional 8 CheckpointValues.bytes
      (if l.checkpointInFlight then l.trans.map Transaction.values else none) ++
    bitmap [l.pendProbe.isSome, l.pendChallenge.isSome, l.pendCheckpoint] ++
    optional 1 (fun p : ProbeStep => u8 p.ctorIdx) l.pendProbe ++
    optional 3 (fun f : LastFailure => u8 f.kind.ctorIdx ++ u8 f.attempt ++ u8 f.failure.ctorIdx) l.lastFailure ++
    u8 rate.ctorIdx

/-- R27, R112: the contents of the reply, the fields of R27 before those of R112 (log 89); the watches are sent once,
where R27 lists them (log 65), W0 before W1 (log 96). -/
def State.slotContents (s : State) (i : SlotNo) : List Byte :=
  let x := s.slot i
  x.bytes ++ flag x.unfit ++ x.w0.bytes ++ x.w1.bytes ++ s.suppliedChannels i ++
    (s.line i).bytes s.policy.bitRate

/-- READ_SLOT (R27). -/
def readSlot (fields : List Byte) (s : State) : Answer :=
  sized s fields 1 <| onSlot s fields fun i => done s (s.slotContents i)

def execReadSlot (tag : Byte) (fields : List Byte) (s : State) : Host.Outcome State Fault Refusal :=
  whenPowered s fun s => s.takeRequest tag 0x08#8 fields (readSlot fields)

end Sys2Proof.Machine
end

