-- ==== Sys2Proof/Machine/Auth.lean ====
section
/-!
DEFINITION. Authentication and the service level (04_authentication.md, 8.3): the challenge flow (R77 to R82), the
unlock (R160 to R165), the delivery of a pass (R87), and the commands DIGEST_PASS_COMPLETE, LOCKOUT_TIMER_EXPIRY,
GET_UNLOCK_NONCE, UNLOCK_SERVICE, LOCK_SERVICE, PROGRAM_ROOT_KEY.
-/

namespace Sys2Proof.Machine

open Sys2Proof

/-! ### The challenge flow -/

/-- R4: the record after a good probe; the nominal is stored within 1-2,000,000. A history index held from before a Rescan
Slot is kept, also under another serial (log 97). -/
def Slot.identified (x : Slot) (ident : Ident) (fill : Fill) : Slot :=
  { x with
    state := .authenticating, serial := some ident.serial, ink := some ident.ink,
    nominal := some (clamp 1 2000000 ident.nominal), reported := some fill, writeCount := some fill.writeCount,
    writtenRemaining := some fill.remaining, drawn := 0 }

/-- R4, R77: the slot enters AUTHENTICATING and asks for the derivation of its cartridge key. -/
def State.probeGood (s : State) (i : SlotNo) (ident : Ident) (fill : Fill) : State :=
  let x := s.slot i
  let t := s.moveSlot i (x.identified ident fill) none
  t.digestRequest (slotRequester i)
    { kind := .derive, tenure := x.tenure, message := deriveMessage ident.serial ident.ink, slotKey := none }

/-- R4, R79: a transaction of the probe or the challenge failed after its retry: MUTE. -/
def State.goMute (s : State) (i : SlotNo) (kind : TransKind) (failure : FailKind) : State :=
  s.moveSlot i { s.slot i with state := .mute } (some (kind, failure))

/-- R78: the derived key is stored, a fresh nonce is taken and a challenge entry is placed. -/
def State.deriveDelivered (s : State) (i : SlotNo) (p : Pass) : State :=
  let key : DerivedKey := { key := deriveKey p.key p.message, void := !p.keyGood }
  let n := s.freshNonce
  (s.drawn.putSlot i { s.slot i with derivedKey := some key, nonce := some n }).placeChallenge i n

/-- R79: a good TAG: the slot holds T and asks for the expected tag. -/
def State.tagReceived (s : State) (i : SlotNo) (tag : Tag) : State :=
  let x := s.slot i
  let t := s.putSlot i { x with tag := some tag }
  t.digestRequest (slotRequester i)
    { kind := .expect, tenure := x.tenure,
      message := expectMessage (x.nonce.getD 0) (x.serial.getD 0) (x.reported.getD ⟨0, 0, false⟩),
      slotKey := some ((x.derivedKey.map DerivedKey.key).getD 0) }

/-- The lesser of a value and another that may be absent. -/
def minOpt (a : Nat) : Option Nat → Nat
  | none => a
  | some b => min a b

/-- R81: the effective remaining: the least of the reported remaining, the nominal, the entry's confirmed remaining less
its drawn-since (0 if the latter is greater), and the slot's current remaining, of those present. -/
def effectiveRemaining (x : Slot) (fill : Fill) (entry : Option HistoryEntry) : Nat :=
  minOpt (minOpt (minOpt fill.remaining x.nominal) (entry.map fun e => e.confirmed - e.drawnSince)) x.remaining

/-- R5 Note 1: what the slot stores: the least of the effective remaining, the nominal and the current remaining. -/
def Slot.storeRemaining (x : Slot) (effective : Nat) : Slot :=
  { x with remaining := some (minOpt (minOpt effective x.nominal) x.remaining) }

/-- R5, R80 row 3, R124: the record after a tag match, by the causes held and the refill policy. -/
def Slot.matched (x : Slot) (effective : Nat) (policy : RefillPolicy) (volume : Nat) : Slot :=
  let y := x.storeRemaining effective
  let genuine : Slot := { y with state := if 0 < effective then .genuine else .depleted }
  if x.causes.isEmpty then genuine
  else
    match policy with
    | .acceptLow => genuine
    | .grace => y.enterGrace volume
    | .reject => { y with state := .rejected }

/-- R80 rows 1 and 2, R83: the record after ink code 0 or a mismatch. -/
def Slot.unmatched (x : Slot) (policy : NonGenuinePolicy) (volume : Nat) : Slot :=
  if x.ink = some 0 then { x with state := .rejected }
  else
    match policy with
    | .grace => x.enterGrace volume
    | .reject => { x with state := .rejected }

/-- R120: the lookup's hit is moved to most recent. -/
def State.lookupMoves (s : State) (serial : Serial) : State :=
  match s.history.lookup serial with
  | none => s
  | some n => s.moveEntry n

/-- R114, R120: the entry as it stands at the lookup. -/
def State.entryOf (s : State) (serial : Serial) : Option HistoryEntry :=
  match s.history.lookup serial with
  | none => none
  | some n => s.entry n

/-- R80 row 3 and R82: the lookup and the checks, the REFILL notice, the slot's move, the outcome update, and the
checkpoint due: a saved-drawdown and a depletion cause merge into one (R82, step 4). -/
def State.tagMatched (s : State) (i : SlotNo) (serial : Serial) (fill : Fill) : State :=
  let x := s.slot i
  let entry := s.entryOf serial
  let findings := findingsOf fill (x.nominal.getD 0) entry
  let effective := effectiveRemaining x fill entry
  let y := Slot.matched { x with causes := x.causes.union findings } effective s.policy.refill s.policy.graceVolume
  let t := s.lookupMoves serial
  let t :=
    if findings.isEmpty then t
    else
      t.raise .refill (.slot i)
        (.refill serial findings s.policy.refill y.state fill.remaining fill.writeCount
          (entry.map fun e => (e.confirmed, e.writeCount)))
  let t := t.moveSlot i y none
  let (t, saved) := t.outcomeUpdate i serial fill findings effective
  if saved || (decide (y.state = .depleted) && (t.slot i).depletionCounts) then t.placeCheckpoint i else t

/-- R80: an EXPECT result is delivered: T is compared, and the first condition that applies decides. -/
def State.expectDelivered (s : State) (i : SlotNo) (expected : Tag) : State :=
  let x := s.slot i
  let void := (x.derivedKey.map DerivedKey.void).getD true
  if x.ink = some 0 ∨ x.tag ≠ some expected ∨ void = true then
    s.moveSlot i (x.unmatched s.policy.nonGenuine s.policy.graceVolume) none
  else
    match x.serial, x.reported with
    | some serial, some fill => s.tagMatched i serial fill
    | _, _ => s

/-- R107: the write tag is delivered: attempt 1 of WRITE FILL begins at once, with no break. -/
def State.writeTagDelivered (s : State) (i : SlotNo) (tag : Tag) : State :=
  let l := s.line i
  match l.trans with
  | none => s
  | some t => s.putLine i (l.sendRequest { t with writeTag := some tag } s.policy.bitRate)

/-! ### The unlock -/

/-- R163: the lockout time. -/
def lockoutTime : Nat := 60000

/-- R163: the contents of the reply: the result, numbered as the rule lists the results (11.2), the access level, the
failed-unlock count, the lockout time left, with no presence byte (log 23). -/
def State.unlockContents (s : State) (result : UnlockResult) : List Byte :=
  u8 result.ctorIdx ++ u8 s.requests.access.ctorIdx ++ u8 s.requests.failedUnlocks ++ u32 (s.leftOf s.requests.lockout)

/-- R163: the reserved place becomes the reply, and the UNLOCK notice is raised. -/
def State.answerUnlock (s : State) (a : Attempt) (result : UnlockResult) (e : UnlockEvent) : State :=
  State.raiseUnlock
    (s.addReply { tag := a.requestTag, code := 0x19#8, outcome := .done, contents := s.unlockContents result }) e

/-- R163: the judgement of an attempt that is granted, denied or withdrawn. -/
def State.judgeUnlock (s : State) (a : Attempt) (good : Bool) : State :=
  let r := { s.requests with attempt := none }
  if a.withdrawn then { s with requests := r }.answerUnlock a .withdrawn .withdrawn
  else if good then
    { s with requests := { r with access := .service, failedUnlocks := 0 } }.answerUnlock a .granted .granted
  else if r.failedUnlocks < 3 then
    { s with requests := { r with failedUnlocks := r.failedUnlocks + 1 } }.answerUnlock a .denied .denied
  else
    { s with requests := { r with failedUnlocks := 4, lockout := some (s.after lockoutTime) } }.answerUnlock a
      .denied .lockoutBegun

/-- R163, R76: the UNLOCK result is delivered to the Request Unit. -/
def State.unlockDelivered (s : State) (p : Pass) : State :=
  match s.requests.attempt with
  | none => s
  | some a => s.judgeUnlock a (decide (a.tag = Config.kd p.key p.message) && p.keyGood)

/-! ### Delivery (R86, R87) -/

/-- R87: a DERIVE or EXPECT result is delivered only if the pass is not abandoned, the tenure is the one it carries and
the slot is in AUTHENTICATING. -/
def State.takesChallenge (s : State) (i : SlotNo) (p : Pass) : Bool :=
  !p.abandoned && decide ((s.slot i).tenure = p.tenure) && decide ((s.slot i).state = .authenticating)

/-- R87: a WRITE_TAG result is delivered only if the checkpoint transaction that asked is still in flight. -/
def State.takesWriteTag (s : State) (i : SlotNo) (p : Pass) : Bool :=
  !p.abandoned && decide ((s.slot i).tenure = p.tenure) && (s.line i).checkpointInFlight &&
    decide ((s.line i).state = .tagWait)

/-- R87: the result of a pass is delivered or discarded. -/
def State.deliver (s : State) (p : Pass) : State :=
  match p.kind, p.requester.slot with
  | .unlock, _ => s.unlockDelivered p
  | .derive, some i => if s.takesChallenge i p then s.deriveDelivered i p else s
  | .expect, some i => if s.takesChallenge i p then s.expectDelivered i (Config.kd p.key p.message) else s
  | .writeTag, some i => if s.takesWriteTag i p then s.writeTagDelivered i (Config.kd p.key p.message) else s
  | _, none => s

/-- DIGEST_PASS_COMPLETE (R86, R87): the result is handed on, the engine becomes free, and it grants the next request. A
request made by the delivery competes in that grant. -/
def State.passCompletes (s : State) : State :=
  match s.digest.inFlight with
  | none => s
  | some p =>
    let t := s.deliver p
    { t with digest := { t.digest with inFlight := none } }.digestGrant

def execDigestPassComplete (s : State) : Host.Outcome State Fault Refusal :=
  whenPowered s fun s => s.passCompletes

/-- LOCKOUT_TIMER_EXPIRY (R164). -/
def State.lockoutExpires (s : State) : State :=
  match s.requests.lockout with
  | none => s
  | some e =>
    let t := s.reach e
    { t with requests := { t.requests with lockout := none, failedUnlocks := 0 } }.raiseUnlock .lockoutEnded

def execLockoutTimerExpiry (s : State) : Host.Outcome State Fault Refusal :=
  whenPowered s fun s => s.lockoutExpires

/-! ### Requests -/

/-- GET_UNLOCK_NONCE (R161). -/
def getUnlockNonce (fields : List Byte) (s : State) : Answer :=
  sized s fields 0 <|
    if s.requests.lockout.isSome then refuse s .lockedOut
    else
      let n := s.freshNonce
      let t := s.drawn
      done { t with requests := { t.requests with nonce := some n } } (u64 n ++ u64 s.nvm.identity.serial)

def execGetUnlockNonce (tag : Byte) (fields : List Byte) (s : State) : Host.Outcome State Fault Refusal :=
  whenPowered s fun s => s.takeRequest tag 0x18#8 fields (getUnlockNonce fields)

/-- R162: the attempt starts: the UNLOCK request is handed to the Digest Engine, the nonce is consumed, and a reply
place is reserved. -/
def State.startUnlock (s : State) (requestTag : Byte) (carried : Tag) (nonce : Nonce) : State :=
  let t := s.digestRequest requestUnitRequester
    { kind := .unlock, tenure := 0, message := unlockMessage s.nvm.identity.serial nonce, slotKey := none }
  { t with
    requests :=
      { t.requests with
        nonce := none, attempt := some { tag := carried, requestTag := requestTag, withdrawn := false } } }

/-- R162: the checks of Unlock Service in order: the outcome of the first that fails, or the nonce to use. -/
def RequestUnit.unlockCheck (r : RequestUnit) : Except ReplyOutcome Nonce :=
  if r.lockout.isSome then .error .lockedOut
  else if r.attempt.isSome then .error .badState
  else
    match r.nonce with
    | none => .error .badState
    | some n => .ok n

/-- R154, R162: Unlock Service with a place free: refused at once, or its place reserved until the pass completes. -/
def State.unlockService (s : State) (tag : Byte) (fields : List Byte) : State :=
  let refused (o : ReplyOutcome) := s.addReply { tag := tag, code := 0x19#8, outcome := o, contents := [] }
  if fields.length ≠ 8 then refused .badValue
  else
    match s.requests.unlockCheck with
    | .error o => refused o
    | .ok n => s.startUnlock tag (BitVec.ofNat 64 (fieldAt fields 0 8)) n

/-- UNLOCK_SERVICE (R154, R162). -/
def State.takeUnlockService (s : State) (tag : Byte) (fields : List Byte) : State :=
  let t := s.requestArrives fields
  if t.requests.placesInUse < 16 then t.unlockService tag fields else t.turnAway

def execUnlockService (tag : Byte) (fields : List Byte) (s : State) : Host.Outcome State Fault Refusal :=
  whenPowered s fun s => s.takeUnlockService tag fields

/-- R160, R165: the access level returns to OPERATE, the nonce becomes absent, an attempt in progress is withdrawn; a
return from SERVICE raises LEVEL_ENDED. -/
def State.endService (s : State) : State :=
  let r := s.requests
  let t :=
    { s with
      requests :=
        { r with
          access := .operate, nonce := none,
          attempt := r.attempt.map fun a => { a with withdrawn := true } } }
  if r.access = .service then t.raiseUnlock .levelEnded else t

/-- LOCK_SERVICE (R165): answered DONE with the access level after it. -/
def lockService (fields : List Byte) (s : State) : Answer :=
  sized s fields 0 <| done s.endService (u8 Access.operate.ctorIdx)

def execLockService (tag : Byte) (fields : List Byte) (s : State) : Host.Outcome State Fault Refusal :=
  whenPowered s fun s => s.takeRequest tag 0x1A#8 fields (lockService fields)

/-- R75, R184: the key is programmed, or damaged. -/
def Nvm.keyTaken (m : Nvm) : Bool := m.identity.programmed || m.damaged

/-- R75: the carried key becomes the root key, and a write of the identity record is queued. -/
def State.programKey (s : State) (key : Key) : State :=
  let identity := { s.nvm.identity with key := key, programmed := true }
  { s with nvm := { s.nvm with identity := identity } }.queueWrite (.identity identity)

/-- PROGRAM_ROOT_KEY (R75). -/
def programRootKey (fields : List Byte) (s : State) : Answer :=
  sized s fields 16 <|
    if s.nvm.keyTaken then refuse s .badState
    else done (s.programKey (BitVec.ofNat 128 (fieldAt fields 0 16))) []

def execProgramRootKey (tag : Byte) (fields : List Byte) (s : State) : Host.Outcome State Fault Refusal :=
  whenPowered s fun s => s.takeRequest tag 0x1B#8 fields (programRootKey fields)

end Sys2Proof.Machine
end

