-- ==== Sys2Proof/Machine/Bus.lean ====
section
/-!
DEFINITION. The end of a transaction on a slot line (R103, R106, R108, R109, R111), and the command TURNAROUND_END.
-/

namespace Sys2Proof.Machine

open Sys2Proof

/-- R106, R110, R111: an outcome is handed only while the slot is in that state under the tenure the transaction
carries, and its result is not ignored. -/
def State.takesEnd (s : State) (i : SlotNo) (t : Transaction) (state : SlotState) : Bool :=
  !t.ignoreResult && decide ((s.slot i).state = state) && decide ((s.slot i).tenure = t.tenure)

/-- The probe hold replaced (R96, R106, R111). -/
def State.putProbeHold (s : State) (i : SlotNo) (h : Option Ident) : State :=
  s.putLine i { s.line i with probeHold := h }

/-- R106: an IDENTIFY ends: its contents become the probe hold and READ FILL is placed; a failure leads to MUTE. -/
def State.identifyEnds (s : State) (i : SlotNo) (t : Transaction) (j : Judgement) (reply : List Byte) : State :=
  if s.takesEnd i t .probing then
    match j with
    | .good => (s.putProbeHold i (some (identOf reply))).placeProbe i .readFill
    | .failed k => (s.putProbeHold i none).goMute i .identify k
  else s.putProbeHold i none

/-- R106: a READ FILL ends: a good one completes the probe, a failure leads to MUTE. -/
def State.readFillEnds (s : State) (i : SlotNo) (t : Transaction) (j : Judgement) (reply : List Byte) : State :=
  if s.takesEnd i t .probing then
    match j with
    | .good =>
      match (s.line i).probeHold with
      | some ident => (s.putProbeHold i none).probeGood i ident (fillOf reply)
      | none => s
    | .failed k => (s.putProbeHold i none).goMute i .readFill k
  else s.putProbeHold i none

/-- R79, R106: a CHALLENGE ends: a good TAG goes on to the expected tag, a failure leads to MUTE. -/
def State.challengeEnds (s : State) (i : SlotNo) (t : Transaction) (j : Judgement) (reply : List Byte) : State :=
  if s.takesEnd i t .authenticating then
    match j with
    | .good => s.tagReceived i (tagOf reply)
    | .failed k => s.goMute i .challenge k
  else s.putProbeHold i none

/-- R108, steps 1 and 2: the written values are confirmed, and drawn since checkpoint falls by what the write covered.
-/
def Slot.confirm (x : Slot) (v : CheckpointValues) : Slot :=
  { x with
    writtenRemaining := some v.remaining, writeCount := some v.writeCount,
    drawn := x.drawn - (x.writtenRemaining.getD 0 - v.remaining), writeFailures := 0 }

/-- R108: WRITE FILL is answered ACCEPTED. -/
def State.checkpointAccepted (s : State) (i : SlotNo) (v : CheckpointValues) : State :=
  let t := s.putSlot i ((s.slot i).confirm v)
  let t := t.confirmHistory i v
  let x := t.slot i
  if x.state.supplies && decide (t.policy.checkpointStep ≤ x.drawn) then t.placeCheckpoint i else t

/-- R109: WRITE FILL is refused or fails: the failure counts, a CHECKPOINT notice is raised, and FAULT or a repeat
follows in GENUINE and DEPLETED. -/
def State.checkpointFailed (s : State) (i : SlotNo) (v : CheckpointValues) (result : CheckpointResult) : State :=
  let x := { s.slot i with writeFailures := satAdd 3 (s.slot i).writeFailures 1 }
  let t := s.putSlot i x
  let t := t.raise .checkpoint (.slot i) (.checkpoint v result x.writeFailures)
  if x.state.supplies then
    if x.writeFailures = 3 then t.moveSlot i { x with state := .fault } none else t.placeCheckpoint i
  else t

/-- R108, R109, R111: a CHECKPOINT ends, whether or not a Rescan set its flag: what its end does depends on the slot's
state alone. -/
def State.checkpointEnds (s : State) (i : SlotNo) (t : Transaction) (j : Judgement) (reply : List Byte) : State :=
  match j with
  | .failed k => s.checkpointFailed i t.values (.failed k)
  | .good => if accepted reply then s.checkpointAccepted i t.values else s.checkpointFailed i t.values .refused

/-- R103: a transaction's end is handed on to its owner. -/
def State.handOn (s : State) (i : SlotNo) (t : Transaction) (j : Judgement) (reply : List Byte) : State :=
  match t.kind with
  | .identify => s.identifyEnds i t j reply
  | .readFill => s.readFillEnds i t j reply
  | .challenge => s.challengeEnds i t j reply
  | .checkpoint => s.checkpointEnds i t j reply

/-- R105: the line is IDLE, and takes its next pending entry. -/
def State.lineFree (s : State) (i : SlotNo) : State :=
  (s.putLine i { s.line i with state := .idle, timer := none }).takePending i

/-- R103: attempt 2 with the same request message, after a break; the noted error is cleared. -/
def Transaction.retry (t : Transaction) : Transaction := { t with attempt := 2, noted := none, judged := none }

/-- R103: the transaction ends: its end is handed on while the line is still in QUIET, and the line then takes its next
pending entry. -/
def State.transactionEnds (s : State) (i : SlotNo) (t : Transaction) (j : Judgement) : State :=
  let reply := (s.line i).received
  ((s.putLine i { s.line i with trans := none }).handOn i t j reply).lineFree i

/-- TURNAROUND_END (R103, R110): a failed first attempt is repeated after a break; otherwise the transaction's end is
handed on; after an abort the line is IDLE. -/
def State.turnaroundEnds (s : State) (i : SlotNo) : State :=
  if (s.line i).state = .quiet then
    let s := s.reachLine i
    match (s.line i).trans with
    | none => s.lineFree i
    | some t =>
      match t.judged with
      | none => s
      | some (.failed k) =>
        if t.attempt = 1 then
          s.putLine i ((s.line i).sendBreak t.retry s.policy.bitRate (s.after breakTime))
        else s.transactionEnds i t (.failed k)
      | some .good => s.transactionEnds i t .good
  else s

def execTurnaroundEnd (i : SlotNo) (s : State) : Host.Outcome State Fault Refusal :=
  whenPowered s fun s => s.turnaroundEnds i

end Sys2Proof.Machine
end

