-- ==== Sys2Proof/Machine/Meter.lean ====
section
/-!
DEFINITION. The Drop Meter and Temperature Capture (02_drop_metering.md): the metering computation (R37 to R41), debits
(R40), waste (R43 to R46), readings and staleness (R36), the charges of a save (R47), and the commands
STALE_TIMER_EXPIRY, LOAD_VOLUME_TABLE, SELECT_VOLUME_BANK, LOAD_TEMPERATURE_TABLE, RESET_WASTE, READ_CHANNEL.
-/

namespace Sys2Proof.Machine

open Sys2Proof

/-- One microlitre in centi-picolitres. -/
def microlitre : Nat := 100000000

/-! ### The computation -/

/-- R37: the band of a head for a line end: the fallback band when the head is stale. -/
def TempTable.band (t : TempTable) (h : Head) : Nat :=
  match h.staleTimer, h.reading with
  | some _, some reading =>
    if reading < t.base then 0 else min 15 ((reading - t.base) / t.width)
  | _, _ => t.fallback

/-- R37: the multiplier of a band. -/
def TempTable.multiplier (t : TempTable) (band : Nat) : Nat := t.multipliers.toList.getD band 0

/-- R38: the raw volume of a line, in cpL. -/
def Flight.raw (l : Flight) : Nat := l.n1 * l.volumes.v1 + l.n2 * l.volumes.v2 + l.n3 * l.volumes.v3

/-- R38: the scaled value. -/
def scaledVolume (raw multiplier remainder : Nat) : Nat := raw * multiplier + remainder

/-- R41: a metered line is full when its non-firing nozzles are at most F. -/
def Flight.full (l : Flight) (allowance : Nat) : Bool := decide (l.nozzles - (l.n1 + l.n2 + l.n3) ≤ allowance)

/-- R41: the full-line run after a line. -/
def Meter.runAfter (m : Meter) (full : Bool) : Nat := if full then satAdd 16 m.run 1 else 0

/-- R41: the class of a line, from the run it leaves. -/
def classOf (full : Bool) (run runLength : Nat) : Classifier :=
  if full && decide (runLength ≤ run) then .service else .print

/-- R38, R39, R41: the meter record after a line's computation, before its debits. -/
def Meter.afterLine (m : Meter) (l : Flight) (cfg : RouteCfg) (multiplier band : Nat) : Meter :=
  let scaled := scaledVolume l.raw multiplier m.remainder
  let full := l.full cfg.fullAllowance
  { m with
    fine := (m.fine + scaled / 1024) % microlitre, remainder := scaled % 1024, run := m.runAfter full,
    classifier := classOf full (m.runAfter full) cfg.runLength, linesMetered := m.linesMetered + 1,
    lastBand := some band }

/-- R38: the corrected volume of a line. -/
def Meter.corrected (m : Meter) (l : Flight) (multiplier : Nat) : Nat :=
  scaledVolume l.raw multiplier m.remainder / 1024

/-- R39: the debit count of a line. -/
def Meter.debits (m : Meter) (l : Flight) (multiplier : Nat) : Nat :=
  (m.fine + m.corrected l multiplier) / microlitre

/-! ### Debits -/

/-- R40: the slot a debit goes to: the latched slot, while its tenure is still the latched one. -/
def State.chargeable (s : State) : Option (SlotNo × Tenure) → Option SlotNo
  | none => none
  | some (i, t) => if (s.slot i).tenure = t then some i else none

/-- R40, steps 3 and 4: metered rises by 1, and service too while the classifier is SERVICE. -/
def Meter.countDebit (m : Meter) : Meter :=
  { m with metered := m.metered + 1, service := if m.classifier = .service then m.service + 1 else m.service }

/-- R40: one debit of a channel, to the slot or to the orphan count. -/
def State.emitDebit (s : State) (c : Channel) (source : Option (SlotNo × Tenure)) : State :=
  let t :=
    match s.chargeable source with
    | some i => s.applyDebit i
    | none => s.putMeter c { s.meter c with orphan := satAdd u32Max (s.meter c).orphan 1 }
  t.putMeter c (t.meter c).countDebit

/-- R40: that many debits, one at a time. -/
def State.emitDebits : Nat → State → Channel → Option (SlotNo × Tenure) → State
  | 0, s, _, _ => s
  | n + 1, s, c, source => State.emitDebits n (s.emitDebit c source) c source

/-! ### Waste -/

/-- R44: a change of a waste flag raises a WASTE notice. -/
def State.raiseWaste (s : State) (f : WasteFlag) (value : Bool) : State :=
  s.raise .waste .none (.waste f value s.waste.counter s.policy.wasteNear s.policy.wasteFull)

/-- R44: the flags are judged afresh against what they were, WASTE_NEAR before WASTE_FULL (log 54). -/
def State.judgeWaste (s : State) (nearBefore fullBefore : Bool) : State :=
  let t := if s.wasteNear = nearBefore then s else s.raiseWaste .near s.wasteNear
  if s.wasteFull = fullBefore then t else t.raiseWaste .full s.wasteFull

/-- R43: the waste account with a volume added. -/
def WasteAccount.add (w : WasteAccount) (corrected : Nat) : WasteAccount :=
  { fine := (w.fine + corrected) % microlitre
    counter := satAdd u32Max w.counter ((w.fine + corrected) / microlitre) }

/-- R45: the step of the waste counter at which its record is written. -/
def wasteStep : Nat := 1000

/-- R43 to R45: a service line's corrected volume enters the waste account. -/
def State.addWaste (s : State) (corrected : Nat) : State :=
  let w := s.waste.add corrected
  let t := { s with waste := w }.judgeWaste s.wasteNear s.wasteFull
  if s.waste.counter / wasteStep < w.counter / wasteStep then t.queueWrite (.waste w) else t

/-! ### A line end -/

/-- R37 to R41, R43: the full computation of a line whose levels arrived good. -/
def State.meterLine (s : State) (l : Flight) : State :=
  let m := s.meter l.channel
  let band := s.settings.temp.band (s.head l.head)
  let multiplier := s.settings.temp.multiplier band
  let t := s.putMeter l.channel (m.afterLine l (s.routeCfg l.channel) multiplier band)
  let t := State.emitDebits (m.debits l multiplier) t l.channel l.source
  let t := t.putMeter l.channel { t.meter l.channel with lastCharge := l.source }
  if (t.meter l.channel).classifier = .service then t.addWaste (m.corrected l multiplier) else t

/-- R31, R143: a line end: an open line whose check was GOOD runs the full computation, any other meters zero. -/
def State.lineEnds (s : State) (l : Flight) : State :=
  if !l.blanked && decide (l.upstream = .good) then s.meterLine l else s

/-! ### Charges of a save -/

/-- R47: an abandoned line is charged 3 microlitres. -/
def State.chargeAbandoned (s : State) (l : Flight) : State := State.emitDebits 3 s l.channel l.source

/-- R47: a channel whose fine accumulator or correction remainder is above 0 is charged 1 microlitre, and both become
0. -/
def State.chargeResidue (s : State) (c : Channel) : State :=
  let m := s.meter c
  if 0 < m.fine ∨ 0 < m.remainder then
    let t := s.emitDebit c m.lastCharge
    t.putMeter c { t.meter c with fine := 0, remainder := 0 }
  else s

/-! ### Readings -/

/-- R36: a TEMP notice for a head. -/
def State.raiseTemp (s : State) (h : HeadNo) (fresh : Bool) : State :=
  s.raise .temp (.head h) (.temp fresh (s.head h).reading)

/-- R36: a reading is taken: a stale head becomes fresh at once. -/
def State.takeReading (s : State) (h : HeadNo) (reading : Nat) : State :=
  let t := s.putHead h
    { reading := some reading, readAt := s.time, staleTimer := some (s.after s.settings.temp.staleTime) }
  if (s.head h).staleTimer.isSome then t else t.raiseTemp h true

/-- R36: the head becomes stale; it keeps its last reading. -/
def State.goStale (s : State) (h : HeadNo) : State :=
  (s.putHead h { s.head h with staleTimer := none }).raiseTemp h false

/-- STALE_TIMER_EXPIRY (R36). -/
def State.staleExpires (s : State) (h : HeadNo) : State :=
  match (s.head h).staleTimer with
  | none => s
  | some e => (s.reach e).goStale h

def execStaleTimerExpiry (h : HeadNo) (s : State) : Host.Outcome State Fault Refusal :=
  whenPowered s fun s => s.staleExpires h

/-- R36: a fresh head is re-judged against a new stale time, measured from the time of its reading. That a stale head
stays stale until its next reading, also when its reading is younger than a lengthened stale time, is the model's
choice (log 100). -/
def State.rejudgeHead (s : State) (h : HeadNo) : State :=
  let x := s.head h
  let stale := s.settings.temp.staleTime
  if x.staleTimer.isNone then s
  else if stale < s.since x.readAt then s.goStale h
  else s.putHead h { x with staleTimer := some (x.readAt + BitVec.ofNat 32 stale) }

/-! ### Volume and temperature tables -/

/-- R29: the three volumes of a bank for a channel and waveform set; a set above 3 gives free values (log 8). -/
def State.volumesFor (s : State) (c : Channel) (waveformSet : Byte) : Volumes :=
  let bank := match s.settings.active with | .a => s.settings.bankA | .b => s.settings.bankB
  match numberOf 4 waveformSet.toNat with
  | some w => bank[c][w]
  | none => { v1 := freeVolume s.draws 1, v2 := freeVolume s.draws 2, v3 := freeVolume s.draws 3 }

/-- R33: one entry of the list, written into a bank. -/
def writeVolume (bank : VolumeBank) (v : VolumeField) : VolumeBank :=
  match numberOf 12 v.channel, numberOf 4 v.waveform with
  | some c, some w => bank.set c ((bank[c]).set w v.volumes)
  | _, _ => bank

/-- R33: the list written into the named bank, in list order. -/
def Settings.loadVolumes (x : Settings) (name : BankName) (vs : List VolumeField) : Settings :=
  match name with
  | .a => { x with bankA := vs.foldl writeVolume x.bankA }
  | .b => { x with bankB := vs.foldl writeVolume x.bankB }

/-- R33: the reply echoes each stored volume, entry by entry, as the entry stores it (log 46). -/
def VolumeField.echo (v : VolumeField) : List Byte := u16 v.volumes.v1 ++ u16 v.volumes.v2 ++ u16 v.volumes.v3

/-- LOAD_VOLUME_TABLE (R33): the checks in order, then the whole list. -/
def loadVolumeTable (fields : List Byte) (s : State) : Answer :=
  sized s fields (listSize fields 1 8) <|
    match bankOf (fieldAt fields 0 1) with
    | none => refuse s .badValue
    | some name =>
      let vs := volumeFields fields
      if vs.length = 0 ∨ 12 < vs.length then refuse s .badValue
      else if vs.any fun v => decide (11 < v.channel) then refuse s .badSubject
      else if vs.any fun v => decide (3 < v.waveform) then refuse s .badValue
      else if name = s.settings.active then refuse s .badState
      else done { s with settings := s.settings.loadVolumes name vs } (vs.flatMap VolumeField.echo)

def execLoadVolumeTable (tag : Byte) (fields : List Byte) (s : State) : Host.Outcome State Fault Refusal :=
  whenPowered s fun s => s.takeRequest tag 0x0B#8 fields (loadVolumeTable fields)

/-- SELECT_VOLUME_BANK (R34): answered with the name of the active bank after the request. -/
def selectVolumeBank (fields : List Byte) (s : State) : Answer :=
  sized s fields 1 <|
    match bankOf (fieldAt fields 0 1) with
    | none => refuse s .badValue
    | some name => done { s with settings := { s.settings with active := name } } (u8 name.ctorIdx)

def execSelectVolumeBank (tag : Byte) (fields : List Byte) (s : State) : Host.Outcome State Fault Refusal :=
  whenPowered s fun s => s.takeRequest tag 0x0C#8 fields (selectVolumeBank fields)

/-- R35: the table as stored. -/
def TempTable.bytes (t : TempTable) : List Byte :=
  t.multipliers.toList.flatMap u16 ++ u8 t.base ++ u8 t.width ++ u8 t.fallback ++ u16 t.staleTime

/-- R35, R36: the whole table is replaced; a change of the stale time re-judges every head, in ascending head number
(log 45); what that does to a stale head is log 100. -/
def State.loadTemperature (s : State) (t : TempTable) : State :=
  let u := { s with settings := { s.settings with temp := t } }
  if t.staleTime = s.settings.temp.staleTime then u else headNos.foldl State.rejudgeHead u

/-- LOAD_TEMPERATURE_TABLE (R35). -/
def loadTemperatureTable (fields : List Byte) (s : State) : Answer :=
  sized s fields 37 <| done (s.loadTemperature (tempTableOperand fields)) (tempTableOperand fields).bytes

def execLoadTemperatureTable (tag : Byte) (fields : List Byte) (s : State) : Host.Outcome State Fault Refusal :=
  whenPowered s fun s => s.takeRequest tag 0x0D#8 fields (loadTemperatureTable fields)

/-! ### Reset Waste -/

/-- R46: both values become 0, the flags are judged afresh, and a write of the waste record is queued. -/
def State.zeroWaste (s : State) : State :=
  ({ s with waste := ⟨0, 0⟩ }.judgeWaste s.wasteNear s.wasteFull).queueWrite (.waste ⟨0, 0⟩)

/-- RESET_WASTE (R46). -/
def resetWaste (fields : List Byte) (s : State) : Answer :=
  sized s fields 0 <| needsService s <| done s.zeroWaste []

def execResetWaste (tag : Byte) (fields : List Byte) (s : State) : Host.Outcome State Fault Refusal :=
  whenPowered s fun s => s.takeRequest tag 0x17#8 fields (resetWaste fields)

/-! ### Read Channel -/

/-- R49: every configured field, in the order of the table. -/
def RouteCfg.bytes (x : RouteCfg) : List Byte :=
  u8 x.ink ++ u8 x.head.val ++ u16 x.nozzles ++ slotOrNone x.defaultSlot ++ slotOrNone x.alternate ++
    u8 x.source.ctorIdx ++ u16 x.switchDelay ++ flag x.revertEnable ++ u16 x.revertDelay ++ u8 x.settleLines ++
    flag x.valveInvert ++ u8 x.fullAllowance ++ u8 x.runLength

/-- R71: IDLE 0, RUNNING 1 with the milliseconds left, WAITING 2 (log 23). -/
def State.switchTimerBytes (s : State) : SwitchTimer → List Byte
  | .idle => 0 :: u32 0
  | .running e => 1 :: u32 (s.left e)
  | .waiting => 2 :: u32 0

/-- A timer as idle or running with its milliseconds left (log 23). -/
def State.timerBytes (s : State) (t : Option Time) : List Byte := flag t.isSome ++ u32 (s.leftOf t)

/-- R71: whether a slot that may be none is fit and whether it is drawable for the channel, in that order (log 77); none
is neither (log 68). -/
def State.slotFlags (s : State) (c : Channel) : Option SlotNo → List Byte
  | none => flag false ++ flag false
  | some i => flag (s.fit i c) ++ flag (s.drawable i c)

/-- R71: the route part of the reply. The primary reason is sent as a field that is absent while it is none (log 91);
the last four flags are both of the default slot, then both of the alternate (log 77). -/
def State.routeBytes (s : State) (c : Channel) : List Byte :=
  let r := s.route c
  let cfg := s.routeCfg c
  cfg.bytes ++ u8 r.state.ctorIdx ++ slotOrNone r.active ++ s.switchTimerBytes r.switchTimer ++
    s.timerBytes r.revertTimer ++ u8 r.settleCount ++ flag r.hold ++ bitmap r.gate.members ++
    optional 1 (fun x => u8 (Reason.ctorIdx x)) r.gate.primary ++ optional 2 word16 r.lastLine ++
    flag s.pins.valves[c] ++ s.slotFlags c cfg.defaultSlot ++ s.slotFlags c cfg.alternate

/-- R28: every field of the meter record (widths: log 23). -/
def Meter.bytes (m : Meter) : List Byte :=
  u32 m.fine ++ u16 m.remainder ++ u8 m.run ++ u8 m.classifier.ctorIdx ++ u32 m.metered.toNat ++
    u32 m.service.toNat ++ u32 m.orphan ++ u32 m.linesMetered.toNat ++ u32 m.linesBlanked.toNat ++
    optional 3 (fun x : SlotNo × Tenure => u8 x.1.val ++ u16 x.2.toNat) m.lastCharge ++ optional 1 u8 m.lastBand

/-- R48, R140: the head of the newest line in flight on the channel, or the configured head. -/
def State.meteredHead (s : State) (c : Channel) : HeadNo :=
  match (s.forward.flights.filter fun l => decide (l.channel = c)).getLast? with
  | some l => l.head
  | none => (s.routeCfg c).head

/-- R48: the meter part of the reply. The time since a reading that is absent is 0 (log 48); the near threshold and
flag come before the full ones (log 96). -/
def State.meterBytes (s : State) (c : Channel) : List Byte :=
  let h := s.head (s.meteredHead c)
  let cfg := s.routeCfg c
  (s.meter c).bytes ++ u8 cfg.fullAllowance ++ u8 cfg.runLength ++ u8 (s.meteredHead c).val ++
    optional 1 u8 h.reading ++ u32 (if h.reading.isSome then s.since h.readAt else 0) ++ flag h.staleTimer.isSome ++
    u8 s.settings.active.ctorIdx ++ u32 s.waste.counter ++ u32 s.waste.fine ++ u32 s.policy.wasteNear ++
    u32 s.policy.wasteFull ++ flag s.wasteNear ++ flag s.wasteFull

/-- READ_CHANNEL (R71, R48): the route part, then the meter part (log 66). -/
def readChannel (fields : List Byte) (s : State) : Answer :=
  onChannel s fields fun c => done s (s.routeBytes c ++ s.meterBytes c)

def execReadChannel (tag : Byte) (fields : List Byte) (s : State) : Host.Outcome State Fault Refusal :=
  whenPowered s fun s => s.takeRequest tag 0x04#8 fields (readChannel fields)

end Sys2Proof.Machine
end

