-- ==== Sys2Proof/Machine/Link.lean ====
section
/-!
DEFINITION. The Fire Link (07_the_fire_link.md): packets that are not lines, symbols, lines from header to line end, the
abandonment of lines, the loss of the link, the grades, the returns of the head driver, and READ_LINK. The end of a
packet on the upstream return lane is in Machine/Power.lean.
-/

namespace Sys2Proof.Machine

open Sys2Proof

/-! ### Packets that open no line -/

/-- MGMT_CHECK_FAILED (R137, R194): the received check is judged; the packet is dropped without a reply and counts as a
check failure. With the correct check no packet fails (log 3). -/
def State.mgmtFails (s : State) (payload : List Byte) (check : BitVec 16) : State :=
  if mgmtCheck payload = check then s else (s.packetArrives payload.length).countFailure

/-- MGMT_WITHOUT_TAG (R194): a good packet, not a request. -/
def State.mgmtTagless (s : State) (payloadBytes : Nat) : State := (s.packetArrives payloadBytes).countGood

/-- R136: a framing fault found at the packet's length or kind, counted once at its end. -/
def State.framingFault (s : State) (payloadBytes : Nat) : State := (s.packetArrives payloadBytes).countFailure

def execMgmtCheckFailed (p : Arrival) (s : State) : Host.Outcome State Fault Refusal :=
  whenPowered s fun s => s.mgmtFails p.payload p.check

def execMgmtWithoutTag (payloadBytes : Nat) (s : State) : Host.Outcome State Fault Refusal :=
  whenPowered s fun s => s.mgmtTagless payloadBytes

def execUnknownKindPacketEnd (payloadBytes : Nat) (s : State) : Host.Outcome State Fault Refusal :=
  whenPowered s fun s => s.framingFault payloadBytes

def execOversizePacketEnd (payloadBytes : Nat) (s : State) : Host.Outcome State Fault Refusal :=
  whenPowered s fun s => s.framingFault payloadBytes

def execFillSymbolReceived (s : State) : Host.Outcome State Fault Refusal :=
  whenPowered s fun s => s.symbolArrives .fill []

def execStartSymbolReceived (s : State) : Host.Outcome State Fault Refusal :=
  whenPowered s fun s => s.symbolArrives .start []

def execPacketCut (symbol : LaneSymbol) (arrived : List Byte) (s : State) : Host.Outcome State Fault Refusal :=
  whenPowered s fun s => s.symbolArrives symbol arrived

/-- R138: a HEAD packet as it is placed, whole, with the check it came with. -/
def headForwarded (payload : List Byte) (check : BitVec 16) : ForwardPacket :=
  { placed := packetBody kindHead payload ++ word16 check, total := laneBytes payload.length, sent := 0, live := false }

/-- R138: a HEAD packet with a good check is placed whole, or dropped with a LINK notice for want of room. -/
def State.forwardHead (s : State) (payload : List Byte) (check : BitVec 16) : State :=
  if s.forward.free < laneBytes payload.length then s.raiseLink .forwardFull else s.place (headForwarded payload check)

/-- HEAD_PACKET_END (R137, R138): the check is judged, and the packet counts (log 61) before it is placed; one whose
check fails is dropped. -/
def State.headEnds (s : State) (payload : List Byte) (check : BitVec 16) : State :=
  let good := decide (crc16 (packetBody kindHead payload) = check)
  let t := (s.packetArrives payload.length).countCheck good
  if good then t.forwardHead payload check else t

def execHeadPacketEnd (payload : List Byte) (check : BitVec 16) (s : State) : Host.Outcome State Fault Refusal :=
  whenPowered s fun s => s.headEnds payload check

/-! ### The header of a line -/

/-- R139: the header is complete after 9 bytes of the packet. -/
def headerBytes : Nat := 9

/-- A header as received: the payload fields it holds, and the length. -/
structure LineHead where
  channel : Byte
  lineNumber : BitVec 16
  waveformSet : Byte
  nozzles : BitVec 16
  length : BitVec 16
  deriving DecidableEq, Repr

/-- The header bytes as received. -/
def LineHead.bytes (h : LineHead) : List Byte :=
  lineHeaderBytes h.channel h.lineNumber h.waveformSet h.nozzles h.length

/-- R139: the first test that refuses the header, in the order of the table. -/
def State.headerRefused (s : State) (h : LineHead) : Option RefuseReason :=
  match numberOf 12 h.channel.toNat with
  | none => some .channel
  | some c =>
    if h.nozzles.toNat ≠ (s.routeCfg c).nozzles then some .count
    else if h.length.toNat ≠ 6 + levelBytes h.nozzles.toNat then some .length
    else if s.forward.free < laneBytes h.length.toNat then some .noRoom
    else none

/-- R139: the subject of a LINE_REFUSED notice. -/
def refusedSubject (channel : Byte) : Subject :=
  match numberOf 12 channel.toNat with
  | none => .none
  | some c => .channel c

/-- R139: a refused header opens no line; the rest of the packet is received and discarded. -/
def State.refuseHeader (s : State) (h : LineHead) (r : RefuseReason) : State :=
  let t := s.raise .lineRefused (refusedSubject h.channel)
    (.lineRefused r h.channel h.lineNumber h.nozzles
      ((numberOf 12 h.channel.toNat).map fun c => (s.routeCfg c).nozzles))
  { t with link := { t.link with rx := .refusedLine h.bytes (laneBytes h.length.toNat - headerBytes) } }

/-- R66: at a header taken while the settle count is above 0 it falls by 1, and SETTLE goes when it reaches 0. -/
def State.settleCountdown (s : State) (c : Channel) : State :=
  let r := s.route c
  if r.settleCount = 0 then s
  else
    let t := s.putRoute c { r with settleCount := r.settleCount - 1 }
    if r.settleCount = 1 then t.setGate c { r.gate with settle := false } else t

/-- R65: the line number becomes the channel's last line. -/
def State.recordLine (s : State) (c : Channel) (lineNumber : BitVec 16) : State :=
  s.putRoute c { s.route c with lastLine := some lineNumber }

/-- R29: the line's latched values; R30, R140: its counts are 0 and it is ARRIVING. -/
def State.latchLine (s : State) (c : Channel) (h : LineHead) : Flight :=
  { channel := c, lineNumber := h.lineNumber,
    source := (s.route c).active.map fun i => (i, (s.slot i).tenure),
    volumes := s.volumesFor c h.waveformSet, head := (s.routeCfg c).head, blanked := !(s.route c).gate.isOpen,
    nozzles := h.nozzles.toNat, n1 := 0, n2 := 0, n3 := 0, upstream := .arriving }

/-- R140, step 3: a blanked header counts. -/
def State.countBlanked (s : State) (c : Channel) (blanked : Bool) : State :=
  if blanked then s.putMeter c { s.meter c with linesBlanked := (s.meter c).linesBlanked + 1 } else s

/-- Free volumes were taken for a waveform set that the table does not hold (log 8). -/
def State.drawnFor (s : State) (waveformSet : Byte) : State := if waveformSet.toNat < 4 then s else s.drawn

/-- R138, R140 step 4: the header bytes as the first bytes of the line's packet. -/
def LineHead.forwarded (h : LineHead) : ForwardPacket :=
  { placed := h.bytes,
    total := laneBytes h.length.toNat, sent := 0, live := true }

/-- R140: the header is taken for channel c. -/
def State.acceptHeader (s : State) (c : Channel) (h : LineHead) : State :=
  let l := s.latchLine c h
  let t := (s.recordLine c h.lineNumber).settleCountdown c
  let t := ((t.countBlanked c l.blanked).drawnFor h.waveformSet).place h.forwarded
  { t with
    forward := { t.forward with flights := t.forward.flights ++ [l] }
    link := { t.link with rx := .line } }

/-- R139, R140: the header is tested, and refused or taken. -/
def State.testHeader (s : State) (h : LineHead) : State :=
  match s.headerRefused h, numberOf 12 h.channel.toNat with
  | some r, _ => s.refuseHeader h r
  | none, some c => s.acceptHeader c h
  | none, none => s

/-- LINE_HEADER (R139, R140): the nine bytes have arrived. A length that a header does not have is not tested
(log 38). -/
def State.headerCompletes (s : State) (h : LineHead) : State :=
  let t := (s.ensureBegun.send headerBytes).symbolReceived
  if h.length.toNat < 6 ∨ 518 < h.length.toNat then t else t.testHeader h

def execLineHeader (channel : Byte) (lineNumber : BitVec 16) (waveformSet : Byte) (nozzles length : BitVec 16)
    (s : State) : Host.Outcome State Fault Refusal :=
  whenPowered s fun s =>
    s.headerCompletes
      { channel := channel, lineNumber := lineNumber, waveformSet := waveformSet, nozzles := nozzles, length := length }

/-- The lane is between packets, the bytes of the one that ended having arrived. -/
def State.rxEnds (s : State) (bytes : Nat) : State :=
  let t := (s.send bytes).symbolReceived
  { t with link := { t.link with rx := .idle } }

/-- R137, R149: data symbols that are part of no packet are discarded: in UP they restart the link-lost timer, in LOST
they restore nothing. Where a packet is in progress they would be its own, and the command says nothing (log 3). -/
def State.strayData (s : State) (bytes : Nat) : State :=
  match s.link.rx with
  | .idle => s.rxEnds bytes
  | .lostRest => s.rxEnds bytes
  | _ => s

/-- R137: the whole of a LINE packet that opens no line has arrived, and its check is judged. -/
def State.wholeLineEnds (s : State) (payload : List Byte) (check : BitVec 16) : State :=
  (s.packetArrives payload.length).countCheck (decide (crc16 (packetBody kindLine payload) = check))

/-- REFUSED_LINE_END (R137, R194): the rest of a refused line, or the whole of a packet too short for a header, has
arrived and is discarded; the received check is judged against all its bytes. Bytes that are not the rest of the refused
line end no packet (log 3). The rest of a line that the loss of the link ended is data symbols without a packet (R149,
R150), as is, where no packet has begun, a rest that is too long for a packet without a header (log 88). -/
def State.refusedEnds (s : State) (rest : List Byte) (check : BitVec 16) : State :=
  match s.link.rx with
  | .refusedLine header left =>
    if rest.length + 2 = left then (s.rxEnds left).countCheck (decide (crc16 (header ++ rest) = check)) else s
  | .receiving => s.wholeLineEnds rest check
  | .lostRest => s.strayData (rest.length + 2)
  | _ => if rest.length < 6 then s.wholeLineEnds rest check else s.strayData (rest.length + 2)

def execRefusedLineEnd (rest : List Byte) (check : BitVec 16) (s : State) : Host.Outcome State Fault Refusal :=
  whenPowered s fun s => s.refusedEnds rest check

/-! ### The upstream end of a line -/

/-- R142: the line's packet with its levels and the check to be sent: received, correct or poisoned. -/
def ForwardPacket.complete (p : ForwardPacket) (blanked good : Bool) (levels : List Byte) (check : BitVec 16) :
    ForwardPacket :=
  let body := p.placed ++ levelsPlaced blanked levels
  { p with
    placed :=
      body ++ (if good then (if blanked then word16 (crc16 body) else word16 check) else poisonedCheck body) }

/-- R142: the line with its counts (R141) and the result of its check. -/
def Flight.arrive (l : Flight) (good : Bool) (levels : List Byte) : Flight :=
  { l.count levels with upstream := if good then .good else .failed }

/-- R142: the bytes the received check is compared against: the header as received, and the levels as received. -/
def State.lineBytes (s : State) (levels : List Byte) : List Byte :=
  match s.forward.buffer.getLast? with
  | none => levels
  | some p => p.placed ++ levels

/-- R142, R137: the arriving line reaches its upstream end. -/
def State.lineArrives (s : State) (l : Flight) (levels : List Byte) (check : BitVec 16) : State :=
  let good := decide (crc16 (s.lineBytes levels) = check)
  let t :=
    { s with
      forward :=
        { s.forward with
          buffer := onNewest (fun p => p.complete l.blanked good levels check) s.forward.buffer
          flights := onNewestFlight (fun l => l.arrive good levels) s.forward.flights } }
  (t.rxEnds (levels.length + 2)).countCheck good

/-- LINE_UPSTREAM_END (R142): the line whose header was taken last ends; the rest of an abandoned line is discarded and
does not count (R144), and where no packet is in progress they are data symbols without one (R149). Level bytes that are
not the line's N / 4 end no line (log 3). -/
def State.upstreamEnds (s : State) (levels : List Byte) (check : BitVec 16) : State :=
  match s.link.rx, s.forward.flights.getLast? with
  | .line, some l =>
    if levels.length = levelBytes l.nozzles then s.lineArrives l levels check else s
  | .abandonedLine, _ => s.rxEnds (levels.length + 2)
  | _, _ => s.strayData (levels.length + 2)

def execLineUpstreamEnd (levels : List Byte) (check : BitVec 16) (s : State) : Host.Outcome State Fault Refusal :=
  whenPowered s fun s => s.upstreamEnds levels check

/-! ### The line end -/

/-- R138, R143: the packets behind the oldest line. -/
def sentThroughLine : List ForwardPacket → List ForwardPacket
  | [] => []
  | p :: ps => if p.live then ps else sentThroughLine ps

/-- R138, R143: the oldest line's check has been sent, and with it every symbol before it: those that were held have had
their symbol times, those of the others are taken early (log 15). -/
def Forward.endLine (f : Forward) (later : List Flight) : Forward :=
  let buffer := sentThroughLine f.buffer
  let gone := unsentSymbols f.buffer - unsentSymbols buffer
  { buffer := buffer, flights := later, early := f.early + (gone - f.held), held := f.held - gone }

/-- LINE_END (R143): the oldest line in flight, once it has arrived, leaves the record and is metered. -/
def State.lineSent (s : State) : State :=
  match s.forward.flights with
  | [] => s
  | l :: ls =>
    if l.upstream = .arriving then s
    else { s with forward := s.forward.endLine ls }.lineEnds l

def execLineEnd (s : State) : Host.Outcome State Fault Refusal := whenPowered s fun s => s.lineSent

/-! ### Abandonment -/

/-- R144: the packet of an abandoned line: zero levels for those not received, and a poisoned check. A line in flight
has had no line end, so its check has not been sent (R143). -/
def ForwardPacket.abandon (p : ForwardPacket) : ForwardPacket := if p.live then { p.poison with live := false } else p

/-- R144: every line in flight is abandoned and leaves its record without a line end; the further bytes of one that
still arrives are discarded. -/
def State.abandonLines (s : State) : State :=
  { s with
    forward :=
      { s.forward with
        buffer := (s.forward.buffer.map ForwardPacket.abandon).filter ForwardPacket.stays, flights := [] }
    link := { s.link with rx := match s.link.rx with | .line => .abandonedLine | x => x } }

/-- R149, R150: no packet is in progress once the link is lost; that the rest of a refused line may still arrive is
kept. -/
def RxState.lost : RxState → RxState
  | .refusedLine _ _ => .lostRest
  | _ => .idle

/-- R150, step 2: the packet partly received is ended: every line is abandoned, the arriving one among them; any other
packet is discarded without a count. -/
def State.dropArriving (s : State) : State :=
  let t := s.abandonLines
  { t with link := { t.link with rx := t.link.rx.lost } }

/-- R150: the link is declared lost. The slots' checkpoints become due in ascending slot number (log 43). -/
def State.loseLink (s : State) : State :=
  let t := { s with link := { s.link with up := false, timer := none } }
  (slotNos.foldl State.linkLostDue t.dropArriving.endService).raiseLink .lost

/-- LINK_LOST (R149, R150): the link-lost timer expires; bytes of a packet in progress had arrived before. -/
def State.linkExpires (s : State) (arrived : List Byte) : State :=
  match s.link.up, s.link.timer with
  | true, some e => ((s.bytesArrive arrived).reach e).loseLink
  | _, _ => s

def execLinkLost (arrived : List Byte) (s : State) : Host.Outcome State Fault Refusal :=
  whenPowered s fun s => s.linkExpires arrived

/-! ### Grades -/

def Link.grade (x : Link) : GradeName → Grade
  | .minor => x.minor
  | .major => x.major

def Link.putGrade (x : Link) (g : GradeName) (v : Grade) : Link :=
  match g with
  | .minor => { x with minor := v }
  | .major => { x with major := v }

/-- R152: the detail of a change of a grade. -/
def gradeEvent : GradeName → Bool → LinkEvent
  | .minor, true => .minorAsserted
  | .minor, false => .minorCleared
  | .major, true => .majorAsserted
  | .major, false => .majorCleared

/-- R152: the grade changes, and its timer is idle. -/
def State.changeGrade (s : State) (g : GradeName) : State :=
  let x := s.link.grade g
  { s with link := s.link.putGrade g { x with asserted := !x.asserted, timer := none } }.raiseLink
    (gradeEvent g !x.asserted)

/-- GRADE_TIMER_EXPIRY (R152). -/
def State.gradeExpires (s : State) (g : GradeName) : State :=
  match (s.link.grade g).timer with
  | none => s
  | some e => (s.reach e).changeGrade g

def execGradeTimerExpiry (g : GradeName) (s : State) : Host.Outcome State Fault Refusal :=
  whenPowered s fun s => s.gradeExpires g

/-! ### Returns of the head driver -/

/-- R135: the largest HEADRET, in bytes on the lane. -/
def largestHeadret : Nat := 128

/-- R147: the newest HEADRET of the return buffer changed. -/
def onNewestReturn (f : HeadReturn → HeadReturn) : List HeadReturn → List HeadReturn
  | [] => []
  | [h] => [f h]
  | h :: hs => h :: onNewestReturn f hs

/-- R145: the bytes of a cut HEADRET: those that arrived, zero bytes to its declared length, a poisoned check. -/
def HeadReturn.pad (h : HeadReturn) (arrived : List Byte) : HeadReturn :=
  let body := (h.bytes ++ arrived).take (h.total - 2)
  let body := body ++ List.replicate (h.total - 2 - body.length) 0x00#8
  { h with bytes := body ++ poisonedCheck body, arriving := false }

/-- HEADRET_CUT (R145): a symbol cuts the packet that arrives on the downstream return lane. -/
def State.cutReturn (s : State) (arrived : List Byte) : State :=
  match s.returns.rx with
  | .headret =>
    { s with
      returns :=
        { s.returns with buffer := onNewestReturn (fun h => h.pad arrived) s.returns.buffer, rx := .idle } }
  | _ => { s with returns := { s.returns with rx := .idle } }

def execHeadretCut (arrived : List Byte) (s : State) : Host.Outcome State Fault Refusal :=
  whenPowered s fun s => s.cutReturn arrived

/-- R145: a HEADRET is waiting once its kind and length have arrived. -/
def State.placeReturn (s : State) (length : BitVec 16) : State :=
  { s with
    returns :=
      { s.returns with
        buffer := s.returns.buffer ++
          [{ bytes := kindHeadret :: word16 length, total := laneBytes length.toNat, arriving := true }]
        rx := .headret } }

/-- The bytes of the packet are discarded to its end (R145). -/
def State.discardReturn (s : State) : State := { s with returns := { s.returns with rx := .discarding } }

/-- HEADRET_START (R145): the kind and length of a packet on the downstream return lane have arrived. A HEADRET that
was still arriving was cut by the packet's start symbol (log 29). -/
def State.returnStarts (s : State) (kind : Byte) (length : BitVec 16) : State :=
  let t := s.cutReturn []
  if kind = kindHeadret then
    if largestHeadret < laneBytes length.toNat then t.discardReturn.raiseLink .returnOversize
    else t.placeReturn length
  else t.discardReturn

def execHeadretStart (kind : Byte) (length : BitVec 16) (s : State) : Host.Outcome State Fault Refusal :=
  whenPowered s fun s => s.returnStarts kind length

/-- R146, R195: the value for a head is a reading unless it is 255. -/
def State.takeTemperature (payload : List Byte) (s : State) (h : HeadNo) : State :=
  let v := (byteAt payload (1 + h.val)).toNat
  if v = 255 then s else s.takeReading h v

/-- R146, R195: a HEAD STATUS with a good check and at least 9 payload bytes gives the temperature values of heads 0 to
7. -/
def State.readHeadStatus (s : State) (payload : List Byte) (check : BitVec 16) : State :=
  if byteAt payload 0 = 0x01#8 ∧ 9 ≤ payload.length ∧ crc16 (packetBody kindHeadret payload) = check then
    headNos.foldl (State.takeTemperature payload) s
  else s

/-- R145: the rest of a HEADRET enters the return buffer as it came. -/
def HeadReturn.complete (h : HeadReturn) (payload : List Byte) (check : BitVec 16) : HeadReturn :=
  { h with bytes := h.bytes ++ payload ++ word16 check, arriving := false }

/-- HEADRET_END (R145, R146): the arriving HEADRET is whole; the end of a packet that is discarded ends the discarding.
A payload that is not of the declared length ends no packet (log 3). -/
def State.returnArrives (s : State) (payload : List Byte) (check : BitVec 16) : State :=
  match s.returns.rx, s.returns.buffer.getLast? with
  | .headret, some h =>
    if laneBytes payload.length = h.total then
      { s with
        returns :=
          { s.returns with
            buffer := onNewestReturn (fun h => h.complete payload check) s.returns.buffer, rx := .idle }
      }.readHeadStatus payload check
    else s
  | .discarding, _ => { s with returns := { s.returns with rx := .idle } }
  | _, _ => s

def execHeadretEnd (payload : List Byte) (check : BitVec 16) (s : State) : Host.Outcome State Fault Refusal :=
  whenPowered s fun s => s.returnArrives payload check

/-! ### Read Link -/

/-- R153: a grade as CLEAR 0 or ASSERTED 1, with its timer. -/
def State.gradeBytes (s : State) (g : Grade) : List Byte := flag g.asserted ++ s.timerBytes g.timer

/-- R153: the contents of the reply; the link state as UP 0 or LOST 1. Widths: log 62; the link-lost timer: log 63;
MINOR before MAJOR in each pair: log 96. -/
def State.linkContents (s : State) : List Byte :=
  flag (!s.link.up) ++ u32 (s.leftOf s.link.timer) ++ u8 s.link.minor.counter ++ u8 s.link.major.counter ++
    u32 s.link.minor.leak ++ u32 s.link.major.leak ++ s.gradeBytes s.link.minor ++ s.gradeBytes s.link.major ++
    u16 s.policy.minorWindow ++ u16 s.policy.majorWindow ++ u16 s.forward.backlog ++ u8 s.forward.flights.length

/-- READ_LINK (R153). -/
def readLink (fields : List Byte) (s : State) : Answer := sized s fields 0 <| done s s.linkContents

def execReadLink (tag : Byte) (fields : List Byte) (s : State) : Host.Outcome State Fault Refusal :=
  whenPowered s fun s => s.takeRequest tag 0x0E#8 fields (readLink fields)

end Sys2Proof.Machine
end

