-- ==== Sys2Proof/Machine/Pins.lean ====
section
/-!
DEFINITION. The Pin Unit (09_pins.md): the filters of the inputs, what a filtered change of PRESENCE, LEVEL and AUX
hands on, and the commands READ_PINS and SET_PINS. POWER_FAIL is handed to the NVM Controller, so PIN_RAW_CHANGE and
FILTER_TIMER_EXPIRY are in Machine/Power.lean.
-/

namespace Sys2Proof.Machine

open Sys2Proof

/-! ### Delays -/

/-- R172: the assert and release delays of an input's group; POWER_FAIL's 100 microseconds are within one count of the
Millisecond Timebase (log 24). -/
def PinCfg.groupDelays (cfg : PinCfg) : Pin → Nat × Nat
  | .presence _ => (cfg.presenceAssert, cfg.presenceRelease)
  | .level _ => (cfg.levelAssert, cfg.levelRelease)
  | .aux _ => (cfg.auxAssert, cfg.auxRelease)
  | .powerFail => (0, 0)

/-- R174: the delay for a new level. -/
def PinCfg.delay (cfg : PinCfg) (p : Pin) (asserted : Bool) : Nat :=
  if asserted then (cfg.groupDelays p).1 else (cfg.groupDelays p).2

/-- R174: a delay of 0 makes the expiry happen at once; POWER_FAIL's fixed time is not 0 (R179). -/
def PinCfg.immediate (cfg : PinCfg) (p : Pin) (asserted : Bool) : Bool :=
  decide (p ≠ .powerFail) && decide (cfg.delay p asserted = 0)

/-! ### Filters -/

/-- R179, R180: which inputs have a changed flag. -/
def Pin.hasChanged : Pin → Bool
  | .powerFail => false
  | _ => true

/-- R174, R180: the filtered level becomes the raw level, the timer IDLE, and the changed flag true. -/
def Filter.settle (f : Filter) (p : Pin) : Filter :=
  { f with filtered := f.raw, timer := none, changed := f.changed || Pin.hasChanged p }

/-- R174: the raw level has come to differ from the filtered level, and the filter timer starts. -/
def State.startTimer (s : State) (p : Pin) : State :=
  let f := s.filter p
  s.putFilter p { f with timer := some ⟨s.time, s.after (s.settings.pins.delay p f.raw)⟩ }

/-- R174: the raw level has returned to the filtered level. -/
def State.cancelTimer (s : State) (p : Pin) : State := s.putFilter p { s.filter p with timer := none }

/-! ### What a filtered change hands on -/

/-- R177, step 2: a change of the reported level is judged on the channels it concerns. -/
def State.judgeLevel (s : State) (i : SlotNo) : State :=
  s.judgeChannels fun c =>
    decide ((s.routeCfg c).source = .levelLow) && decide ((s.routeCfg c).defaultSlot = some i)

/-- R177: a filtered change while the enable is on: first the sense record, then the Route Unit. -/
def State.levelChanges (s : State) (i : SlotNo) : State :=
  if s.settings.pins.levelEnable[i] then
    (if (s.filter (.level i)).filtered then s.levelLow i else s.levelWet i).judgeLevel i
  else s

/-- R178: an AUX change is judged on the channels that name the input, and a PIN notice is raised. -/
def State.auxChanges (s : State) (n : Fin 4) : State :=
  (s.judgeChannels fun c => decide ((s.routeCfg c).source.aux = some n)).raise .pin (.pin (.aux n))
    (.pin (s.filter (.aux n)).filtered s.time)

/-- R176: PRESENCE is handed to the slot of the same number. -/
def State.presenceChanges (s : State) (i : SlotNo) : State :=
  if (s.filter (.presence i)).filtered then s.presenceAsserted i else s.presenceLost i

/-- R174, R176 to R178: a filtered change of an input is handed on as its group requires. -/
def State.handOnInput (s : State) : Pin → State
  | .presence i => s.presenceChanges i
  | .level i => s.levelChanges i
  | .aux n => s.auxChanges n
  | .powerFail => s

/-- R174: the filtered change of an input. -/
def State.inputChanges (s : State) (p : Pin) : State := (s.putFilter p ((s.filter p).settle p)).handOnInput p

/-- R174: the filter timer starts; with a delay of 0 the filtered change is taken at once. -/
def State.startFilter (s : State) (p : Pin) : State :=
  let t := s.startTimer p
  if s.settings.pins.immediate p (s.filter p).raw then t.inputChanges p else t

/-- R172: the inputs of the three groups, in the order of the table. -/
def inputs : List Pin := slotNos.map Pin.presence ++ slotNos.map Pin.level ++ auxNos.map Pin.aux

/-! ### Set Pins -/

/-- R175: a running timer is judged against the delay that now applies to it, when its group's delays changed. -/
def State.rejudgeFilter (old : PinCfg) (s : State) (p : Pin) : State :=
  let f := s.filter p
  let new := s.settings.pins
  match f.timer with
  | none => s
  | some t =>
    if new.groupDelays p = old.groupDelays p then s
    else if new.delay p f.raw < s.since t.started then s.inputChanges p
    else s.putFilter p { f with timer := some { t with expiry := t.started + BitVec.ofNat 32 (new.delay p f.raw) } }

/-- The pin settings replaced. -/
def State.putPinCfg (s : State) (cfg : PinCfg) : State := { s with settings := { s.settings with pins := cfg } }

/-- R182, step 1: the delays are replaced, and every running timer is judged: PRESENCE, LEVEL, then AUX, each in
ascending number (log 75). -/
def State.replaceDelays (s : State) (new : PinCfg) : State :=
  let old := s.settings.pins
  inputs.foldl (State.rejudgeFilter old)
    (s.putPinCfg { new with levelEnable := old.levelEnable, lamps := old.lamps })

/-- R177: an enable that changed while the filtered level is LOW changes the reported level. -/
def State.enableChanges (old : Vector Bool 16) (s : State) (i : SlotNo) : State :=
  if s.settings.pins.levelEnable[i] = old[i] then s
  else if !(s.filter (.level i)).filtered then s
  else (if s.settings.pins.levelEnable[i] then s.levelLow i else s.levelDisabled i).judgeLevel i

/-- R182, step 2: the level enables are replaced, and each that changed is handed on, in ascending slot number
(log 76). -/
def State.replaceEnables (s : State) (new : PinCfg) : State :=
  let old := s.settings.pins
  slotNos.foldl (State.enableChanges old.levelEnable) (s.putPinCfg { old with levelEnable := new.levelEnable })

/-- R182: the effects of Set Pins in order; the lamps follow their settings (log 28). -/
def State.replacePins (s : State) (new : PinCfg) : State :=
  ((s.replaceDelays new).replaceEnables new).putPinCfg new

/-- R181: a lamp's source, with its slot byte (log 81), and its invert setting. -/
def Lamp.bytes (l : Lamp) : List Byte := l.source.bytes ++ flag l.invert

/-- R172: the six group delays, in the order of R196, group by group, assert before release (log 86). -/
def PinCfg.delayBytes (cfg : PinCfg) : List Byte :=
  u16 cfg.presenceAssert ++ u16 cfg.presenceRelease ++ u16 cfg.levelAssert ++ u16 cfg.levelRelease ++
    u16 cfg.auxAssert ++ u16 cfg.auxRelease

/-- R182: every setting as stored, in the order of the fields (logs 86, 99). -/
def PinCfg.bytes (cfg : PinCfg) : List Byte :=
  cfg.delayBytes ++ cfg.levelEnable.toList.flatMap flag ++ cfg.lamps.toList.flatMap Lamp.bytes

/-- SET_PINS (R182). -/
def setPins (fields : List Byte) (s : State) : Answer :=
  sized s fields 40 <|
    match setPinsOperand fields with
    | .error o => refuse s o
    | .ok cfg => done (s.replacePins cfg) cfg.bytes

def execSetPins (tag : Byte) (fields : List Byte) (s : State) : Host.Outcome State Fault Refusal :=
  whenPowered s fun s => s.takeRequest tag 0x10#8 fields (setPins fields)

/-! ### Read Pins -/

/-- R180: the levels, the filter timer and the changed flag of an input; an asserted level is 1, a released one 0
(log 80). -/
def State.inputBytes (s : State) (p : Pin) : List Byte :=
  let f := s.filter p
  flag f.raw ++ flag f.filtered ++ s.timerBytes (f.timer.map FilterTimer.expiry) ++ flag f.changed

/-- R180: for a LEVEL input the reply also carries its enable and its reported level, LOW being 1 and WET 0 (log 80). -/
def State.levelBytes (s : State) (i : SlotNo) : List Byte :=
  flag s.settings.pins.levelEnable[i] ++ flag (s.reportedLow i)

/-- R180: the contents of the reply, in the order of the rule: every input, PRESENCE, LEVEL and AUX each in ascending
number, and then the enable and the reported level of every LEVEL input (log 95); the VALVE outputs and the lamps come in
ascending number too (log 99). -/
def State.pinContents (s : State) : List Byte :=
  inputs.flatMap s.inputBytes ++ slotNos.flatMap s.levelBytes ++
    flag s.pins.powerFail.raw ++ flag s.pins.powerFail.filtered ++ s.settings.pins.delayBytes ++
    s.pins.valves.toList.flatMap flag ++
    auxNos.flatMap fun n => s.settings.pins.lamps[n].bytes ++ flag (s.lampLevel n)

def Filter.clearChanged (f : Filter) : Filter := { f with changed := false }

/-- R180: every changed flag becomes false. -/
def State.clearChanged (s : State) : State :=
  { s with
    pins :=
      { s.pins with
        presence := s.pins.presence.map Filter.clearChanged, level := s.pins.level.map Filter.clearChanged,
        aux := s.pins.aux.map Filter.clearChanged } }

/-- READ_PINS (R180): the contents are fixed before the flags are cleared. -/
def readPins (fields : List Byte) (s : State) : Answer := sized s fields 0 <| done s.clearChanged s.pinContents

def execReadPins (tag : Byte) (fields : List Byte) (s : State) : Host.Outcome State Fault Refusal :=
  whenPowered s fun s => s.takeRequest tag 0x0F#8 fields (readPins fields)

end Sys2Proof.Machine
end

