-- ==== Sys2Proof/Machine/Nvm.lean ====
section
/-!
DEFINITION. The NVM Controller (10_nonvolatile_store_power_fail_save_and_start_up.md): the records and how they read
(R183, R184), the save (R188, R189), start-up (R192), the end of the save (R190), and the commands
RECORD_WRITE_COMPLETE, SAVE_SETTINGS, RESTART, POWER_ON, POWER_LOSS.
-/

namespace Sys2Proof.Machine

open Sys2Proof

/-! ### Records -/

/-- What reading a record gives (R183). -/
inductive ReadResult where
  | good | corrected | uncorrectable | blank
  deriving DecidableEq, Repr

/-- R183: a record that has never been written is BLANK; any other reads by its condition. -/
def Stored.result {α : Type} (r : Stored α) : ReadResult :=
  match r.contents, r.condition with
  | none, _ => .blank
  | some _, .good => .good
  | some _, .corrected => .corrected
  | some _, .uncorrectable => .uncorrectable

/-- R184: the contents that are loaded: those of a record that reads GOOD or CORRECTED. -/
def Stored.loaded {α : Type} (r : Stored α) : Option α :=
  match r.condition with
  | .uncorrectable => none
  | _ => r.contents

/-- R185: a completed write leaves its record GOOD with the carried contents. -/
def Stored.write {α : Type} (x : α) : Stored α := { contents := some x, condition := .good }

/-- R183: a torn write leaves its record GOOD or CORRECTED with the old or the new contents, or UNCORRECTABLE. A record
with no old contents to hold is left with the new ones (log 9). -/
def Stored.tear {α : Type} (r : Stored α) (x : α) : Torn → Stored α
  | .goodOld => { contents := some (r.loaded.getD x), condition := .good }
  | .goodNew => { contents := some x, condition := .good }
  | .correctedOld => { contents := some (r.loaded.getD x), condition := .corrected }
  | .correctedNew => { contents := some x, condition := .corrected }
  | .uncorrectable => { contents := some x, condition := .uncorrectable }

/-- R183: the code corrects a single bit error and detects two. That three or more are always detected too, and that
errors on a record with errors only add to them, is the model's choice (log 94). -/
def BitErrors.onto : BitErrors → Condition → Condition
  | .one, .good => .corrected
  | _, _ => .uncorrectable

/-- R183: bit errors reach a record that has been written. -/
def Stored.err {α : Type} (r : Stored α) (e : BitErrors) : Stored α :=
  if r.contents.isNone then r else { r with condition := BitErrors.onto e r.condition }

/-- R185: the record a write names takes its contents. -/
def Store.write (m : Store) : RecordWrite → Store
  | .identity x => { m with identity := Stored.write x }
  | .settings x => { m with settings := Stored.write x }
  | .history n x => { m with history := m.history.set n (Stored.write x) }
  | .waste x => { m with waste := Stored.write x }
  | .cleanMark x => { m with cleanMark := Stored.write x }

/-- R183: a write that loss of power interrupts. -/
def Store.tear (m : Store) (torn : Torn) : RecordWrite → Store
  | .identity x => { m with identity := m.identity.tear x torn }
  | .settings x => { m with settings := m.settings.tear x torn }
  | .history n x => { m with history := m.history.set n (m.history[n].tear x torn) }
  | .waste x => { m with waste := m.waste.tear x torn }
  | .cleanMark x => { m with cleanMark := m.cleanMark.tear x torn }

/-- R183: the bit errors of one record. -/
def Store.err (m : Store) (e : RecordName × BitErrors) : Store :=
  match e.1 with
  | .identity => { m with identity := m.identity.err e.2 }
  | .settings => { m with settings := m.settings.err e.2 }
  | .history n => { m with history := m.history.set n (m.history[n].err e.2) }
  | .waste => { m with waste := m.waste.err e.2 }
  | .cleanMark => { m with cleanMark := m.cleanMark.err e.2 }

/-- R183: every record with what it reads as, in record order. -/
def Store.results (m : Store) : List (RecordName × ReadResult) :=
  [(.identity, m.identity.result), (.settings, m.settings.result)] ++
    entryNos.map (fun n => (RecordName.history n, m.history[n].result)) ++
    [(.waste, m.waste.result), (.cleanMark, m.cleanMark.result)]

/-- R193: how many records read so. -/
def Store.count (m : Store) (r : ReadResult) : Nat := (m.results.filter fun x => decide (x.2 = r)).length

/-! ### Save Settings -/

/-- R18, R187: a watch as the image holds it. -/
def Watch.setting (w : Watch) : WatchSetting :=
  { kind := w.kind, limit := w.limit, action := w.action, off := decide (w.state = .off) }

/-- R187: every setting as it stands. -/
def State.image (s : State) : Image :=
  { settings := s.settings, watches := s.slots.map fun x => (x.w0.setting, x.w1.setting) }

/-- SAVE_SETTINGS (R187). -/
def saveSettings (fields : List Byte) (s : State) : Answer :=
  sized s fields 0 <| done (s.queueWrite (.settings s.image)) []

def execSaveSettings (tag : Byte) (fields : List Byte) (s : State) : Host.Outcome State Fault Refusal :=
  whenPowered s fun s => s.takeRequest tag 0x1C#8 fields (saveSettings fields)

/-! ### The save -/

/-- R189, step 1: POWER_SAVE joins the gate reasons of a channel. -/
def State.gateForSave (s : State) (c : Channel) : State := s.setGate c { (s.route c).gate with powerSave := true }

/-- R144: the level bytes that had arrived of the line that a save abandons are those received; they were symbols on
the lane (R149). -/
def State.levelsArrive (s : State) (arrived : List Byte) : State :=
  match s.link.rx with
  | .line => if arrived = [] then s else (s.bytesArrive arrived).symbolReceived
  | _ => s

/-- R189, step 2: the lines in flight are abandoned and charged, in header order (log 19). -/
def State.chargeLines (s : State) : State := s.forward.flights.foldl State.chargeAbandoned s.abandonLines

/-- R189, step 4: the drawn-since of a slot in GENUINE or DEPLETED. -/
def State.saveDrawnSince (s : State) (i : SlotNo) : State :=
  if (s.slot i).state.supplies then s.writeDrawnSince i else s

/-- R190: the write of the clean mark as SET is placed behind every pending write; a pending write of the mark as CLEAR
gives way to it (log 39). -/
def Nvm.enqueueLast (m : Nvm) (w : RecordWrite) : Nvm :=
  Nvm.begin { m with queue := (m.queue.filter fun p => decide (p.record ≠ w.record)) ++ [w] }

/-- R188, R189 step 6: the save state, its cause, and save writes from the beginning of the save (R186; log 22). -/
def State.enterSaving (s : State) (cause : SaveCause) : State :=
  { s with nvm := { s.nvm with saveState := .saving, saveCause := some cause, timing := .save } }

/-- R189: the save begins, level bytes of an arriving line having arrived. The channels gain POWER_SAVE in ascending
number (log 67), the lines are charged in header order (log 19), the residues in ascending channel number (log 47). -/
def State.beginSave (s : State) (cause : SaveCause) (arrived : List Byte) : State :=
  let t := channels.foldl State.gateForSave ((s.levelsArrive arrived).enterSaving cause)
  let t := channels.foldl State.chargeResidue t.chargeLines
  let t := slotNos.foldl State.saveDrawnSince t
  let t := t.queueWrite (.waste t.waste)
  { t with nvm := t.nvm.enqueueLast (.cleanMark true) }

/-- RESTART (R188, R191): taken in RUNNING, it is answered DONE and begins the save. The reply, which the save does not
touch, is in the reply list when the command ends. The Restart's own packet has ended, so no line arrives. -/
def restart (fields : List Byte) (s : State) : Answer :=
  sized s fields 0 <|
    match s.nvm.saveState with
    | .running => done (s.beginSave .restart []) []
    | _ => refuse s .badState

def execRestart (tag : Byte) (fields : List Byte) (s : State) : Host.Outcome State Fault Refusal :=
  whenPowered s fun s => s.takeRequest tag 0x1D#8 fields (restart fields)

/-! ### Start-up: the records -/

/-- R184: the identity of a record that cannot be read: serial and revision 0, the key damaged (log 30). -/
def Identity.lost : Identity := { serial := 0, revision := 0, key := 0, programmed := false }

/-- R184: the settings image that is loaded, or every setting at its reset value. -/
def Store.image (m : Store) : Image :=
  m.settings.loaded.getD { settings := Settings.reset, watches := Image.watchesReset }

/-- R184, R119: a history entry as its record loads it. -/
def Store.entry (m : Store) (n : EntryNo) : Option HistoryEntry := m.history[n].loaded.bind id

/-- R119: a more recent valid entry holds the same serial. -/
def Store.superseded (m : Store) (n : EntryNo) : Bool :=
  match m.entry n with
  | none => false
  | some e =>
    entryNos.any fun k =>
      match m.entry k with
      | none => false
      | some f => decide (f.serial = e.serial) && lessRecent e n f k

/-- The greater of a number and a stamp, of an entry that may be invalid. -/
def maxStamp (best : Nat) : Option HistoryEntry → Nat
  | none => best
  | some e => max best e.stamp

/-- R119: the entries loaded, without duplicates, and the next stamp. -/
def Store.loadedHistory (m : Store) : History :=
  let entries := Vector.ofFn fun n : EntryNo => if m.superseded n then none else m.entry n
  { entries := entries, nextStamp := entries.toList.foldl maxStamp 0 + 1 }

/-- R119: the least recent locked entries are evicted, one at a time, until 56 remain. The first argument bounds the
number of evictions: 64 entries are at most 8 too many. -/
def History.trim : Nat → History → History × List (EntryNo × HistoryEntry)
  | 0, h => (h, [])
  | k + 1, h =>
    if h.count HistoryEntry.locked ≤ mostLocked then (h, [])
    else
      match h.leastRecent HistoryEntry.locked with
      | none => (h, [])
      | some n =>
        match h.entries[n] with
        | none => (h, [])
        | some e =>
          let (rest, evicted) := History.trim k { h with entries := h.entries.set n none }
          (rest, (n, e) :: evicted)

/-- R119: the history of a start-up, with the entries it evicts. -/
def Store.startHistory (m : Store) : History × List (EntryNo × HistoryEntry) := History.trim 8 m.loadedHistory

/-- R184: the rewrites of CORRECTED records, in record order; the clean mark is written anyway. -/
def Store.rewrites (m : Store) : List RecordWrite :=
  let corrected {α : Type} (r : Stored α) (w : α → RecordWrite) : List RecordWrite :=
    if r.result = .corrected then (r.loaded.map w).toList else []
  corrected m.identity .identity ++ corrected m.settings .settings ++
    entryNos.flatMap (fun n => corrected m.history[n] (.history n)) ++ corrected m.waste .waste

/-- R119: the history writes of a start-up: duplicates loaded as invalid, in ascending entry number (log 56), and
evictions. -/
def Store.historyWrites (m : Store) : List RecordWrite :=
  ((entryNos.filter m.superseded).map fun n => RecordWrite.history n none) ++
    m.startHistory.2.map fun x => RecordWrite.history x.1 none

/-- R192: the clean mark was read SET. -/
def Store.clean (m : Store) : Bool := m.cleanMark.loaded == some true

/-! ### Start-up: the blocks -/

/-- R18: a watch as a start-up loads it. -/
def WatchSetting.start (w : WatchSetting) : Watch :=
  { kind := w.kind, limit := w.limit, action := w.action, state := if w.off then .off else .armed }

/-- R173: an input's filter before it starts; the raw level is the pin's. -/
def Filter.restart (f : Filter) : Filter := Filter.cold f.raw

/-- R173: every filter, and the VALVE outputs at 0. -/
def Pins.cold (p : Pins) : Pins :=
  { presence := p.presence.map Filter.restart, level := p.level.map Filter.restart, aux := p.aux.map Filter.restart,
    powerFail := p.powerFail.restart, valves := Vector.replicate 12 false }

/-- R192, steps 1 and 2: what the NVM Controller holds once it has read the records. A write in progress is ended only
by its completion (R185; log 21). -/
def Nvm.start (m : Nvm) : Nvm :=
  { store := m.store, queue := [], inProgress := m.inProgress, timing := .normal, saveState := .running,
    saveCause := none, startUpHeld := false, identity := m.store.identity.loaded.getD Identity.lost,
    damaged := m.store.identity.loaded.isNone,
    source := if m.store.settings.loaded.isSome then .saved else .default, clean := m.store.clean,
    corrected := m.store.count .corrected, uncorrectable := m.store.count .uncorrectable }

/-- R192, steps 1 to 3: every block at its start-up state, the records read and loaded. -/
def State.coldStart (s : State) : State :=
  let image := s.nvm.store.image
  { State.manufactured with
    pending := s.pending
    powered := true
    draws := s.draws
    settings := image.settings
    slots := image.watches.map fun w => Slot.cold w.1.start w.2.start
    waste := s.nvm.store.waste.loaded.getD ⟨0, 0⟩
    history := s.nvm.store.startHistory.1
    pins := s.pins.cold
    nvm := s.nvm.start }

/-- R192, step 4: the clean mark as CLEAR is queued first, then the writes that steps 2 and 3 call for. -/
def State.startWrites (s : State) : State :=
  (s.nvm.store.rewrites ++ s.nvm.store.historyWrites).foldl State.queueWrite (s.queueWrite (.cleanMark false))

/-- R193: a STORE notice carries the whole store picture. -/
def State.raiseStore (s : State) (e : StoreEvent) (r : Option RecordName) : State :=
  s.raise .store .none (.store e r s.nvm.clean s.nvm.source s.nvm.corrected s.nvm.uncorrectable)

/-- R184, R193: the STORE notice of one record. -/
def State.reportRecord (s : State) (x : RecordName × ReadResult) : State :=
  match x.2 with
  | .corrected => s.raiseStore .corrected (some x.1)
  | .uncorrectable => s.raiseStore .uncorrectable (some x.1)
  | _ => s

/-- R117, R119: the HISTORY notice of a start-up eviction; no entry is being locked (log 69). -/
def State.reportEviction (s : State) (x : EntryNo × HistoryEntry) : State :=
  s.raise .history .none (.history x.1 x.2.serial x.2.depletedMark x.2.refillMark none)

/-- R192, step 5: the notices of start-up: STORE, the unclean start first, then HISTORY, then WASTE. -/
def State.startNotices (s : State) : State :=
  let t := if s.nvm.clean then s else s.raiseStore .uncleanStart none
  let t := s.nvm.store.results.foldl State.reportRecord t
  let t := s.nvm.store.startHistory.2.foldl State.reportEviction t
  t.judgeWaste false false

/-- R50: the dynamic route record of a configuration at start-up, but for NO_SUPPLY. -/
def Route.start (cfg : RouteCfg) : Route :=
  if cfg.ink = 0 ∨ cfg.defaultSlot = none then Route.unrouted
  else
    { Route.unrouted with
      state := .onDefault, active := cfg.defaultSlot, gate := { Route.unrouted.gate with noRoute := false } }

/-- R50, R62, R63: a channel is set up; its gate reasons raise no notice (R64). -/
def State.startRoute (s : State) (c : Channel) : State :=
  let t := s.putRoute c (Route.start (s.routeCfg c))
  let r := t.route c
  (t.putRoute c { r with gate := { r.gate with noSupply := t.noSupply c } }).driveValve c

/-- R192, step 7: the filter of an input whose raw level is asserted starts (R173, R179). -/
def State.startInput (s : State) (p : Pin) : State := if (s.filter p).raw then s.startFilter p else s

/-- R192: start-up. The filters start, and those with a delay of 0 hand on, in the order PRESENCE, LEVEL, AUX, each in
ascending number, then POWER_FAIL (R173; log 82). -/
def State.startUp (s : State) : State :=
  let t := s.coldStart.startWrites.startNotices
  let t := channels.foldl State.judgeRoute (channels.foldl State.startRoute t)
  (inputs ++ [Pin.powerFail]).foldl State.startInput t

/-! ### The end of the save -/

/-- R190, R191: the reply of the Restart has not been sent. Only one Restart is answered DONE between two start-ups. -/
def RequestUnit.restartWaits (r : RequestUnit) : Bool :=
  r.replies.any fun x => decide (x.code = 0x1D#8) && decide (x.outcome = .done)

/-- R185: the writer takes the oldest pending write. -/
def State.writeNext (s : State) : State := { s with nvm := s.nvm.begin }

/-- R190: the save has ended: SAVED while POWER_FAIL is asserted, and start-up otherwise, held back for the reply of a
Restart. -/
def State.saveEnds (s : State) : State :=
  if s.pins.powerFail.filtered then { s with nvm := { s.nvm with saveState := .saved, saveCause := none } }.writeNext
  else if decide (s.nvm.saveCause = some .restart) && s.requests.restartWaits then
    { s with nvm := { s.nvm with startUpHeld := true } }.writeNext
  else s.startUp

/-- RECORD_WRITE_COMPLETE (R185, R190). -/
def State.writeCompletes (s : State) : State :=
  match s.nvm.inProgress with
  | none => s
  | some (w, _) =>
    let t := { s with nvm := { s.nvm with store := s.nvm.store.write w, inProgress := none } }
    if decide (w = .cleanMark true) && decide (s.nvm.saveState = .saving) then t.saveEnds else t.writeNext

def execRecordWriteComplete (s : State) : Host.Outcome State Fault Refusal :=
  whenPowered s fun s => s.writeCompletes

/-! ### Power -/

/-- POWER_ON (R192, R183): the records have picked up bit errors while the part had no power, and at no other time
(log 84); start-up follows. -/
def State.powersOn (s : State) (errors : List (RecordName × BitErrors)) : State :=
  if s.powered then s
  else { s with nvm := { s.nvm with store := errors.foldl Store.err s.nvm.store } }.startUp

def execPowerOn (errors : List (RecordName × BitErrors)) (s : State) : Host.Outcome State Fault Refusal :=
  .next (s.powersOn errors)

/-- R185, R183: the store after a loss of power: the pending writes are lost, the write in progress is torn. -/
def Nvm.storeAfterLoss (m : Nvm) (torn : Torn) : Store :=
  match m.inProgress with
  | none => m.store
  | some (w, _) => m.store.tear torn w

/-- POWER_LOSS (R185, R183): every state the part held ends; the store and the levels on the pins remain (log 27). -/
def State.losesPower (s : State) (torn : Torn) : State :=
  { State.manufactured with
    pending := s.pending
    draws := s.draws
    pins := s.pins.cold
    nvm := { State.manufactured.nvm with store := s.nvm.storeAfterLoss torn } }

def execPowerLoss (torn : Torn) (s : State) : Host.Outcome State Fault Refusal :=
  whenPowered s fun s => s.losesPower torn

end Sys2Proof.Machine
end

