-- ==== Sys2Proof/Machine/Power.lean ====
section
/-!
DEFINITION. What reaches the NVM Controller from the Pin Unit (R179, R188), and the commands PIN_RAW_CHANGE and
FILTER_TIMER_EXPIRY; the end of a packet on the upstream return lane (R147, R148, R168), which a start-up held back for
the Restart's reply waits for, and the command RETURN_PACKET_END.
-/

namespace Sys2Proof.Machine

open Sys2Proof

/-! ### POWER_FAIL -/

/-- R179, R188: power-fail asserted begins the save in RUNNING, level bytes of an arriving line having arrived;
power-fail released in SAVED is start-up, also while the reply of a Restart has not been sent (log 83). -/
def State.powerFailChanges (s : State) (arrived : List Byte) : State :=
  if s.pins.powerFail.filtered then
    match s.nvm.saveState with
    | .running => s.beginSave .powerFail arrived
    | _ => s
  else
    match s.nvm.saveState with
    | .saved => s.startUp
    | _ => s

/-! ### Filters -/

/-- R174: the filter timer of an input expires: the filtered change is taken and handed on. -/
def State.filterChanges (s : State) (p : Pin) (arrived : List Byte) : State :=
  match p with
  | .powerFail => (s.putFilter .powerFail ((s.filter .powerFail).settle .powerFail)).powerFailChanges arrived
  | p => s.inputChanges p

/-- FILTER_TIMER_EXPIRY (R174). -/
def State.filterExpires (s : State) (p : Pin) (arrived : List Byte) : State :=
  match (s.filter p).timer with
  | none => s
  | some t => (s.reach t.expiry).filterChanges p arrived

def execFilterTimerExpiry (e : FilterExpiry) (s : State) : Host.Outcome State Fault Refusal :=
  whenPowered s fun s => s.filterExpires e.pin e.arrived

/-- The level on the pin. -/
def State.putRaw (s : State) (p : Pin) (asserted : Bool) : State := s.putFilter p { s.filter p with raw := asserted }

/-- PIN_RAW_CHANGE (R174): a raw level that comes to differ from the filtered level starts the filter timer, and one
that returns to it cancels it. -/
def State.rawChanges (s : State) (p : Pin) (asserted : Bool) : State :=
  if (s.filter p).raw = asserted then s
  else if (s.filter p).filtered = asserted then (s.putRaw p asserted).cancelTimer p
  else (s.putRaw p asserted).startFilter p

/-- Without power no filter runs, and the pin keeps its level (R192; log 27). -/
def execPinRawChange (p : Pin) (asserted : Bool) (s : State) : Host.Outcome State Fault Refusal :=
  .next (if s.powered then s.rawChanges p asserted else s.putRaw p asserted)

/-! ### The upstream return lane -/

/-- R148, R168: a notice packet has been sent: its entry leaves the queue, or keeps the occurrences merged since the
grant. -/
def NoticeUnit.sent (u : NoticeUnit) : NoticeUnit :=
  match u.queue, u.merged with
  | n :: ns, some (k + 1) => { u with queue := { n with count := min 255 (k + 1) } :: ns, merged := none }
  | _, _ => { u with queue := u.queue.drop 1, merged := none }

/-- R148: a reply has been sent, and leaves the reply list. -/
def State.replySent (s : State) : State :=
  { s with requests := { s.requests with replies := s.requests.replies.drop 1 } }

/-- R147, R148: the packet that was being sent has ended. -/
def State.finishGrant (s : State) : State :=
  match s.returns.grant with
  | .fill => s
  | .headret => { s with returns := { s.returns with buffer := s.returns.buffer.drop 1 } }
  | .reply _ => s.replySent
  | .notice _ => { s with notices := s.notices.sent }

def State.putGrant (s : State) (g : Grant) : State := { s with returns := { s.returns with grant := g } }

/-- R148, R168: the oldest notice is granted as it stands, and the merges after the grant count separately. -/
def State.grantNotice (s : State) (n : Notice) : State :=
  { s with notices := { s.notices with merged := some 0 } }.putGrant (.notice n.packet)

/-- R147: the arbiter's choice: the oldest HEADRET, else the oldest reply, else the oldest notice, else FILL. -/
def State.chooseGrant (s : State) : State :=
  match s.returns.buffer, s.requests.replies, s.notices.queue with
  | _ :: _, _, _ => s.putGrant .headret
  | [], r :: _, _ => s.putGrant (.reply r.packet)
  | [], [], n :: _ => s.grantNotice n
  | [], [], [] => s.putGrant .fill

/-- A HEADRET that still arrives has not ended on the upstream return lane either (R147). -/
def State.grantArriving (s : State) : Bool :=
  match s.returns.grant, s.returns.buffer with
  | .headret, h :: _ => h.arriving
  | _, _ => false

/-- RETURN_PACKET_END (R147, R148, R168, R190): the packet ends, and the next is chosen; when the Restart's reply has
been sent, the start-up that waited for it follows instead. -/
def State.returnEnds (s : State) : State :=
  if s.grantArriving then s
  else
    let t := s.finishGrant
    if t.nvm.startUpHeld && !t.requests.restartWaits then t.startUp else t.chooseGrant

def execReturnPacketEnd (s : State) : Host.Outcome State Fault Refusal := whenPowered s fun s => s.returnEnds

end Sys2Proof.Machine
end

