-- ==== Sys2Proof/Machine/Requests.lean ====
section
/-!
DEFINITION. The requests of the Request Unit and the Notice Queue themselves
(08_management_requests_and_notices.md): READ_PART, READ_STATUS, SET_NOTICE_MASK, SET_POLICY, UNKNOWN_REQUEST.
-/

namespace Sys2Proof.Machine

open Sys2Proof

/-! ### Read Part -/

/-- R159: every policy setting, in the order of the table. -/
def Policy.bytes (p : Policy) : List Byte :=
  u8 p.nonGenuine.ctorIdx ++ u8 p.refill.ctorIdx ++ u8 p.bitRate.ctorIdx ++ u32 p.graceVolume ++
    u32 p.overdrawLimit ++ u32 p.checkpointStep ++ u32 p.wasteNear ++ u32 p.wasteFull ++ u16 p.minorWindow ++
    u16 p.majorWindow

/-- R160, R158: the access level and the unlock state. -/
def State.accessBytes (s : State) : List Byte :=
  u8 s.requests.access.ctorIdx ++ flag s.requests.nonce.isSome ++ flag s.requests.attempt.isSome ++
    u8 s.requests.failedUnlocks ++ s.timerBytes s.requests.lockout

/-- R193: what Read Part returns of the store; a write in progress of none is sent as a field that is absent
(log 92). -/
def Nvm.bytes (m : Nvm) : List Byte :=
  u8 m.corrected ++ u8 m.uncorrectable ++ flag m.damaged ++ u8 m.saveState.ctorIdx ++
    optional 2 (fun w : RecordWrite × WriteTiming => RecordName.bytes w.1.record) m.inProgress ++ u8 m.queue.length

/-- R158, R193: the contents of the reply, the fields of R158 before those of R193 (log 87); the revision is one byte
(log 73), and a clean start-up is 1, an unclean one 0 (log 79). -/
def State.partContents (s : State) : List Byte :=
  u64 s.nvm.identity.serial ++ [s.nvm.identity.revision] ++ flag s.nvm.keyTaken ++ s.accessBytes ++
    u8 s.nvm.source.ctorIdx ++ flag s.nvm.clean ++ u32 s.time.toNat ++ s.policy.bytes ++ s.nvm.bytes

/-- READ_PART (R158). -/
def readPart (fields : List Byte) (s : State) : Answer := sized s fields 0 <| done s s.partContents

def execReadPart (tag : Byte) (fields : List Byte) (s : State) : Host.Outcome State Fault Refusal :=
  whenPowered s fun s => s.takeRequest tag 0x01#8 fields (readPart fields)

/-! ### Read Status -/

/-- R171: the latched flags as a set (seen flags, OVERFLOW, TURNED_AWAY) and both counts, the live flags as a set, the
entries of the Notice Queue and the places in use (log 23), its own place not among them (log 64). The dropped count
comes before the turned-away count (log 96). -/
def State.statusContents (s : State) : List Byte :=
  let u := s.notices
  bitmap (u.seen.toList ++ [u.overflow, u.turnedAway]) ++ u8 u.dropped ++ u8 u.turnedAwayCount ++
    bitmap s.liveFlags ++ u8 u.queue.length ++ u8 s.requests.placesInUse

/-- R171: every latched flag becomes false and both counts 0. -/
def NoticeUnit.clearLatched (u : NoticeUnit) : NoticeUnit :=
  { u with
    seen := Vector.replicate 14 false, overflow := false, dropped := 0, turnedAway := false, turnedAwayCount := 0 }

/-- READ_STATUS (R171): the contents are fixed before the flags are cleared. -/
def readStatus (fields : List Byte) (s : State) : Answer :=
  sized s fields 0 <| done { s with notices := s.notices.clearLatched } s.statusContents

def execReadStatus (tag : Byte) (fields : List Byte) (s : State) : Host.Outcome State Fault Refusal :=
  whenPowered s fun s => s.takeRequest tag 0x02#8 fields (readStatus fields)

/-! ### Set Notice Mask -/

/-- R169: each listed kind takes the setting. -/
def setMask (mask : Vector Bool 14) (enabled : Bool) (kinds : List (Fin 14)) : Vector Bool 14 :=
  kinds.foldl (fun m k => m.set k.val enabled k.isLt) mask

/-- R169: the whole mask, as a set of the enabled kinds (log 74). -/
def maskBytes (mask : Vector Bool 14) : List Byte := bitmap mask.toList

/-- SET_NOTICE_MASK (R169). -/
def setNoticeMask (fields : List Byte) (s : State) : Answer :=
  sized s fields (listSize fields 1 1) <|
    match enableModeOf (fieldAt fields 0 1), noticeKindsOperand fields with
    | some enabled, some kinds =>
      if 14 < kinds.length then refuse s .badValue
      else
        let mask := setMask s.settings.mask enabled kinds
        done { s with settings := { s.settings with mask := mask } } (maskBytes mask)
    | _, _ => refuse s .badValue

def execSetNoticeMask (tag : Byte) (fields : List Byte) (s : State) : Host.Outcome State Fault Refusal :=
  whenPowered s fun s => s.takeRequest tag 0x03#8 fields (setNoticeMask fields)

/-! ### Set Policy -/

/-- R159: every setting is replaced, and the effects that take place at once are handed on in the order of the table:
every slot's fitness and drawability, in ascending slot number (log 42), then the waste flags. -/
def State.replacePolicy (s : State) (p : Policy) : State :=
  let t := { s with settings := { s.settings with policy := p } }
  let t := slotNos.foldl (fun u i => State.judgeFitness u s i) t
  t.judgeWaste s.wasteNear s.wasteFull

/-- SET_POLICY (R159). -/
def setPolicy (fields : List Byte) (s : State) : Answer :=
  sized s fields 27 <| needsService s <|
    match setPolicyOperand fields with
    | .error o => refuse s o
    | .ok p => done (s.replacePolicy p) p.bytes

def execSetPolicy (tag : Byte) (fields : List Byte) (s : State) : Host.Outcome State Fault Refusal :=
  whenPowered s fun s => s.takeRequest tag 0x14#8 fields (setPolicy fields)

/-! ### Unknown requests -/

/-- UNKNOWN_REQUEST (R155, check 1). -/
def unknownRequest (s : State) : Answer := refuse s .unknownRequest

def execUnknownRequest (tag code : Byte) (fields : List Byte) (s : State) : Host.Outcome State Fault Refusal :=
  whenPowered s fun s => s.takeRequest tag code fields unknownRequest

end Sys2Proof.Machine
end

