-- ==== Sys2Proof/Machine/Dispatch.lean ====
section
/-! DEFINITION. The dispatch: one arm per command, one meaning per arm. -/

namespace Sys2Proof.Machine

open Sys2Proof

def exec (i : Instr) (s : State) : Host.Outcome State Fault Refusal :=
  match i with
  | .readPart tag fields => Sys2Proof.Machine.execReadPart tag fields s
  | .readStatus tag fields => Sys2Proof.Machine.execReadStatus tag fields s
  | .setNoticeMask tag fields => Sys2Proof.Machine.execSetNoticeMask tag fields s
  | .readChannel tag fields => Sys2Proof.Machine.execReadChannel tag fields s
  | .setRoute tag fields => Sys2Proof.Machine.execSetRoute tag fields s
  | .holdChannel tag fields => Sys2Proof.Machine.execHoldChannel tag fields s
  | .releaseChannel tag fields => Sys2Proof.Machine.execReleaseChannel tag fields s
  | .readSlot tag fields => Sys2Proof.Machine.execReadSlot tag fields s
  | .rescanSlot tag fields => Sys2Proof.Machine.execRescanSlot tag fields s
  | .setWatch tag fields => Sys2Proof.Machine.execSetWatch tag fields s
  | .loadVolumeTable tag fields => Sys2Proof.Machine.execLoadVolumeTable tag fields s
  | .selectVolumeBank tag fields => Sys2Proof.Machine.execSelectVolumeBank tag fields s
  | .loadTemperatureTable tag fields => Sys2Proof.Machine.execLoadTemperatureTable tag fields s
  | .readLink tag fields => Sys2Proof.Machine.execReadLink tag fields s
  | .readPins tag fields => Sys2Proof.Machine.execReadPins tag fields s
  | .setPins tag fields => Sys2Proof.Machine.execSetPins tag fields s
  | .readHistory tag fields => Sys2Proof.Machine.execReadHistory tag fields s
  | .readTrace tag fields => Sys2Proof.Machine.execReadTrace tag fields s
  | .clearTrace tag fields => Sys2Proof.Machine.execClearTrace tag fields s
  | .setPolicy tag fields => Sys2Proof.Machine.execSetPolicy tag fields s
  | .grantGrace tag fields => Sys2Proof.Machine.execGrantGrace tag fields s
  | .clearHistoryEntry tag fields => Sys2Proof.Machine.execClearHistoryEntry tag fields s
  | .resetWaste tag fields => Sys2Proof.Machine.execResetWaste tag fields s
  | .getUnlockNonce tag fields => Sys2Proof.Machine.execGetUnlockNonce tag fields s
  | .unlockService tag fields => Sys2Proof.Machine.execUnlockService tag fields s
  | .lockService tag fields => Sys2Proof.Machine.execLockService tag fields s
  | .programRootKey tag fields => Sys2Proof.Machine.execProgramRootKey tag fields s
  | .saveSettings tag fields => Sys2Proof.Machine.execSaveSettings tag fields s
  | .restart tag fields => Sys2Proof.Machine.execRestart tag fields s
  | .unknownRequest tag code fields => Sys2Proof.Machine.execUnknownRequest tag code fields s
  | .mgmtCheckFailed packet => Sys2Proof.Machine.execMgmtCheckFailed packet s
  | .mgmtWithoutTag payloadBytes => Sys2Proof.Machine.execMgmtWithoutTag payloadBytes s
  | .headPacketEnd payload check => Sys2Proof.Machine.execHeadPacketEnd payload check s
  | .fillSymbolReceived => Sys2Proof.Machine.execFillSymbolReceived s
  | .unknownKindPacketEnd payloadBytes => Sys2Proof.Machine.execUnknownKindPacketEnd payloadBytes s
  | .oversizePacketEnd payloadBytes => Sys2Proof.Machine.execOversizePacketEnd payloadBytes s
  | .packetCut symbol arrived => Sys2Proof.Machine.execPacketCut symbol arrived s
  | .lineHeader channel lineNumber waveformSet nozzles length => Sys2Proof.Machine.execLineHeader channel lineNumber waveformSet nozzles length s
  | .refusedLineEnd rest check => Sys2Proof.Machine.execRefusedLineEnd rest check s
  | .lineUpstreamEnd levels check => Sys2Proof.Machine.execLineUpstreamEnd levels check s
  | .lineEnd => Sys2Proof.Machine.execLineEnd s
  | .linkLost arrived => Sys2Proof.Machine.execLinkLost arrived s
  | .headretStart kind length => Sys2Proof.Machine.execHeadretStart kind length s
  | .headretCut arrived => Sys2Proof.Machine.execHeadretCut arrived s
  | .headretEnd payload check => Sys2Proof.Machine.execHeadretEnd payload check s
  | .staleTimerExpiry head => Sys2Proof.Machine.execStaleTimerExpiry head s
  | .returnPacketEnd => Sys2Proof.Machine.execReturnPacketEnd s
  | .gradeTimerExpiry grade => Sys2Proof.Machine.execGradeTimerExpiry grade s
  | .switchTimerExpiry channel => Sys2Proof.Machine.execSwitchTimerExpiry channel s
  | .revertTimerExpiry channel => Sys2Proof.Machine.execRevertTimerExpiry channel s
  | .pinRawChange pin asserted => Sys2Proof.Machine.execPinRawChange pin asserted s
  | .filterTimerExpiry expiry => Sys2Proof.Machine.execFilterTimerExpiry expiry s
  | .breakEnd slot => Sys2Proof.Machine.execBreakEnd slot s
  | .requestSent slot => Sys2Proof.Machine.execRequestSent slot s
  | .responseTimeout slot => Sys2Proof.Machine.execResponseTimeout slot s
  | .replyComplete slot => Sys2Proof.Machine.execReplyComplete slot s
  | .gapTimeout slot => Sys2Proof.Machine.execGapTimeout slot s
  | .turnaroundEnd slot => Sys2Proof.Machine.execTurnaroundEnd slot s
  | .digestPassComplete => Sys2Proof.Machine.execDigestPassComplete s
  | .lockoutTimerExpiry => Sys2Proof.Machine.execLockoutTimerExpiry s
  | .recordWriteComplete => Sys2Proof.Machine.execRecordWriteComplete s
  | .powerOn errors => Sys2Proof.Machine.execPowerOn errors s
  | .startSymbolReceived => Sys2Proof.Machine.execStartSymbolReceived s
  | .replyByteReceived slot data parity stop => Sys2Proof.Machine.execReplyByteReceived slot data parity stop s
  | .powerLoss torn => Sys2Proof.Machine.execPowerLoss torn s

end Sys2Proof.Machine
end

