-- ==== Sys2Proof/Machine/Step.lean ====
section
/-! DEFINITION. One step of the block, and the host's way to put a command in front of its queue. -/

namespace Sys2Proof.Machine

open Sys2Proof

/-- One millisecond of the Millisecond Timebase passes, in a part that has power, and the forward buffer goes on sending
(logs 1 and 15). -/
def State.tick (s : State) : State := if s.powered then s.waits 1 (s.after 1) else s

/-- The command at the front of the queue is taken, and its meaning runs on the queue's rest; on an empty queue one
millisecond passes (log 1). -/
def step (s : State) : Host.Outcome State Fault Refusal :=
  match s.pending with
  | [] => .next s.tick
  | c :: rest => exec c { s with pending := rest }

/-- The command that a word spells, put at the front of the queue. The table gives no row bits, so no word spells one.
-/
def State.withFetchWord (s : State) (nbits w : Nat) : State :=
  match decodeTableWord nbits w with
  | none => s
  | some c => { s with pending := c :: s.pending }

end Sys2Proof.Machine
end

