-- ==== Sys2Proof/WellFormed.lean ====
section
/-!
DEFINITION. Which commands are well-formed: the sizes that the packets of 11.1 have, and the numbers a row's operands
may take. A command that is not well-formed describes nothing that can reach the part; `exec` is total all the same
(log 34).
-/

namespace Sys2Proof

/-- The largest payload of a MGMT or HEAD packet (11.1). -/
def largestManagement : Nat := 251

/-- The largest payload of a LINE packet (11.1). -/
def largestLine : Nat := 518

/-- The largest payload of a HEADRET packet (11.1). -/
def largestReturn : Nat := 123

/-- The largest payload length that the two length bytes give (R135). -/
def largestLength : Nat := 65535

/-- The field bytes of a request follow its tag and code in the payload of a MGMT packet (R196). -/
def fieldsFit (fields : List Byte) : Bool := decide (fields.length + 2 ≤ largestManagement)

/-- The codes of the part are 0x01-0x1D (R196). -/
def unknownCode (code : Byte) : Bool := decide (code = 0#8) || decide (0x1D#8 < code)

/-- Bytes of one packet that arrived before it was cut: fewer than the whole packet (R136). -/
def arrivedFits (arrived : List Byte) : Bool := decide (arrived.length < largestLength + 5)

/-- The checks of a command. -/
def Instr.wellFormed : Instr → Bool
  | .readPart _ fields => fieldsFit fields
  | .readStatus _ fields => fieldsFit fields
  | .setNoticeMask _ fields => fieldsFit fields
  | .readChannel _ fields => fieldsFit fields
  | .setRoute _ fields => fieldsFit fields
  | .holdChannel _ fields => fieldsFit fields
  | .releaseChannel _ fields => fieldsFit fields
  | .readSlot _ fields => fieldsFit fields
  | .rescanSlot _ fields => fieldsFit fields
  | .setWatch _ fields => fieldsFit fields
  | .loadVolumeTable _ fields => fieldsFit fields
  | .selectVolumeBank _ fields => fieldsFit fields
  | .loadTemperatureTable _ fields => fieldsFit fields
  | .readLink _ fields => fieldsFit fields
  | .readPins _ fields => fieldsFit fields
  | .setPins _ fields => fieldsFit fields
  | .readHistory _ fields => fieldsFit fields
  | .readTrace _ fields => fieldsFit fields
  | .clearTrace _ fields => fieldsFit fields
  | .setPolicy _ fields => fieldsFit fields
  | .grantGrace _ fields => fieldsFit fields
  | .clearHistoryEntry _ fields => fieldsFit fields
  | .resetWaste _ fields => fieldsFit fields
  | .getUnlockNonce _ fields => fieldsFit fields
  | .unlockService _ fields => fieldsFit fields
  | .lockService _ fields => fieldsFit fields
  | .programRootKey _ fields => fieldsFit fields
  | .saveSettings _ fields => fieldsFit fields
  | .restart _ fields => fieldsFit fields
  | .unknownRequest _ code fields => fieldsFit fields && unknownCode code
  | .mgmtCheckFailed p => decide (p.payload.length ≤ largestManagement) && decide (Machine.mgmtCheck p.payload ≠ p.check)
  | .mgmtWithoutTag n => decide (n < 2)
  | .headPacketEnd payload _ => decide (payload.length ≤ largestManagement)
  | .unknownKindPacketEnd n => decide (n ≤ largestLength)
  | .oversizePacketEnd n => decide (largestManagement < n) && decide (n ≤ largestLength)
  | .packetCut _ arrived => arrivedFits arrived
  | .lineHeader _ _ _ _ length => decide (6 ≤ length.toNat) && decide (length.toNat ≤ largestLine)
  | .refusedLineEnd rest _ => decide (rest.length + 6 ≤ largestLine)
  | .lineUpstreamEnd levels _ => decide (levels.length + 6 ≤ largestLine)
  | .linkLost arrived => arrivedFits arrived
  | .headretCut arrived => decide (arrived.length ≤ largestReturn)
  | .headretEnd payload _ => decide (payload.length ≤ largestLength)
  | .powerOn errors => decide (errors.map Prod.fst).Nodup
  | .fillSymbolReceived => true
  | .lineEnd => true
  | .headretStart _ _ => true
  | .staleTimerExpiry _ => true
  | .returnPacketEnd => true
  | .gradeTimerExpiry _ => true
  | .switchTimerExpiry _ => true
  | .revertTimerExpiry _ => true
  | .pinRawChange _ _ => true
  | .filterTimerExpiry e => decide (e.pin = .powerFail ∨ e.arrived = []) && arrivedFits e.arrived
  | .breakEnd _ => true
  | .requestSent _ => true
  | .responseTimeout _ => true
  | .replyComplete _ => true
  | .gapTimeout _ => true
  | .turnaroundEnd _ => true
  | .digestPassComplete => true
  | .lockoutTimerExpiry => true
  | .recordWriteComplete => true
  | .startSymbolReceived => true
  | .replyByteReceived _ _ _ _ => true
  | .powerLoss _ => true

end Sys2Proof
end

