-- ==== Sys2Proof/Safety.lean ====
section
/-!
DEFINITION. What statements about the part are written with: the blocks of the state and what a command leaves unchanged,
when a request is taken, and the invariants.
-/

namespace Sys2Proof.Machine

open Sys2Proof

/-! ### Frames -/

/-- The parts of the state but for the queue and the power. -/
inductive Block where
  | time | draws | settings | slots | lines | sense | meters | heads | waste | routes | trace | digest | history
  | requests | notices | link | forward | returns | pins | nvm
  deriving DecidableEq, Repr

/-- The part of the state is the same in both. -/
def sameBlock (s t : State) : Block → Prop
  | .time => t.time = s.time
  | .draws => t.draws = s.draws
  | .settings => t.settings = s.settings
  | .slots => t.slots = s.slots
  | .lines => t.lines = s.lines
  | .sense => t.sense = s.sense
  | .meters => t.meters = s.meters
  | .heads => t.heads = s.heads
  | .waste => t.waste = s.waste
  | .routes => t.routes = s.routes
  | .trace => t.trace = s.trace
  | .digest => t.digest = s.digest
  | .history => t.history = s.history
  | .requests => t.requests = s.requests
  | .notices => t.notices = s.notices
  | .link => t.link = s.link
  | .forward => t.forward = s.forward
  | .returns => t.returns = s.returns
  | .pins => t.pins = s.pins
  | .nvm => t.nvm = s.nvm

/-- Everything but the listed parts is unchanged, the queue and the power among it. -/
def keepsBut (changed : List Block) (s t : State) : Prop :=
  t.pending = s.pending ∧ t.powered = s.powered ∧ ∀ b : Block, b ∉ changed → sameBlock s t b

/-- The parts that taking a request always touches: its packet on the lane, and the reply. -/
def requestBlocks : List Block := [.requests, .notices, .link, .forward]

/-- The records of the other channels, slots and lines are unchanged. -/
def otherRoutes (c : Channel) (s t : State) : Prop := ∀ d : Channel, d ≠ c → t.route d = s.route d

def otherSlots (i : SlotNo) (s t : State) : Prop := ∀ j : SlotNo, j ≠ i → t.slot j = s.slot j

def otherLines (i : SlotNo) (s t : State) : Prop := ∀ j : SlotNo, j ≠ i → t.line j = s.line j

def otherMeters (c : Channel) (s t : State) : Prop := ∀ d : Channel, d ≠ c → t.meter d = s.meter d

/-! ### Requests -/

/-- R154: the part has power, and fewer than 16 places of the reply list are in use. -/
def takesRequests (s : State) : Prop := s.powered = true ∧ s.requests.placesInUse < 16

/-- R154: the part has power, and the reply list is full. -/
def turnsAway (s : State) : Prop := s.powered = true ∧ 16 ≤ s.requests.placesInUse

/-- R196: the field bytes of a request code. -/
def fieldBytes (code : Byte) (fields : List Byte) : Nat :=
  match code.toNat with
  | 0x03 => listSize fields 1 1
  | 0x04 => 1
  | 0x05 => 17
  | 0x06 => 1
  | 0x07 => 1
  | 0x08 => 1
  | 0x09 => 1
  | 0x0A => 9
  | 0x0B => listSize fields 1 8
  | 0x0C => 1
  | 0x0D => 37
  | 0x10 => 40
  | 0x11 => 2
  | 0x14 => 27
  | 0x15 => 5
  | 0x16 => 1
  | 0x19 => 8
  | 0x1B => 16
  | _ => 0

/-- R155, 8.2: the codes of the requests that need SERVICE: Set Policy, Grant Grace, Clear History Entry, Reset Waste.
-/
def serviceCodes : List Byte := [0x14#8, 0x15#8, 0x16#8, 0x17#8]

/-- R155, R157: the Request Unit after one more reply. -/
def RequestUnit.answered (r : RequestUnit) (tag code : Byte) (o : ReplyOutcome) (contents : List Byte) : RequestUnit :=
  { r with replies := r.replies ++ [{ tag := tag, code := code, outcome := o, contents := contents }] }

/-- R155: the request is answered with that outcome and no contents, and beside the arrival of its packet (logs 4, 15)
it changes nothing. -/
def RefusedWith (i : Instr) (s : State) (o : ReplyOutcome) : Prop :=
  ∃ (tag code : Byte) (fields : List Byte),
    requestParts i = some (tag, code, fields) ∧
      exec i s =
        .next ((s.requestArrives fields).addReply { tag := tag, code := code, outcome := o, contents := [] })

/-- R155: the request is answered DONE with those contents, and leaves t; beside the arrival of its packet (logs 4,
15), its reply and notices it changes those parts only. -/
def DoneWith (i : Instr) (s t : State) (contents : List Byte) (changed : List Block) : Prop :=
  ∃ (tag code : Byte) (fields : List Byte),
    requestParts i = some (tag, code, fields) ∧ exec i s = .next t ∧
      t.requests = s.requests.answered tag code .done contents ∧ t.link = (s.requestArrives fields).link ∧
      t.forward = (s.requestArrives fields).forward ∧ keepsBut (requestBlocks ++ changed) s t

/-! ### Events -/

/-- The command completes in t, and changes those parts only. -/
def Completes (i : Instr) (s t : State) (changed : List Block) : Prop := exec i s = .next t ∧ keepsBut changed s t

/-- The command completes in t, and beside what u differs from s by, it changes those parts only. At the expiry of a
timer u is s at that expiry: the count has reached it (log 2) and the forward buffer has gone on sending (log 15). -/
def CompletesFrom (i : Instr) (s u t : State) (changed : List Block) : Prop := exec i s = .next t ∧ keepsBut changed u t

/-- R167: the notices of t are those of u after notices that were raised one after another. -/
def noticesFollow (u : NoticeUnit) (t : State) : Prop :=
  ∃ raised : List (NoticeKind × Subject × Details),
    t.notices = raised.foldl (fun u n => u.take t.settings.mask[n.1.position] n.1 n.2.1 n.2.2) u

/-- R167: the notices of t are those of u after notices that were raised one after another; of the kinds named, they
were those listed, in that order, and no others. -/
def noticesWere (kinds : List NoticeKind) (listed : List (NoticeKind × Subject × Details)) (u : NoticeUnit)
    (t : State) : Prop :=
  ∃ raised : List (NoticeKind × Subject × Details),
    raised.filter (fun n => decide (n.1 ∈ kinds)) = listed ∧
      t.notices = raised.foldl (fun u n => u.take t.settings.mask[n.1.position] n.1 n.2.1 n.2.2) u

/-- R60, R61: the notices with a ROUTE notice raised. -/
def State.routeRaised (s : State) (u : NoticeUnit) (c : Channel) (d : Details) : NoticeUnit :=
  u.take s.settings.mask[NoticeKind.route.position] .route (.channel c) d

/-- R64: the notices after a channel's gate reasons changed: a change of the highest-ranked one raises a GATE notice. -/
def State.gateRaised (s : State) (u : NoticeUnit) (c : Channel) (old new : Gate) : NoticeUnit :=
  if new.primary = old.primary then u
  else
    u.take s.settings.mask[NoticeKind.gate.position] .gate (.channel c) (.gate new.primary old.primary new)

/-- R60, R64: the notices after a switch: the ROUTE notice, then one GATE notice for the whole change (log 11). -/
def State.switchRaised (s : State) (u : NoticeUnit) (c : Channel) (r : Route) (target : Option SlotNo)
    (cause : SwitchCause) (state : RouteState) (new : Gate) : NoticeUnit :=
  s.gateRaised (s.routeRaised u c (.switch r.active target cause state)) c r.gate new

/-- The upstream receiver is within a packet whose kind is not yet acted on, and the link is UP (R135, R149). -/
def withinPacket (s : State) : Prop := s.powered = true ∧ s.link.up = true ∧ s.link.rx = .receiving

/-- R137, R149, R151: the upstream port and the Link Monitor after symbols were received while the link is UP: the
link-lost timer restarts with 50 ms, the receiver stands as given, and a packet judged good or failed counts. -/
def State.linkAfter (s : State) (rx : RxState) (judged : Option Bool) : Link :=
  match judged with
  | none => { s.link with timer := some (s.time + 50), rx := rx }
  | some true =>
    { s.link with
      timer := some (s.time + 50), rx := rx
      minor := s.link.minor.leaks 100000 (s.after (3 * s.policy.minorWindow))
      major := s.link.major.leaks 1000 (s.after (5 * s.policy.majorWindow)) }
  | some false =>
    { s.link with
      timer := some (s.time + 50), rx := rx
      minor := s.link.minor.rise (s.after s.policy.minorWindow)
      major := s.link.major.rise (s.after s.policy.majorWindow) }

/-- R136: where the receiver stands after a symbol that begins a packet. -/
def rxAfter : LaneSymbol → RxState
  | .start => .receiving
  | .fill => .idle

/-- R144: the forward buffer once every line in it is abandoned: a line's packet is completed with zero levels and a
poisoned check, and no line is in flight. -/
def Forward.abandoned (f : Forward) : Forward :=
  { f with
    buffer :=
      (f.buffer.map fun p => if p.live = true then { p.poison with live := false } else p).filter ForwardPacket.stays
    flights := [] }

/-- R141: a forward buffer whose newest packet is the arriving line's, behind level bytes that arrived before the line
was ended early. -/
def Forward.levelsPlaced (f : Forward) (arrived : List Byte) : Forward :=
  match f.flights.getLast?, f.buffer.getLast? with
  | some l, some p =>
    { f with
      buffer :=
        f.buffer.dropLast ++
          [{ p with placed := p.placed ++ Machine.levelsPlaced l.blanked (arrived.take (l.nozzles / 4)) }] }
  | _, _ => f

/-- R13 to R17: what one debit makes of a slot's counts and state, by its state. -/
def Slot.charged (limit : Nat) (x : Slot) : Slot :=
  match x.state with
  | .genuine =>
    { x with
      remaining := some (x.remaining.getD 0 - 1), drawn := min u32Max (x.drawn + 1)
      state := if x.remaining.getD 0 - 1 = 0 then .depleted else .genuine }
  | .depleted =>
    if x.overdraw < limit then { x with overdraw := x.overdraw + 1 }
    else { x with unbacked := min u32Max (x.unbacked + 1) }
  | .grace => { x with grace := x.grace - 1, state := if x.grace - 1 = 0 then .spent else .grace }
  | _ => { x with unbacked := min u32Max (x.unbacked + 1) }

/-- The state of a slot with its remaining, drawn since checkpoint, overdraw, grace and unbacked. -/
def Slot.counts (x : Slot) : SlotState × Option Nat × Nat × Nat × Nat × Nat :=
  (x.state, x.remaining, x.drawn, x.overdraw, x.grace, x.unbacked)

/-- R13 to R17: the counts of a slot after that many debits. -/
def Slot.countsAfter (debits limit : Nat) (x : Slot) : SlotState × Option Nat × Nat × Nat × Nat × Nat :=
  ((Slot.charged limit)^[debits] x).counts

/-- R19, R20: one comparison of an ARMED watch. -/
def Slot.compared (x : Slot) (n : WatchNo) : Slot :=
  if (x.watch n).state = .armed ∧ (x.watch n).condition x = true then
    x.putWatch n { x.watch n with state := .fired }
  else x

/-- R20: the WATCH notices of a comparison of both watches: of each that is ARMED and whose condition is true, W0 before
W1 (log 41). -/
def Slot.firings (x : Slot) (i : SlotNo) : List (NoticeKind × Subject × Details) :=
  ([WatchNo.w0, WatchNo.w1].filter fun n => decide ((x.watch n).state = .armed) && (x.watch n).condition x).map fun n =>
    (.watch, .slot i, .watch n (x.watch n).kind (x.watch n).limit (x.watch n).action ((x.watch n).quantity x))

/-- R12, R13, R19: a slot takes a record, and its watches are compared, W0 before W1 (log 41); after each of the three
its fitness and drawability are judged afresh, and their changes handed on. -/
def State.handedOn (s : State) (i : SlotNo) (x : Slot) : State :=
  [x, x.compared .w0, (x.compared .w0).compared .w1].foldl (fun u y => (u.putSlot i y).judgeFitness u i) s

/-- R12, R53, R62, R63: the routes, the route trace and the pins of t are those of u. -/
def sameRouting (u t : State) : Prop := t.routes = u.routes ∧ t.trace = u.trace ∧ t.pins = u.pins

/-- R10, R12: in t the slot has moved to that record since s. Its SLOT notice is raised, the one of its kind and with no
WATCH notice beside it, and then its fitness and drawability are judged afresh, and their changes handed on. -/
def slotMoves (s t : State) (i : SlotNo) (x : Slot) (d : Details) : Prop :=
  let moved := ((s.putSlot i x).raise .slot (.slot i) d).judgeFitness s i
  sameRouting moved t ∧ t.notices = moved.notices ∧
    noticesWere [.slot, .watch] [(.slot, .slot i, d)] s.notices t

/-- R72: the route trace after one more entry. -/
def traceAdds (trace : List TraceEntry) (e : TraceEntry) : List TraceEntry :=
  (if 10 ≤ trace.length then trace.drop 1 else trace) ++ [e]

/-- R183: what a write of those contents leaves of a record when it is torn, for each way in which it may read; a record
with no old contents to hold is left with the new ones (log 9). -/
def TornTo {α : Type} (torn : Torn) (old : Stored α) (x : α) (new : Stored α) : Prop :=
  match torn with
  | .goodOld => new = { contents := some (old.loaded.getD x), condition := .good }
  | .goodNew => new = { contents := some x, condition := .good }
  | .correctedOld => new = { contents := some (old.loaded.getD x), condition := .corrected }
  | .correctedNew => new = { contents := some x, condition := .corrected }
  | .uncorrectable => new.result = .uncorrectable

/-- R13 to R17: the record of a slot after a debit, but for the comparison of its watches. The challenge nonce and the
received tag go with a move to SPENT (R1, Note 5). -/
def Slot.debited (limit : Nat) (x : Slot) : Slot :=
  let z := x.charged limit
  if x.state = .grace ∧ z.state = .spent then { z with nonce := none, tag := none } else z

/-- R14: a debit takes the last microlitre of a GENUINE slot. -/
def Slot.runsDry (limit : Nat) (x : Slot) : Bool :=
  decide (x.state = .genuine) && decide ((x.charged limit).state = .depleted)

/-- R14, R15, R16: the SLOT notice of a debit. -/
def Slot.debitNotice (limit : Nat) (x : Slot) (i : SlotNo) : List (NoticeKind × Subject × Details) :=
  let z := x.charged limit
  if x.runsDry limit then [(.slot, .slot i, .slot .depleted .genuine x.tenure none none)]
  else if x.state = .depleted ∧ x.overdraw + 1 = limit then [(.slot, .slot i, .overdrawLimit .depleted x.tenure)]
  else if x.state = .grace ∧ z.state = .spent then [(.slot, .slot i, .slot .spent .grace x.tenure none none)]
  else []

/-- R23, R24: a debit makes a checkpoint due: for depletion, unless the cartridge reads 0 and its mark is set already;
or for the step, unless a checkpoint transaction is in flight. -/
def State.debitMakesDue (s : State) (i : SlotNo) : Bool :=
  let x := s.slot i
  let z := x.charged s.policy.overdrawLimit
  (x.runsDry s.policy.overdrawLimit &&
      !(decide (x.writtenRemaining = some 0) && x.reported.any fun fill => fill.mark)) ||
    (decide (x.state = .genuine) && decide (s.policy.checkpointStep ≤ z.drawn) && !(s.line i).checkpointInFlight)

/-- R105: a line that takes a checkpoint entry as soon as it is placed. -/
def LineCtl.takesCheckpoint (l : LineCtl) : Bool :=
  decide (l.state = .idle) && l.pendProbe.isNone && l.pendChallenge.isNone

/-- R105, R107: a line that has taken a checkpoint entry waits for the write tag, its values fixed. -/
def LineCtl.checkpointing (l : LineCtl) (x : Slot) : LineCtl :=
  { l with
    state := .tagWait, pendCheckpoint := false, timer := none
    trans := some { Transaction.start .checkpoint x.tenure with values := x.checkpointValues } }

/-- R107, R89: the Digest Engine asked for the write tag of a slot's checkpoint. -/
def State.digestWithWriteTag (s : State) (d : Digest) (i : SlotNo) (x : Slot) : Digest :=
  d.request s.nvm.identity.key s.nvm.rootKeyGood (slotRequester i)
    { kind := .writeTag, tenure := x.tenure
      message := u64 (x.serial.getD 0) ++ x.checkpointValues.bytes
      slotKey := some ((x.derivedKey.map DerivedKey.key).getD 0) }

/-- R185: the write is pending in m, or it has begun since a moment at which none was in progress. -/
def Nvm.queuedSince (m before : Nvm) (w : RecordWrite) : Prop :=
  w ∈ m.queue ∨ (before.inProgress = none ∧ ∃ timing, m.inProgress = some (w, timing))

/-- R40: the orphan count after that many debits that went to no slot. -/
def orphanAfter (debits orphan : Nat) : Nat := if debits = 0 then orphan else min u32Max (orphan + debits)

/-- R47: the channel and the slot and tenure of each debit that a save charges: 3 for a line in flight, 1 for a channel
with a residue. -/
def State.saveDebits (s : State) : List (Channel × Option (SlotNo × Tenure)) :=
  (s.forward.flights.flatMap fun l => List.replicate 3 (l.channel, l.source)) ++
    ((List.finRange 12).filter fun c => decide (0 < (s.meter c).fine ∨ 0 < (s.meter c).remainder)).map fun c =>
      (c, (s.meter c).lastCharge)

/-- R40: a debit latched to that slot and tenure goes to the slot, whose tenure is still that one. -/
def State.chargesSlot (s : State) (i : SlotNo) (source : Option (SlotNo × Tenure)) : Bool :=
  decide (source = some (i, (s.slot i).tenure))

/-- R188, R189: a save has begun in t. POWER_SAVE is on every channel; the lines in flight, whose packets stood in that
forward buffer, are abandoned (R144); the debits of R47 are charged, to the slots by R13 to R17 and to the orphan
counts; the entry of every slot in GENUINE or DEPLETED takes the slot's drawn since checkpoint, and its write is queued
(R128), as is one of the waste record; the writer saves, with the clean mark behind every pending write (R190). An entry
of two such slots takes that of the later one, and one that a later slot's insertion replaces (R116) is no slot's any
more. -/
def SaveBegun (s t : State) (cause : SaveCause) (forward : Forward) : Prop :=
  t.nvm.saveState = .saving ∧ t.nvm.saveCause = some cause ∧ t.nvm.timing = .save ∧ t.nvm.store = s.nvm.store ∧
    t.nvm.queuedSince s.nvm (.waste t.waste) ∧ t.nvm.queue.getLast? = some (.cleanMark true) ∧
    t.forward = forward.abandoned ∧
    (∀ c : Channel,
      let debits := s.saveDebits.filter fun d => decide (d.1 = c)
      let orphans := debits.filter fun d => (List.finRange 16).all fun i => !s.chargesSlot i d.2
      (t.route c).gate.powerSave = true ∧
        t.meter c =
          { s.meter c with
            fine := 0, remainder := 0, metered := (s.meter c).metered + BitVec.ofNat 32 debits.length
            service :=
              if (s.meter c).classifier = .service then (s.meter c).service + BitVec.ofNat 32 debits.length
              else (s.meter c).service
            orphan := orphanAfter orphans.length (s.meter c).orphan }) ∧
    (∀ i : SlotNo,
      (t.slot i).tenure = (s.slot i).tenure ∧
        (t.slot i).counts =
          (s.slot i).countsAfter (s.saveDebits.filter fun d => s.chargesSlot i d.2).length s.policy.overdrawLimit) ∧
    let supplies (i : SlotNo) : Prop := (t.slot i).state = .genuine ∨ (t.slot i).state = .depleted
    ∀ (i : SlotNo) (serial : Serial), supplies i → (t.slot i).serial = some serial →
      (∀ j : SlotNo, i < j → supplies j → (t.slot j).serial ≠ some serial) →
        (∃ n e,
          (t.slot i).historyIndex = some n ∧ t.entry n = some e ∧ e.serial = serial ∧
            e.drawnSince = (t.slot i).drawn ∧ t.nvm.queuedSince s.nvm (.history n (some e))) ∨
          ((t.slot i).historyIndex = none ∧ (∀ n : EntryNo, t.entry n ≠ none) ∧ ∃ j : SlotNo, i < j ∧ supplies j)

/-- R32: that bank of the volume table. -/
def Settings.bank (x : Settings) : BankName → VolumeBank
  | .a => x.bankA
  | .b => x.bankB

/-- R69, R196: the field bytes of Set Route in order. -/
def routeFields (c ink head : Byte) (nozzles : BitVec 16) (dflt alt src : Byte) (delay : BitVec 16) (rev : Byte)
    (revDelay : BitVec 16) (settle inv full run : Byte) : List Byte :=
  [c, ink, head] ++ word16 nozzles ++ [dflt, alt, src] ++ word16 delay ++ [rev] ++ word16 revDelay ++
    [settle, inv, full, run]

/-- The byte of an on/off field (11.2). -/
def onOff (b : Bool) : Byte := if b then 1#8 else 0#8

/-- The byte of a slot that may be none (11.2). -/
def slotByte : Option SlotNo → Byte
  | none => 0xFF#8
  | some i => BitVec.ofNat 8 i.val

/-! ### Invariants -/

/-- R166, R72, R154: the queues stay within their sizes. -/
def QueuesBounded (s : State) : Prop :=
  s.notices.queue.length ≤ 32 ∧ s.trace.length ≤ 10 ∧ s.requests.placesInUse ≤ 16

/-- R166: no two entries of the Notice Queue have the same kind and subject. -/
def NoticesDistinct (s : State) : Prop := (s.notices.queue.map fun n => (n.kind, n.subject)).Nodup

/-- R28, R39: the accumulators of every channel stay within their ranges. -/
def MetersInRange (s : State) : Prop :=
  ∀ c : Channel, (s.meter c).fine < 100000000 ∧ (s.meter c).remainder < 1024 ∧ (s.meter c).run ≤ 16

/-- R50, R51: a channel's active slot is its default, its alternate or none; it is UNROUTED exactly when its ink code is
0 or its default slot is none, and then it has no active slot, idle timers, NO_ROUTE and NO_SUPPLY. -/
def RoutesConsistent (s : State) : Prop :=
  ∀ c : Channel,
    ((s.route c).active = none ∨ (s.route c).active = (s.routeCfg c).defaultSlot ∨
      (s.route c).active = (s.routeCfg c).alternate) ∧
    ((s.route c).state = .unrouted ↔ (s.routeCfg c).ink = 0 ∨ (s.routeCfg c).defaultSlot = none) ∧
    ((s.route c).state = .unrouted →
      (s.route c).active = none ∧ (s.route c).switchTimer = .idle ∧ (s.route c).revertTimer = none ∧
        (s.route c).gate.noRoute = true ∧ (s.route c).gate.noSupply = true)

/-- R2, R176: present follows the filtered PRESENCE input, and a slot is EMPTY exactly when present is false. -/
def PresenceFollows (s : State) : Prop :=
  ∀ i : SlotNo,
    (s.slot i).present = (s.filter (.presence i)).filtered ∧
      ((s.slot i).state = .empty ↔ (s.slot i).present = false)

/-- R185: at most one pending write per record, and no write waits while none is in progress. -/
def WriterOrderly (s : State) : Prop :=
  (s.nvm.queue.map RecordWrite.record).Nodup ∧ (s.nvm.queue ≠ [] → s.nvm.inProgress.isSome = true)

end Sys2Proof.Machine
end

