-- ==== Sys2Proof/Certificates/Slice0/Obligations.lean ====
section
/-!
DEFINITION. The statements about the part. Each docstring names the rules a statement follows; where a clause rests on
a choice of the model, it names the log entry.
-/

open Sys2Proof Sys2Proof.Machine

/-! ### The step -/

/-- A step takes the command at the front of the queue and runs its meaning on the queue's rest. -/
def Obligations.StepRunsFrontCommand : Prop :=
  ∀ (c : Instr) (rest : List Instr) (s : State),
    step { s with pending := c :: rest } = exec c { s with pending := rest }

/-- On an empty queue one millisecond passes in a part that has power (log 1). While milliseconds pass, up to an expiry
that lies ahead too (log 2), the forward buffer goes on sending (log 15). All three are the model's choice. -/
def Obligations.EmptyQueueLetsTimePass : Prop :=
  (∀ s : State, s.pending = [] →
    step s =
      .next
        (if s.powered then
          { s with
            time := s.time + 1
            forward := s.forward.send (symbolsIn 1) }
        else s)) ∧
    ∀ (s : State) (e : Time),
      ((e - s.time).toNat < 2147483648 →
        s.reach e =
          { s with
            time := e
            forward := s.forward.send (symbolsIn (e - s.time).toNat) }) ∧
        (2147483648 ≤ (e - s.time).toNat → s.reach e = s)

/-- Every command answers a next state, and leaves the queue as it is. Without power the part takes POWER_ON and the
levels on its pins, and nothing else (log 27). That no command ends in a fault or a refusal, also one that is not
well-formed, is the model's choice (logs 33, 34). -/
def Obligations.EveryCommandAnswers : Prop :=
  (∀ (i : Instr) (s : State), ∃ t, exec i s = .next t ∧ t.pending = s.pending) ∧
    ∀ s : State, s.powered = false →
      (∀ i : Instr, (∀ e, i ≠ .powerOn e) → (∀ p a, i ≠ .pinRawChange p a) → exec i s = .next s) ∧
        ∀ (p : Pin) (a : Bool), exec (.pinRawChange p a) s = .next (s.putFilter p { s.filter p with raw := a })

/-! ### Reset -/

/-- Reset is the state after the first start-up of a part as it leaves manufacture (log 5), and holds the state of every
block after start-up (R192's table). The rate of a line before its first attempt is log 50. -/
def Obligations.ResetIsTheFirstStartUp : Prop :=
  exec (.powerOn []) State.manufactured = .next State.reset ∧
  let s := State.reset
  s.pending = [] ∧ s.time = 0 ∧
    (∀ i : SlotNo, (s.slot i).state = .empty ∧ (s.slot i).tenure = 0 ∧ (s.slot i).unbacked = 0) ∧
    (∀ c : Channel, s.meter c = Meter.cold ∧ (s.route c).state = .unrouted ∧ (s.route c).settleCount = 0 ∧
      (s.route c).hold = false) ∧
    (∀ h : HeadNo, (s.head h).reading = none ∧ (s.head h).staleTimer = none) ∧
    s.trace = [] ∧ s.forward.flights = [] ∧
    (∀ i : SlotNo, (s.line i).state = .idle ∧ (s.line i).lastFailure = none ∧ s.senseOf i = ⟨false, false⟩) ∧
    s.digest.inFlight = none ∧ s.digest.lastGranted = 16 ∧
    s.requests.access = .operate ∧ s.requests.nonce = none ∧ s.requests.attempt = none ∧
    s.requests.failedUnlocks = 0 ∧ s.requests.lockout = none ∧ s.requests.replies = [] ∧
    s.link.up = false ∧ s.link.timer = none ∧ s.forward.buffer = [] ∧ s.returns.buffer = [] ∧
    s.link.minor = Grade.cold ∧ s.link.major = Grade.cold ∧
    (∀ p : Pin, (s.filter p).filtered = false ∧ (s.filter p).changed = false) ∧
    s.nvm.saveState = .running ∧ s.nvm.inProgress = some (.cleanMark false, .normal)

/-! ### Invariants -/

/-- The Notice Queue, the trace and the reply list stay within their sizes (R166, R72, R154). -/
def Obligations.StepKeepsQueuesBounded : Prop :=
  ∀ s t : State, QueuesBounded s → step s = .next t → QueuesBounded t

/-- No two entries of the Notice Queue have the same kind and subject (R166). -/
def Obligations.StepKeepsNoticesDistinct : Prop :=
  ∀ s t : State, NoticesDistinct s → step s = .next t → NoticesDistinct t

/-- Fine accumulators stay below 100,000,000, remainders below 1024, full-line runs at most 16 (R39, R28). -/
def Obligations.StepKeepsMetersInRange : Prop :=
  ∀ s t : State, MetersInRange s → step s = .next t → MetersInRange t

/-- Active slots and UNROUTED follow the configured fields (R50, R51). -/
def Obligations.StepKeepsRoutesConsistent : Prop :=
  ∀ s t : State, RoutesConsistent s → step s = .next t → RoutesConsistent t

/-- Present follows the filtered PRESENCE input, and EMPTY is exactly not present (R2, R176). -/
def Obligations.StepKeepsPresenceFollows : Prop :=
  ∀ s t : State, PresenceFollows s → step s = .next t → PresenceFollows t

/-- The writer queue holds at most one write per record, and none waits while the writer is free (R185). -/
def Obligations.StepKeepsWriterOrderly : Prop :=
  ∀ s t : State, WriterOrderly s → step s = .next t → WriterOrderly t

/-- The invariants hold at reset. -/
def Obligations.InvariantsHoldAtReset : Prop :=
  QueuesBounded State.reset ∧ NoticesDistinct State.reset ∧ MetersInRange State.reset ∧
    RoutesConsistent State.reset ∧ PresenceFollows State.reset ∧ WriterOrderly State.reset

/-! ### MGMT packets and requests -/

/-- A request written as a MGMT payload reads back as itself (R196, 11.2); a MGMT packet is what its payload says when
its check is the correct one, and is dropped otherwise (R194). -/
def Obligations.MgmtPayloadsRoundTrip : Prop :=
  (∀ i : Instr, i.wellFormed = true → (requestParts i).isSome = true →
    ∃ payload, encodeMgmt i = some payload ∧ payload.length ≤ 251 ∧ decodeMgmt payload = i) ∧
    (∀ payload : List Byte, 2 ≤ payload.length → encodeMgmt (decodeMgmt payload) = some payload) ∧
    ∀ (payload : List Byte) (check : BitVec 16),
      decodeMgmtPacket payload check =
        if crc16 (0x20#8 :: (word16 (BitVec.ofNat 16 payload.length) ++ payload)) = check then decodeMgmt payload
        else .mgmtCheckFailed ⟨payload, check⟩

/-- What the packet of a request does as it arrives: it touches the lane, the Link Monitor and the notices only; the
link is UP and its timer restarts with 50 ms; within a packet that had begun, it counts as one good packet (R137, R149,
R151). That a packet begins with the request when its start symbol was no command of its own is log 4, and that its
symbols drain the forward buffer log 15. -/
def Obligations.RequestPacketArrives : Prop :=
  ∀ (s : State) (fields : List Byte),
    keepsBut [.link, .forward, .notices] s (s.requestArrives fields) ∧
      (s.requestArrives fields).link.up = true ∧
      (s.requestArrives fields).link.timer = some (s.time + 50) ∧
      (s.requestArrives fields).link.rx = .idle ∧
      (s.link.up = true → s.link.rx = .receiving →
        (s.requestArrives fields).notices = s.notices ∧
          (s.requestArrives fields).link.minor =
            s.link.minor.leaks 100000 (s.after (3 * s.policy.minorWindow)) ∧
          (s.requestArrives fields).link.major = s.link.major.leaks 1000 (s.after (5 * s.policy.majorWindow)) ∧
          (s.requestArrives fields).forward = (s.send (fields.length + 7)).forward)

/-- A request taken while 16 places of the reply list are in use is turned away: it is not carried out and gets no
reply; the count rises, saturating, and the flag is set (R154). Otherwise the checks of R155 come in order. A code that
is not one of the part's is answered UNKNOWN_REQUEST, with the code as received (check 1); a payload shorter or longer
than the fields of the code need is answered BAD_VALUE (check 2; R196); Set Policy, Grant Grace, Clear History Entry and
Reset Waste at OPERATE are answered REFUSED_LEVEL (check 3; 8.2); a channel above 11, a slot above 15 or a first entry
above 63 is answered BAD_SUBJECT (R156; R71, R67, R27, R7, R132). What the packet itself does is logs 4 and 15. -/
def Obligations.RequestsAreCheckedInOrder : Prop :=
  (∀ (i : Instr) (tag code : Byte) (fields : List Byte) (s : State),
    requestParts i = some (tag, code, fields) →
      (turnsAway s →
        exec i s =
          .next
            { s.requestArrives fields with
              notices :=
                { (s.requestArrives fields).notices with
                  turnedAway := true
                  turnedAwayCount := min 255 ((s.requestArrives fields).notices.turnedAwayCount + 1) } }) ∧
        (takesRequests s → i.wellFormed = true →
          (unknownCode code = false → fields.length ≠ fieldBytes code fields → RefusedWith i s .badValue) ∧
            (code ∈ serviceCodes → fields.length = fieldBytes code fields → s.requests.access = .operate →
              RefusedWith i s .refusedLevel))) ∧
    ∀ s : State, takesRequests s →
      (∀ (tag code : Byte) (fields : List Byte),
        exec (.unknownRequest tag code fields) s =
          .next ((s.requestArrives fields).addReply
            { tag := tag, code := code, outcome := .unknownRequest, contents := [] })) ∧
        ∀ tag n k : Byte,
          (11 < n.toNat →
            RefusedWith (.readChannel tag [n]) s .badSubject ∧ RefusedWith (.holdChannel tag [n]) s .badSubject ∧
              RefusedWith (.releaseChannel tag [n]) s .badSubject) ∧
            (15 < n.toNat →
              RefusedWith (.readSlot tag [n]) s .badSubject ∧ RefusedWith (.rescanSlot tag [n]) s .badSubject) ∧
            (63 < n.toNat → RefusedWith (.readHistory tag [n, k]) s .badSubject)

/-- Read Part, Read Channel, Read Slot, Read Link and Read History are answered DONE and change nothing else (R158, R71,
R27, R153, R132). The contents are the model's functions of the state (their form: log 23; of Read Part logs 73, 79 and
87; of Read Channel, the route part before the meter part, logs 44, 48, 66, 68, 77 and 91; of Read Slot logs 25, 65, 89,
90 and 98; of Read Link logs 62 and 63; of Read History, which returns the clamped count, the valid and the locked
entries, and that many records from the first entry on, logs 59, 60, 71 and 102; a write in progress of none is log 92,
and which of a pair comes first log 96). That the packet counts before the contents are formed is log 61. What the
request's own packet does otherwise is logs 4 and 15. -/
def Obligations.ReadRequestsChangeNothing : Prop :=
  ∀ (tag : Byte) (s : State), takesRequests s →
    exec (.readPart tag []) s =
        .next ((s.requestArrives []).addReply ⟨tag, 0x01#8, .done, (s.requestArrives []).partContents⟩) ∧
      exec (.readLink tag []) s =
        .next ((s.requestArrives []).addReply ⟨tag, 0x0E#8, .done, (s.requestArrives []).linkContents⟩) ∧
      (∀ c : Channel,
        exec (.readChannel tag [BitVec.ofNat 8 c.val]) s =
          .next ((s.requestArrives [BitVec.ofNat 8 c.val]).addReply
            ⟨tag, 0x04#8, .done,
              (s.requestArrives [BitVec.ofNat 8 c.val]).routeBytes c ++
                (s.requestArrives [BitVec.ofNat 8 c.val]).meterBytes c⟩)) ∧
      (∀ i : SlotNo,
        exec (.readSlot tag [BitVec.ofNat 8 i.val]) s =
          .next ((s.requestArrives [BitVec.ofNat 8 i.val]).addReply
            ⟨tag, 0x08#8, .done, (s.requestArrives [BitVec.ofNat 8 i.val]).slotContents i⟩)) ∧
      ∀ (n : EntryNo) (count : Byte),
        let arrived := s.requestArrives [BitVec.ofNat 8 n.val, count]
        let returned := min (64 - n.val) (max 1 (min 8 count.toNat))
        let valid := ((List.finRange 64).filter fun m => (s.entry m).isSome).length
        let locked := ((List.finRange 64).filter fun m => (s.entry m).any fun e => e.depletedMark || e.refillMark).length
        exec (.readHistory tag [BitVec.ofNat 8 n.val, count]) s =
          .next (arrived.addReply
            ⟨tag, 0x11#8, .done,
              [BitVec.ofNat 8 returned, BitVec.ofNat 8 valid, BitVec.ofNat 8 locked] ++
                (((List.finRange 64).drop n.val).take returned).flatMap arrived.historyRecord⟩)

/-- Read Trace returns the number of entries held and each entry, oldest first, and does not remove them; Clear Trace
empties the trace (R73). What the request's own packet does is logs 4 and 15. -/
def Obligations.TraceIsReadAndCleared : Prop :=
  ∀ (tag : Byte) (s : State), takesRequests s →
    exec (.readTrace tag []) s =
        .next ((s.requestArrives []).addReply
          ⟨tag, 0x12#8, .done, BitVec.ofNat 8 s.trace.length :: s.trace.flatMap TraceEntry.bytes⟩) ∧
      exec (.clearTrace tag []) s =
        .next (State.addReply { s.requestArrives [] with trace := [] } ⟨tag, 0x13#8, .done, []⟩)

/-- Read Status reports the latched flags and counts, the live flags, the entries of the Notice Queue and the places in
use, and then clears the latched flags and counts (R171). Read Pins reports the inputs and outputs, and then clears
every changed flag and nothing else (R180). Form of the contents: logs 23, 64 and 96 for Read Status, logs 23, 80,
81, 86, 95 and 99 for Read Pins. What the request's own packet does is logs 4 and 15. -/
def Obligations.StatusAndPinReadsClearTheirFlags : Prop :=
  ∀ (tag : Byte) (s : State), takesRequests s →
    exec (.readStatus tag []) s =
        .next (State.addReply
          { s.requestArrives [] with
            notices :=
              { (s.requestArrives []).notices with
                seen := Vector.replicate 14 false, overflow := false, dropped := 0, turnedAway := false
                turnedAwayCount := 0 } }
          ⟨tag, 0x02#8, .done, (s.requestArrives []).statusContents⟩) ∧
      ∃ t, DoneWith (.readPins tag []) s t (s.requestArrives []).pinContents [.pins] ∧
        t.notices = (s.requestArrives []).notices ∧
        (∀ p : Pin, p ≠ .powerFail → t.filter p = { s.filter p with changed := false }) ∧
        t.pins.powerFail = s.pins.powerFail ∧ t.pins.valves = s.pins.valves

/-- Set Notice Mask enables or masks each listed kind, keeps the others and answers with the whole mask; a mode outside
the two or a kind outside the fourteen is answered BAD_VALUE (R169). A notice that is raised sets the seen flag of its
kind. It merges into the entry of its kind and subject, which keeps its place, counts one more, saturating, and takes
the new details, and counts one more after a grant when that entry is being sent. With no such entry a masked notice
goes no further, a full queue of 32 drops it with OVERFLOW and the dropped count, saturating, and it is else appended
with the count 1 (R166, R167, R168). That a masked notice merges is log 10, and that the reply gives the mask as a set
of the enabled kinds, two bytes, log 74. What the request's own packet does is logs 4 and 15. -/
def Obligations.NoticesAreMaskedAndTaken : Prop :=
  (∀ (tag : Byte) (s : State), takesRequests s →
    (∀ (enabled : Bool) (kinds : List (Fin 14)), kinds.length ≤ 14 →
      ∃ t,
        DoneWith
            (.setNoticeMask tag
              ((if enabled then 0#8 else 1#8) :: BitVec.ofNat 8 kinds.length ::
                kinds.map fun k => BitVec.ofNat 8 k.val))
            s t (bitmap t.settings.mask.toList) [.settings] ∧
          t.settings = { s.settings with mask := t.settings.mask } ∧
          t.notices = (s.requestArrives (List.replicate (kinds.length + 2) 0#8)).notices ∧
          ∀ k : Fin 14, t.settings.mask[k] = if k ∈ kinds then enabled else s.settings.mask[k]) ∧
      ∀ (mode : Byte) (kinds : List Byte), kinds.length ≤ 247 →
        1 < mode.toNat ∨ 14 < kinds.length ∨ (∃ k ∈ kinds, 13 < k.toNat) →
          RefusedWith (.setNoticeMask tag (mode :: BitVec.ofNat 8 kinds.length :: kinds)) s .badValue) ∧
    (∀ (s : State) (kind : NoticeKind) (subject : Subject) (d : Details),
      s.raise kind subject d =
        { s with notices := s.notices.take s.settings.mask[kind.position] kind subject d }) ∧
    ∀ (u : NoticeUnit) (enabled : Bool) (kind : NoticeKind) (subject : Subject) (d : Details),
      let seen := u.seen.set kind.position true
      let about (n : Notice) := n.kind = kind ∧ n.subject = subject
      (∀ (before : List Notice) (n : Notice) (after : List Notice), u.queue = before ++ n :: after → about n →
        (∀ m ∈ before, ¬about m) →
          u.take enabled kind subject d =
            { u with
              seen := seen
              queue := before ++ { n with count := min 255 (n.count + 1), details := d } :: after
              merged := if before = [] then u.merged.map (fun k => k + 1) else u.merged }) ∧
        ((∀ m ∈ u.queue, ¬about m) →
          u.take enabled kind subject d =
            if enabled = false then { u with seen := seen }
            else if 32 ≤ u.queue.length then
              { u with seen := seen, overflow := true, dropped := min 255 (u.dropped + 1) }
            else
              { u with
                seen := seen
                queue := u.queue ++ [{ kind := kind, subject := subject, count := 1, details := d }] })

/-! ### Requests about routes -/

/-- Hold Channel sets the operator hold and adds OPERATOR_HOLD; Release Channel clears it and removes OPERATOR_HOLD; in
any route state (R67). A change of the highest-ranked gate reason raises a GATE notice with the new reason, the one
before and the whole set (R64). What the request's own packet does is logs 4 and 15. -/
def Obligations.HoldAndReleaseChannel : Prop :=
  (∀ (tag : Byte) (c : Channel) (s : State), takesRequests s →
    (∃ t, DoneWith (.holdChannel tag [BitVec.ofNat 8 c.val]) s t [] [.routes] ∧
      t.route c =
        { s.route c with hold := true, gate := { (s.route c).gate with operatorHold := true } } ∧
      t.notices = s.gateRaised (s.requestArrives [0]).notices c (s.route c).gate (t.route c).gate ∧
      otherRoutes c s t) ∧
      ∃ t, DoneWith (.releaseChannel tag [BitVec.ofNat 8 c.val]) s t [] [.routes] ∧
        t.route c =
          { s.route c with hold := false, gate := { (s.route c).gate with operatorHold := false } } ∧
        t.notices = s.gateRaised (s.requestArrives [0]).notices c (s.route c).gate (t.route c).gate ∧
        otherRoutes c s t) ∧
    ∀ g : Gate,
      g.primary =
        if g.powerSave then some .powerSave
        else if g.noRoute then some .noRoute
        else if g.operatorHold then some .operatorHold
        else if g.noSupply then some .noSupply
        else if g.settle then some .settle
        else none

/-- The fields of Set Route are read in their order, the nozzle count rounded down to a multiple of 64 within
64-2048 and the other quantities clamped; a channel above 11, a default or alternate slot of 16 to 254 or a head
above 7 is answered BAD_SUBJECT, and then an ink code above 31, a condition source, revert enable or valve invert
outside its enumeration, or an alternate equal to the default BAD_VALUE (R69). What the request's own packet does is
logs 4 and 15. -/
def Obligations.RouteFieldsAreReadAndChecked : Prop :=
  (∀ (c : Channel) (ink : Byte) (head : HeadNo) (nozzles : BitVec 16) (d a : Option SlotNo) (src : CondSource)
    (delay revDelay : BitVec 16) (settle full run : Byte) (rev inv : Bool),
    setRouteOperand
        (routeFields (BitVec.ofNat 8 c.val) ink (BitVec.ofNat 8 head.val) nozzles (slotByte d) (slotByte a)
          (BitVec.ofNat 8 src.ctorIdx) delay (onOff rev) revDelay settle (onOff inv) full run) =
      if 31 < ink.toNat ∨ (a.isSome ∧ a = d) then .error .badValue
      else
        .ok (c,
          { ink := ink.toNat, head := head, nozzles := max 64 (min 2048 nozzles.toNat) / 64 * 64, defaultSlot := d,
            alternate := a, source := src, switchDelay := min 60000 delay.toNat, revertEnable := rev,
            revertDelay := min 60000 revDelay.toNat, settleLines := settle.toNat, valveInvert := inv,
            fullAllowance := min 15 full.toNat, runLength := max 1 (min 16 run.toNat) })) ∧
    ∀ (tag : Byte) (fields : List Byte) (o : ReplyOutcome) (s : State), takesRequests s → fields.length = 17 →
      (let at_ (k : Nat) := (byteAt fields k).toNat
       let badSubject :=
         11 < at_ 0 ∨ (15 < at_ 5 ∧ at_ 5 < 255) ∨ (15 < at_ 6 ∧ at_ 6 < 255) ∨ 7 < at_ 2
       let badValue := 31 < at_ 1 ∨ 7 < at_ 7 ∨ 1 < at_ 10 ∨ 1 < at_ 14 ∨ (at_ 5 = at_ 6 ∧ at_ 6 < 255)
       (badSubject → setRouteOperand fields = .error .badSubject) ∧
         (¬badSubject → badValue → setRouteOperand fields = .error .badValue) ∧
         (¬badSubject → ¬badValue → ∃ x, setRouteOperand fields = .ok x)) ∧
        (setRouteOperand fields = .error o → RefusedWith (.setRoute tag fields) s o)

/-- Set Route with an ink code of 0 or no default slot leaves the channel UNROUTED: no active slot, idle timers,
NO_ROUTE and NO_SUPPLY, and the valve at 0 (R70, R51, R62). With both it returns the channel to ON_DEFAULT on that slot;
where D does not hold it stays there, and the settle count is loaded when the active slot changed (R70, R66); where D
holds it takes the way to the alternate, at once with a delay of 0 (R54, R55). A change of the highest-ranked gate
reason raises a GATE notice (R64), a change of the active slot then a ROUTE notice (R70), and what D does its own (R60,
R61). A change of the active slot writes a trace entry with cause OPERATOR, and the switch that D takes at once another
with cause CONDITION (R70, R60, R72). That the settle count of a channel made UNROUTED stays is log 36, that step 6
raises one GATE notice log 55, that the switch which D takes with a delay of 0 raises its ROUTE notice and then one GATE
notice log 11, that a change of the state alone raises a ROUTE notice log 14, the details of the other log 49. What the
request's own packet does is logs 4 and 15. -/
def Obligations.SetRouteConfiguresTheChannel : Prop :=
  let operator (s : State) (fields : List Byte) (c : Channel) (active : Option SlotNo) (state : RouteState)
      (gate : Gate) : NoticeUnit :=
    let r := s.route c
    let gated := s.gateRaised (s.requestArrives fields).notices c r.gate gate
    if r.active ≠ active then s.routeRaised gated c (.switch r.active active .operator state)
    else if r.state ≠ state then s.routeRaised gated c (.route state false)
    else gated
  (∀ (tag : Byte) (fields : List Byte) (c : Channel) (cfg : RouteCfg) (s : State), takesRequests s →
      fields.length = 17 → setRouteOperand fields = .ok (c, cfg) → cfg.ink = 0 ∨ cfg.defaultSlot = none →
        ∃ t, DoneWith (.setRoute tag fields) s t cfg.echo [.settings, .routes, .trace, .pins] ∧
          t.settings = { s.settings with routes := s.settings.routes.set c cfg } ∧ otherRoutes c s t ∧
          (let r := s.route c
           let gate : Gate :=
             { r.gate with noRoute := true, noSupply := true, settle := decide (0 < r.settleCount) }
           t.route c =
               { r with state := .unrouted, active := none, switchTimer := .idle, revertTimer := none, gate := gate } ∧
             t.notices = operator s fields c none .unrouted gate ∧
             t.trace =
               (if r.active = none then s.trace
               else traceAdds s.trace ⟨c, r.active, none, .operator, r.lastLine, s.time⟩)) ∧
          t.pins = { s.pins with valves := s.pins.valves.set c false }) ∧
  ∀ (tag : Byte) (fields : List Byte) (c : Channel) (cfg : RouteCfg) (i : SlotNo) (s : State), takesRequests s →
    fields.length = 17 → setRouteOperand fields = .ok (c, cfg) → cfg.ink ≠ 0 → cfg.defaultSlot = some i →
      ∃ t, DoneWith (.setRoute tag fields) s t cfg.echo [.settings, .routes, .trace, .pins] ∧
        let r := s.route c
        let count := if r.active = some i then r.settleCount else cfg.settleLines
        let gate : Gate :=
          { r.gate with noRoute := false, noSupply := !t.drawable i c, settle := decide (0 < count) }
        let placed : Route :=
          { r with
            state := .onDefault, active := some i, switchTimer := .idle, revertTimer := none, settleCount := count
            gate := gate }
        let raised := operator s fields c (some i) .onDefault gate
        let leaves := s.routeRaised raised c (.route .pendingAlt false)
        let trace :=
          if r.active = some i then s.trace
          else traceAdds s.trace ⟨c, r.active, some i, .operator, r.lastLine, s.time⟩
        let valve (level : Bool) : Pins := { s.pins with valves := s.pins.valves.set c level }
        t.settings = { s.settings with routes := s.settings.routes.set c cfg } ∧ otherRoutes c s t ∧
        (t.leaveDefault c = false ∨ cfg.alternate = none →
          t.route c = placed ∧ t.notices = raised ∧ t.pins = valve cfg.valveInvert ∧ t.trace = trace) ∧
        (t.leaveDefault c = true → cfg.alternate ≠ none → 0 < cfg.switchDelay →
          t.route c = { placed with state := .pendingAlt, switchTimer := .running (s.after cfg.switchDelay) } ∧
            t.notices = leaves ∧ t.pins = valve cfg.valveInvert ∧ t.trace = trace) ∧
        (t.leaveDefault c = true → cfg.alternate ≠ none → cfg.switchDelay = 0 →
          if t.alternateFit c then
            let switched : Gate := { gate with noSupply := false, settle := decide (0 < cfg.settleLines) }
            t.route c =
                { placed with
                  state := .onAlternate, active := cfg.alternate, settleCount := cfg.settleLines, gate := switched } ∧
              t.notices = s.switchRaised leaves c placed cfg.alternate .condition .onAlternate switched ∧
              t.pins = valve (!cfg.valveInvert) ∧
              t.trace = traceAdds trace ⟨c, some i, cfg.alternate, .condition, r.lastLine, s.time⟩
          else
            t.route c = { placed with state := .pendingAlt, switchTimer := .waiting } ∧
              t.notices = s.routeRaised leaves c (.route .pendingAlt true) ∧ t.pins = valve cfg.valveInvert ∧
              t.trace = trace)

/-! ### Requests about slots -/

/-- Rescan Slot in any state but EMPTY moves the slot to PROBING within its tenure: write failures, challenge nonce and
received tag go, the other fields stay (that ink code, nominal, reported fill and history index are among those that
stay is log 97); the challenge and checkpoint entries and the digest work of the challenge go, the transaction in flight
is ignored, and a probe begins on an idle line (R7, R88, R111). The SLOT notice of the move is raised first (R10), and
the fitness and drawability that the slot loses are handed on (R12, R53, R63). In EMPTY it is answered BAD_STATE. That a
channel's conditions come before NO_SUPPLY is log 13, that the break's 3 ms run from the request in whole milliseconds
log 31. What the request's own packet does is logs 4 and 15. -/
def Obligations.RescanStartsTheProbe : Prop :=
  ∀ (tag : Byte) (i : SlotNo) (s : State), takesRequests s →
    ((s.slot i).state = .empty → RefusedWith (.rescanSlot tag [BitVec.ofNat 8 i.val]) s .badState) ∧
      ((s.slot i).state ≠ .empty →
        ∃ t,
          DoneWith (.rescanSlot tag [BitVec.ofNat 8 i.val]) s t []
              [.slots, .lines, .sense, .digest, .routes, .trace, .pins] ∧
            t.slot i = { s.slot i with state := .probing, writeFailures := 0, nonce := none, tag := none } ∧
            otherSlots i s t ∧ otherLines i s t ∧
            t.senseOf i = { s.senseOf i with proven := false } ∧
            slotMoves (s.requestArrives [BitVec.ofNat 8 i.val]) t i (t.slot i)
              (.slot .probing (s.slot i).state (s.slot i).tenure none none) ∧
            t.digest = s.digest.drop i PassKind.ofChallenge ∧
            ((s.line i).state ≠ .idle →
              t.line i =
                { s.line i with
                  trans := (s.line i).trans.map fun x => { x with ignoreResult := true }
                  pendProbe := some .identify, pendChallenge := none, pendCheckpoint := false }) ∧
            ((s.line i).state = .idle →
              (t.line i).state = .break ∧ (t.line i).timer = some (s.after 3) ∧
                (t.line i).trans = some (Transaction.start .identify (s.slot i).tenure) ∧
                (t.line i).pendProbe = none ∧ (t.line i).pendChallenge = none ∧ (t.line i).pendCheckpoint = false))

/-- Set Watch with mode ARM gives the watch its kind, limit and action, arms it and compares it at once; with mode OFF
it is OFF; held follows; the limit is clamped and echoed; a slot above 15 is answered BAD_SUBJECT, another field outside
its enumeration BAD_VALUE (R21). A watch that fires raises a WATCH notice with the watch, its kind, limit and action and
the quantity it compares (R20); what the change of held makes of the slot's fitness and drawability is handed on after
it (R12, R53, R63), and there is no other WATCH notice and no SLOT notice. That a channel's conditions come before
NO_SUPPLY is log 13. What the request's own packet does is logs 4 and 15. -/
def Obligations.WatchIsSet : Prop :=
  ∀ (tag : Byte) (s : State), takesRequests s →
    (∀ (i : SlotNo) (n : WatchNo) (arm : Bool) (k : WatchKind) (limit : BitVec 32) (a : WatchAction),
      let w : Watch :=
        { kind := k, limit := min 2000000 limit.toNat, action := a, state := if arm then .armed else .off }
      ∃ t,
        DoneWith
            (.setWatch tag
              ([BitVec.ofNat 8 i.val, BitVec.ofNat 8 n.ctorIdx, onOff (!arm), BitVec.ofNat 8 k.ctorIdx] ++
                u32 limit.toNat ++ [BitVec.ofNat 8 a.ctorIdx]))
            s t (u32 (min 2000000 limit.toNat)) [.slots, .routes, .trace, .pins] ∧
          otherSlots i s t ∧
          (let x := s.slot i
           let fires := arm && w.condition x
           let z := x.putWatch n (if fires then { w with state := .fired } else w)
           let details : Details := .watch n k w.limit a (w.quantity x)
           let arrived := s.requestArrives (List.replicate 9 0#8)
           let raised := if fires then arrived.raise .watch (.slot i) details else arrived
           let handed := (raised.putSlot i z).judgeFitness arrived i
           t.slot i = z ∧ sameRouting handed t ∧ t.notices = handed.notices ∧
             noticesWere [.slot, .watch] (if fires then [(.watch, .slot i, details)] else []) arrived.notices t)) ∧
      ∀ (fields : List Byte), fields.length = 9 →
        (15 < (byteAt fields 0).toNat → RefusedWith (.setWatch tag fields) s .badSubject) ∧
          ((byteAt fields 0).toNat ≤ 15 →
            1 < (byteAt fields 1).toNat ∨ 1 < (byteAt fields 2).toNat ∨ 2 < (byteAt fields 3).toNat ∨
                1 < (byteAt fields 8).toNat →
              RefusedWith (.setWatch tag fields) s .badValue)

/-- Grant Grace at SERVICE: in GRACE grace rises by the clamped amount, saturating; in SPENT it becomes the amount, the
slot returns to GRACE with a SLOT notice of the move, which carries the tenure and the causes (R10), its fitness is
handed on and its watches are compared, with a WATCH notice of each that fires; in any other state it is answered
BAD_STATE, above slot 15 BAD_SUBJECT; at OPERATE REFUSED_LEVEL (R22, R12, R19, R20). That W0 is compared before W1 is
log 41, that a channel's conditions come before NO_SUPPLY log 13. What the request's own packet does is logs 4 and 15.
-/
def Obligations.GraceIsGranted : Prop :=
  ∀ (tag : Byte) (i : SlotNo) (amount : BitVec 32) (s : State), takesRequests s →
    let c := max 1 (min 2000000 amount.toNat)
    let fields := BitVec.ofNat 8 i.val :: u32 amount.toNat
    let request : Instr := .grantGrace tag fields
    let arrived := s.requestArrives fields
    (s.requests.access = .operate → RefusedWith request s .refusedLevel) ∧
      (s.requests.access = .service →
        ((s.slot i).state = .grace →
          ∃ t,
            DoneWith request s t (u32 c) [.slots] ∧ otherSlots i s t ∧
              t.slot i = { s.slot i with grace := min 2000000 ((s.slot i).grace + c) } ∧
              t.notices = arrived.notices) ∧
          ((s.slot i).state = .spent →
            ∃ t,
              DoneWith request s t (u32 c) [.slots, .routes, .trace, .pins] ∧ otherSlots i s t ∧
                (let z := { s.slot i with state := .grace, grace := c, nonce := none, tag := none }
                 let handed := arrived.handedOn i z
                 t.slot i = (z.compared .w0).compared .w1 ∧ t.routes = handed.routes ∧ t.trace = handed.trace ∧
                   t.pins = handed.pins ∧
                   noticesWere [.slot, .watch]
                     ((.slot, .slot i, .slot .grace .spent (s.slot i).tenure (some (s.slot i).causes) none) ::
                       z.firings i)
                     arrived.notices t)) ∧
          ((s.slot i).state ≠ .grace → (s.slot i).state ≠ .spent → RefusedWith request s .badState) ∧
          ∀ (n : Byte) (rest : List Byte), 15 < n.toNat → rest.length = 4 →
            RefusedWith (.grantGrace tag (n :: rest)) s .badSubject)

/-! ### Requests about tables and settings -/

/-- Load Volume Table writes every entry of its list into the inactive bank, the later of two for one channel and
waveform set standing; its five checks in order (R33). Select Volume Bank makes the bank active and names it; the lines
in flight keep the volumes they copied; a bank other than A or B is answered BAD_VALUE (R34). The form of the echoed
volumes is log 46. What the request's own packet does is logs 4 and 15. -/
def Obligations.VolumeBanksAreLoadedAndSelected : Prop :=
  (∀ (tag : Byte) (fields : List Byte) (s : State), takesRequests s → fields.length = 2 + 8 * (byteAt fields 1).toNat →
    let vs := volumeFields fields
    (1 < (byteAt fields 0).toNat → RefusedWith (.loadVolumeTable tag fields) s .badValue) ∧
      ((byteAt fields 0).toNat ≤ 1 →
        (vs.length = 0 ∨ 12 < vs.length → RefusedWith (.loadVolumeTable tag fields) s .badValue) ∧
          (0 < vs.length → vs.length ≤ 12 →
            ((∃ v ∈ vs, 11 < v.channel) → RefusedWith (.loadVolumeTable tag fields) s .badSubject) ∧
              ((∀ v ∈ vs, v.channel ≤ 11) →
                ((∃ v ∈ vs, 3 < v.waveform) → RefusedWith (.loadVolumeTable tag fields) s .badValue) ∧
                  ((∀ v ∈ vs, v.waveform ≤ 3) →
                    let name : BankName := if byteAt fields 0 = 0#8 then .a else .b
                    (name = s.settings.active → RefusedWith (.loadVolumeTable tag fields) s .badState) ∧
                      (name ≠ s.settings.active →
                        ∃ t,
                          DoneWith (.loadVolumeTable tag fields) s t (vs.flatMap VolumeField.echo) [.settings] ∧
                            t.settings = s.settings.loadVolumes name vs ∧
                            t.settings.bank s.settings.active = s.settings.bank s.settings.active ∧
                            (∀ v ∈ vs, 10 ≤ v.volumes.v1 ∧ 10 ≤ v.volumes.v2 ∧ 10 ≤ v.volumes.v3) ∧
                            ∀ (c : Channel) (w : Fin 4),
                              ((t.settings.bank name)[c])[w] =
                                match vs.reverse.find? (fun v => v.channel == c.val && v.waveform == w.val) with
                                | some v => v.volumes
                                | none => ((s.settings.bank name)[c])[w])))))) ∧
    ∀ (tag : Byte) (s : State), takesRequests s →
      (∀ name : BankName,
        ∃ t,
          DoneWith (.selectVolumeBank tag [BitVec.ofNat 8 name.ctorIdx]) s t [BitVec.ofNat 8 name.ctorIdx] [.settings] ∧
            t.settings = { s.settings with active := name } ∧
            t.forward.flights.map Flight.volumes = s.forward.flights.map Flight.volumes ∧
            ∀ (c : Channel) (w : Byte) (h : w.toNat < 4),
              t.volumesFor c w = ((s.settings.bank name)[c])[w.toNat]) ∧
        ∀ b : Byte, 1 < b.toNat → RefusedWith (.selectVolumeBank tag [b]) s .badValue

/-- Load Temperature Table replaces the whole table, within its ranges, and echoes it; a change of the stale time
re-judges every fresh head from the time of its reading, and raises the TEMP notice of each that becomes stale by it,
with its last reading (R35, R36). That the heads are re-judged in ascending number is log 45, that a stale head stays
stale log 100. What the request's own packet does is logs 4 and 15. -/
def Obligations.TemperatureTableIsLoaded : Prop :=
  ∀ (tag : Byte) (fields : List Byte) (s : State), takesRequests s → fields.length = 37 →
    let table := tempTableOperand fields
    (∀ b : Fin 16,
        table.multipliers[b] = max 512 (min 2047 (fieldAt fields (2 * b.val) 2))) ∧
      table.base = (byteAt fields 32).toNat ∧ table.width = max 1 (min 32 (byteAt fields 33).toNat) ∧
      table.fallback = min 15 (byteAt fields 34).toNat ∧
      table.staleTime = max 10 (min 5000 (fieldAt fields 35 2)) ∧
      ∃ t,
        DoneWith (.loadTemperatureTable tag fields) s t table.bytes [.settings, .heads] ∧
          t.settings = { s.settings with temp := table } ∧
          (let rejudged (h : HeadNo) : Bool :=
             decide (table.staleTime ≠ s.settings.temp.staleTime) && (s.head h).staleTimer.isSome
           let late (h : HeadNo) : Bool := decide (table.staleTime < (s.time - (s.head h).readAt).toNat)
           (∀ h : HeadNo,
               t.head h =
                 if rejudged h = false then s.head h
                 else if late h then { s.head h with staleTimer := none }
                 else
                   { s.head h with staleTimer := some ((s.head h).readAt + BitVec.ofNat 32 table.staleTime) }) ∧
             t.notices =
               ((List.finRange 8).filter fun h => rejudged h && late h).foldl
                 (fun u h =>
                   u.take s.settings.mask[NoticeKind.temp.position] .temp (.head h)
                     (.temp false (s.head h).reading))
                 (s.requestArrives fields).notices)

/-- Set Pins replaces every pin setting and echoes it: the delays clamped, the enables, the lamps' sources and inverts
as stored. A level enable, an invert or a lamp source outside its list is answered BAD_VALUE, a source SLOTn_UNFIT with
n above 15 then BAD_SUBJECT (R182, R181). A running filter timer of a group whose delays changed expires when more than
the new delay has passed since its raw change, with the enables as they stood and with what FiltersHandOnTheirChanges
and PresenceStartsAndEndsTheTenure say of a filtered change, and else takes the new delay from there (R175, R182). An
enable that then changes while its input reads LOW changes the reported level: low seen is set, or cleared, and the
channels with source LEVEL_LOW and that default slot are judged (R177, R129, R53). The order of the timers is log 75,
that of the enables log 76, the slot byte of the echoed lamp sources log 81, the order of the delays log 86, that the
enables and the lamps come in ascending number in the fields and the echo log 99. What the
request's own packet does is logs 4 and 15. -/
def Obligations.PinSettingsAreReplaced : Prop :=
  ∀ (tag : Byte) (fields : List Byte) (s : State), takesRequests s → fields.length = 40 →
    (∀ o, setPinsOperand fields = .error o → RefusedWith (.setPins tag fields) s o) ∧
      (let badValue :=
         (∃ n : SlotNo, 1 < (byteAt fields (12 + n.val)).toNat) ∨
           (∃ n : Fin 4, 9 < (byteAt fields (28 + 3 * n.val)).toNat ∨ 1 < (byteAt fields (30 + 3 * n.val)).toNat)
       let badSubject :=
         ∃ n : Fin 4, byteAt fields (28 + 3 * n.val) = 9#8 ∧ 15 < (byteAt fields (29 + 3 * n.val)).toNat
       (badValue → setPinsOperand fields = .error .badValue) ∧
         (¬badValue → badSubject → setPinsOperand fields = .error .badSubject) ∧
         (¬badValue → ¬badSubject → ∃ cfg, setPinsOperand fields = .ok cfg)) ∧
      ∀ cfg : PinCfg, setPinsOperand fields = .ok cfg →
        let old := s.settings.pins
        let pinned (u : State) (k : PinCfg) : State := { u with settings := { u.settings with pins := k } }
        let delay (p : Pin) := if (s.filter p).raw then (cfg.groupDelays p).1 else (cfg.groupDelays p).2
        let shift (u : State) (p : Pin) : State :=
          match (s.filter p).timer with
          | none => u
          | some ft =>
            if cfg.groupDelays p = old.groupDelays p then u
            else if delay p < (s.time - ft.started).toNat then u.inputChanges p
            else
              u.putFilter p
                { s.filter p with
                  timer := some { ft with expiry := ft.started + BitVec.ofNat 32 (delay p) } }
        let shifted :=
          inputs.foldl shift
            (pinned (s.requestArrives fields) { cfg with levelEnable := old.levelEnable, lamps := old.lamps })
        let turned (i : SlotNo) : Bool :=
          cfg.levelEnable[i] != old.levelEnable[i] && (shifted.filter (.level i)).filtered
        let judged :=
          slotNos.foldl
            (fun u i =>
              if turned i then
                u.judgeChannels fun c =>
                  decide ((u.routeCfg c).source = .levelLow ∧ (u.routeCfg c).defaultSlot = some i)
              else u)
            (pinned shifted { cfg with lamps := old.lamps })
        ∃ t,
          DoneWith (.setPins tag fields) s t cfg.bytes
              [.settings, .slots, .lines, .sense, .routes, .trace, .digest, .history, .pins, .nvm] ∧
            t.settings = { s.settings with pins := cfg } ∧
            cfg.presenceAssert = min 10000 (fieldAt fields 0 2) ∧
            cfg.presenceRelease = min 10000 (fieldAt fields 2 2) ∧
            cfg.levelAssert = min 10000 (fieldAt fields 4 2) ∧
            cfg.levelRelease = min 10000 (fieldAt fields 6 2) ∧
            cfg.auxAssert = min 10000 (fieldAt fields 8 2) ∧
            cfg.auxRelease = min 10000 (fieldAt fields 10 2) ∧
            (∀ n : SlotNo, onOff cfg.levelEnable[n] = byteAt fields (12 + n.val)) ∧
            (∀ n : Fin 4,
              onOff (cfg.lamps[n]).invert = byteAt fields (30 + 3 * n.val) ∧
                ((byteAt fields (28 + 3 * n.val)).toNat < 9 →
                  [LampSource.off, .on, .anySlotUnfit, .anyChannelGated, .refillSeen, .wasteNear, .wasteFull,
                      .linkMinor, .linkMajor][(byteAt fields (28 + 3 * n.val)).toNat]? =
                    some (cfg.lamps[n]).source) ∧
                ∀ i : SlotNo, byteAt fields (28 + 3 * n.val) = 9#8 →
                  byteAt fields (29 + 3 * n.val) = BitVec.ofNat 8 i.val →
                    (cfg.lamps[n]).source = .slotUnfit i) ∧
            (∀ p ∈ inputs,
              let f := s.filter p
              ((f.timer = none ∨ cfg.groupDelays p = old.groupDelays p) → t.filter p = f) ∧
                ∀ ft, f.timer = some ft → cfg.groupDelays p ≠ old.groupDelays p →
                  t.filter p =
                    if delay p < (s.time - ft.started).toNat then
                      { raw := f.raw, filtered := f.raw, timer := none, changed := true }
                    else { f with timer := some { ft with expiry := ft.started + BitVec.ofNat 32 (delay p) } }) ∧
            t.pins.powerFail = s.pins.powerFail ∧
            (∀ i : SlotNo,
              t.senseOf i =
                if turned i then
                  { shifted.senseOf i with
                    lowSeen :=
                      cfg.levelEnable[i] &&
                        (decide ((shifted.slot i).state ≠ .empty) || (shifted.senseOf i).lowSeen) }
                else shifted.senseOf i) ∧
            t.routes = judged.routes ∧ t.trace = judged.trace ∧ t.pins = judged.pins ∧
            t.notices = judged.notices ∧ t.slots = shifted.slots ∧ t.lines = shifted.lines ∧
            t.digest = shifted.digest ∧ t.history = shifted.history ∧ t.nvm = shifted.nvm ∧
            ((∀ p ∈ inputs, (s.filter p).timer = none ∨ cfg.groupDelays p = old.groupDelays p) →
              keepsBut (requestBlocks ++ [.settings, .sense, .routes, .trace, .pins]) s t ∧
                (cfg.levelEnable = old.levelEnable →
                  keepsBut (requestBlocks ++ [.settings]) s t ∧ t.notices = (s.requestArrives fields).notices))

/-- Set Policy at SERVICE replaces every policy setting and echoes it; the quantities are clamped; only a changed
overdraw limit reaches the routes: every slot's fitness and drawability is judged afresh under it, and each change
handed on (R12); an enumeration outside its list is answered BAD_VALUE (R159). That the slots are judged in ascending
number is log 42, that a channel's conditions come before NO_SUPPLY log 13. The waste flags are judged afresh under the
thresholds, and each that changes raises its WASTE notice after what the limit hands on (R44); that WASTE_NEAR comes
before WASTE_FULL is log 54. What the request's own packet does is logs 4
and 15. -/
def Obligations.PolicyIsReplaced : Prop :=
  ∀ (tag : Byte) (fields : List Byte) (s : State), takesRequests s → s.requests.access = .service →
    fields.length = 27 →
      (1 < (byteAt fields 0).toNat ∨ 2 < (byteAt fields 1).toNat ∨ 3 < (byteAt fields 2).toNat →
        RefusedWith (.setPolicy tag fields) s .badValue) ∧
      ((byteAt fields 0).toNat ≤ 1 → (byteAt fields 1).toNat ≤ 2 → (byteAt fields 2).toNat ≤ 3 →
        ∃ (p : Policy) (t : State),
          setPolicyOperand fields = .ok p ∧ p.nonGenuine.ctorIdx = (byteAt fields 0).toNat ∧
            p.refill.ctorIdx = (byteAt fields 1).toNat ∧ p.bitRate.ctorIdx = (byteAt fields 2).toNat ∧
            p.graceVolume = min 2000000 (fieldAt fields 3 4) ∧ p.overdrawLimit = min 65535 (fieldAt fields 7 4) ∧
            p.checkpointStep = max 100 (min 50000 (fieldAt fields 11 4)) ∧
            p.wasteNear = max 1 (fieldAt fields 15 4) ∧ p.wasteFull = max 1 (fieldAt fields 19 4) ∧
            p.minorWindow = max 100 (min 60000 (fieldAt fields 23 2)) ∧
            p.majorWindow = max 100 (min 60000 (fieldAt fields 25 2)) ∧
            DoneWith (.setPolicy tag fields) s t p.bytes [.settings, .routes, .trace, .pins] ∧
            t.settings = { s.settings with policy := p } ∧
            (let arrived := s.requestArrives fields
             let judged :=
               (List.finRange 16).foldl (fun u i => State.judgeFitness u arrived i)
                 { arrived with settings := { s.settings with policy := p } }
             let near := if t.wasteNear = s.wasteNear then judged else judged.raiseWaste .near t.wasteNear
             let full := if t.wasteFull = s.wasteFull then near else near.raiseWaste .full t.wasteFull
             t.routes = judged.routes ∧ t.trace = judged.trace ∧ t.pins = judged.pins ∧ t.notices = full.notices ∧
               t.wasteNear = decide (p.wasteNear ≤ s.waste.counter) ∧
               t.wasteFull = decide (p.wasteFull ≤ s.waste.counter) ∧
               (p.overdrawLimit = s.policy.overdrawLimit →
                 t.routes = s.routes ∧ t.trace = s.trace ∧ t.pins = s.pins ∧ judged.notices = arrived.notices)))

/-- Clear History Entry at SERVICE: a valid entry becomes invalid, a slot that names it loses its history index, and a
write of its record is queued; no notice is raised; an invalid entry is answered BAD_STATE, a number above 63
BAD_SUBJECT; at OPERATE REFUSED_LEVEL (R133). What the request's own packet does is logs 4 and 15. -/
def Obligations.HistoryEntryIsCleared : Prop :=
  ∀ (tag : Byte) (n : EntryNo) (s : State), takesRequests s →
    let request : Instr := .clearHistoryEntry tag [BitVec.ofNat 8 n.val]
    (s.requests.access = .operate → RefusedWith request s .refusedLevel) ∧
      (s.requests.access = .service →
        (s.entry n = none → RefusedWith request s .badState) ∧
          (∀ b : Byte, 63 < b.toNat → RefusedWith (.clearHistoryEntry tag [b]) s .badSubject) ∧
          (s.entry n ≠ none →
            ∃ t,
              DoneWith request s t [] [.history, .slots, .nvm] ∧ t.entry n = none ∧
                (∀ m : EntryNo, m ≠ n → t.entry m = s.entry m) ∧ t.history.nextStamp = s.history.nextStamp ∧
                (∀ i : SlotNo,
                  t.slot i =
                    if (s.slot i).historyIndex = some n then { s.slot i with historyIndex := none } else s.slot i) ∧
                t.nvm = s.nvm.enqueue (.history n none) ∧
                t.notices = (s.requestArrives [BitVec.ofNat 8 n.val]).notices))

/-- Reset Waste at SERVICE sets the waste counter and the fine accumulator to 0, raises a WASTE notice for each flag
that becomes false, with the flag, its new value, the counter and both thresholds (R44), and queues a write of the waste
record; at OPERATE it is answered REFUSED_LEVEL (R46). That WASTE_NEAR comes before WASTE_FULL when both change, so that
the merged notice keeps the details of WASTE_FULL, is log 54. What the request's own packet does is logs 4 and 15. -/
def Obligations.WasteIsReset : Prop :=
  (∀ (s : State) (f : WasteFlag) (value : Bool),
    s.raiseWaste f value =
      { s with
        notices :=
          s.notices.take s.settings.mask[NoticeKind.waste.position] .waste .none
            (.waste f value s.waste.counter s.policy.wasteNear s.policy.wasteFull) }) ∧
  ∀ (tag : Byte) (s : State), takesRequests s → 0 < s.policy.wasteNear → 0 < s.policy.wasteFull →
    (s.requests.access = .operate → RefusedWith (.resetWaste tag []) s .refusedLevel) ∧
      (s.requests.access = .service →
        ∃ t,
          DoneWith (.resetWaste tag []) s t [] [.waste, .nvm] ∧ t.waste = ⟨0, 0⟩ ∧ t.wasteNear = false ∧
            t.wasteFull = false ∧ t.nvm = s.nvm.enqueue (.waste ⟨0, 0⟩) ∧
            let u := { s.requestArrives [] with waste := ⟨0, 0⟩ }
            let v := if s.wasteNear then u.raiseWaste .near false else u
            let w := if s.wasteFull then v.raiseWaste .full false else v
            t.notices = w.notices)

/-! ### The service level -/

/-- Get Unlock Nonce supplies a fresh nonce and the part serial; Unlock Service consumes the nonce, asks the Digest
Engine and holds a reply place; both are LOCKED_OUT while the lockout timer runs, and Unlock Service BAD_STATE during
an attempt or without a nonce (R161, R162, R74). Lock Service returns the level to OPERATE, makes the nonce absent and
marks an attempt withdrawn; it is answered with the level after it; a return from SERVICE raises LEVEL_ENDED (R165).
The nonce is the free value of the draw (log 6). What the request's own packet does is logs 4 and 15. -/
def Obligations.UnlockIsStartedAndWithdrawn : Prop :=
  (∀ (tag : Byte) (carried : List Byte) (s : State), takesRequests s → carried.length = 8 →
    (s.requests.lockout ≠ none →
      RefusedWith (.getUnlockNonce tag []) s .lockedOut ∧ RefusedWith (.unlockService tag carried) s .lockedOut) ∧
      (s.requests.lockout = none →
        (∃ t,
          Completes (.getUnlockNonce tag []) s t (requestBlocks ++ [.draws]) ∧ t.draws = s.draws + 1 ∧
            t.requests =
              { s.requests with
                nonce := some (Config.nonce s.draws)
                replies :=
                  s.requests.replies ++
                    [⟨tag, 0x18#8, .done, u64 (Config.nonce s.draws) ++ u64 s.nvm.identity.serial⟩] }) ∧
          (s.requests.attempt ≠ none ∨ s.requests.nonce = none →
            RefusedWith (.unlockService tag carried) s .badState) ∧
          ∀ n, s.requests.attempt = none → s.requests.nonce = some n →
            ∃ t,
              Completes (.unlockService tag carried) s t (requestBlocks ++ [.digest]) ∧
                t.requests =
                  { s.requests with
                    nonce := none
                    attempt :=
                      some { tag := BitVec.ofNat 64 (natOf carried), requestTag := tag, withdrawn := false } } ∧
                t.digest =
                  s.digest.request s.nvm.identity.key s.nvm.rootKeyGood 16
                    { kind := .unlock, tenure := 0,
                      message := [0x53#8, 0x56#8, 0x43#8] ++ u64 s.nvm.identity.serial ++ u64 n, slotKey := none })) ∧
    ∀ (tag : Byte) (s : State), takesRequests s →
      ∃ t,
        Completes (.lockService tag []) s t requestBlocks ∧
          t.requests =
            { s.requests with
              access := .operate, nonce := none
              attempt := s.requests.attempt.map fun a => { a with withdrawn := true }
              replies := s.requests.replies ++ [⟨tag, 0x1A#8, .done, [0x00#8]⟩] } ∧
          t.notices =
            if s.requests.access = .service then
              (s.requestArrives []).notices.take s.settings.mask[NoticeKind.unlock.position] .unlock .none
                (.unlock .levelEnded .operate s.requests.failedUnlocks (s.leftOf s.requests.lockout))
            else (s.requestArrives []).notices

/-- While the lockout timer is RUNNING, Get Unlock Nonce and Unlock Service are answered LOCKED_OUT and count for
nothing. Its expiry makes it IDLE and the count 0, and raises LOCKOUT_ENDED; requests are then judged so. A link loss
and Lock Service leave it, and start-up makes it IDLE (R164). The count at the expiry is log 2, what the forward buffer
sends meanwhile log 15. -/
def Obligations.LockoutEnds : Prop :=
  ∀ (tag : Byte) (carried : List Byte) (s : State), carried.length = 8 →
    (takesRequests s → s.requests.lockout ≠ none →
      RefusedWith (.getUnlockNonce tag []) s .lockedOut ∧ RefusedWith (.unlockService tag carried) s .lockedOut) ∧
      (∀ e, s.powered = true → s.requests.lockout = some e →
        ∃ t,
          CompletesFrom .lockoutTimerExpiry s (s.reach e) t [.requests, .notices] ∧
            t.requests = { s.requests with lockout := none, failedUnlocks := 0 } ∧
            t.notices =
              s.notices.take s.settings.mask[NoticeKind.unlock.position] .unlock .none
                (.unlock .lockoutEnded s.requests.access 0 0) ∧
            ¬RefusedWith (.getUnlockNonce tag []) t .lockedOut) ∧
      (∀ (arrived : List Byte) (t : State),
        exec (.linkLost arrived) s = .next t ∨ exec (.lockService tag []) s = .next t →
          t.requests.lockout = s.requests.lockout) ∧
      s.startUp.requests.lockout = none

/-! ### The store -/

/-- Program Root Key while the key is unprogrammed puts the carried key in force and queues the identity record; while
it is programmed or damaged it is answered BAD_STATE. Save Settings queues the settings image (R75, R184, R187). What
the request's own packet does is logs 4 and 15. -/
def Obligations.KeyAndSettingsAreQueued : Prop :=
  ∀ (tag : Byte) (key : List Byte) (s : State), takesRequests s → key.length = 16 →
    (s.nvm.identity.programmed = true ∨ s.nvm.damaged = true →
      RefusedWith (.programRootKey tag key) s .badState) ∧
      (s.nvm.identity.programmed = false → s.nvm.damaged = false →
        let identity : Identity := { s.nvm.identity with key := BitVec.ofNat 128 (natOf key), programmed := true }
        ∃ t,
          DoneWith (.programRootKey tag key) s t [] [.nvm] ∧
            t.nvm = { s.nvm with identity := identity }.enqueue (.identity identity)) ∧
      ∃ t, DoneWith (.saveSettings tag []) s t [] [.nvm] ∧ t.nvm = s.nvm.enqueue (.settings s.image)

/-- R185: a queued write replaces the pending write of its record in its place, or joins as the newest, and begins at
once when no write is in progress. Its completion leaves the record with its contents, and the oldest pending write
begins. The completion of the save's clean mark ends the save: SAVED while POWER_FAIL is asserted, start-up otherwise,
held back while the Restart's reply waits (R190). -/
def Obligations.WritesCompleteInOrder : Prop :=
  (∀ (m : Nvm) (w : RecordWrite),
    (m.inProgress = none → m.queue = [] → m.enqueue w = { m with inProgress := some (w, m.timing) }) ∧
      (m.inProgress ≠ none → (∀ p ∈ m.queue, p.record ≠ w.record) →
        m.enqueue w = { m with queue := m.queue ++ [w] }) ∧
      ∀ (before after : List RecordWrite) (p : RecordWrite), m.inProgress ≠ none → m.queue = before ++ p :: after →
        p.record = w.record → (∀ q ∈ before, q.record ≠ w.record) →
          m.enqueue w = { m with queue := before ++ w :: after }) ∧
    ∀ (s : State) (w : RecordWrite) (timing : WriteTiming), s.powered = true →
      s.nvm.inProgress = some (w, timing) →
        let written := { s with nvm := { s.nvm with store := s.nvm.store.write w, inProgress := none } }
        (w ≠ .cleanMark true ∨ s.nvm.saveState ≠ .saving →
          (s.nvm.queue = [] → exec .recordWriteComplete s = .next written) ∧
            ∀ (v : RecordWrite) (rest : List RecordWrite), s.nvm.queue = v :: rest →
              exec .recordWriteComplete s =
                .next
                  { written with
                    nvm := { written.nvm with inProgress := some (v, s.nvm.timing), queue := rest } }) ∧
          (w = .cleanMark true → s.nvm.saveState = .saving →
            (s.pins.powerFail.filtered = true →
              ∃ t,
                Completes .recordWriteComplete s t [.nvm] ∧ t.nvm.saveState = .saved ∧ t.nvm.saveCause = none ∧
                  t.nvm.store.cleanMark = { contents := some true, condition := .good }) ∧
              (s.pins.powerFail.filtered = false →
                (s.nvm.saveCause = some .restart → s.requests.restartWaits = true →
                  ∃ t, Completes .recordWriteComplete s t [.nvm] ∧ t.nvm.startUpHeld = true) ∧
                  (s.nvm.saveCause ≠ some .restart ∨ s.requests.restartWaits = false →
                    exec .recordWriteComplete s = .next written.startUp)))

/-- Restart in RUNNING is answered DONE and begins the save: POWER_SAVE on every channel; every line in flight
abandoned, its packet completed with zero levels and a poisoned check; 3 debits charged for each such line and 1 for
each channel with a residue, to the slot while its tenure is the latched one and to the orphan count otherwise; every
fine accumulator and remainder 0; the entry of each slot in GENUINE or DEPLETED given its drawn since checkpoint, with
its write queued; a write of the waste record queued; save writes, and the clean mark behind every pending write (R188,
R189, R144, R47, R40, R128, R190, R191). In any other save state it is answered BAD_STATE. That the clean mark stands
last also where a write of it was pending already is log 39. What the request's own packet does is logs 4 and 15. -/
def Obligations.RestartBeginsTheSave : Prop :=
  ∀ (tag : Byte) (s : State), takesRequests s →
    (s.nvm.saveState ≠ .running → RefusedWith (.restart tag []) s .badState) ∧
      (s.nvm.saveState = .running →
        ∃ t,
          Completes (.restart tag []) s t
              (requestBlocks ++
                [.slots, .lines, .meters, .routes, .trace, .digest, .history, .pins, .nvm]) ∧
            t.requests = s.requests.answered tag 0x1D#8 .done [] ∧
            SaveBegun s t .restart (s.requestArrives []).forward)

/-! ### The upstream forward lane -/

/-- A packet that is neither a request nor forwarded is received to its end, and counts once: a bad check, an unknown
kind and an oversize packet as a failure, a MGMT packet without a tag as good, a refused or short LINE by its check,
which is compared with the check of all its bytes; and how the counters and their grade timers follow (R136, R137,
R151, R152, R194). What the packet's symbols drain is log 15. Operands that are no such packet end none (log 3). -/
def Obligations.UnforwardedPacketsCount : Prop :=
  (∀ (s : State) (n : Nat) (payload : List Byte) (check : BitVec 16),
    let after (symbols : Nat) (judged : Bool) : State :=
      { s with
        forward := s.forward.send symbols
        link := s.linkAfter .idle (some judged) }
    let body (kind : Byte) := kind :: (word16 (BitVec.ofNat 16 payload.length) ++ payload)
    (withinPacket s →
      (crc16 (body 0x20#8) ≠ check →
        exec (.mgmtCheckFailed ⟨payload, check⟩) s = .next (after (payload.length + 5) false)) ∧
        (crc16 (body 0x20#8) = check → exec (.mgmtCheckFailed ⟨payload, check⟩) s = .next s) ∧
        exec (.unknownKindPacketEnd n) s = .next (after (n + 5) false) ∧
        exec (.oversizePacketEnd n) s = .next (after (n + 5) false) ∧
        exec (.mgmtWithoutTag n) s = .next (after (n + 5) true) ∧
        exec (.refusedLineEnd payload check) s =
          .next (after (payload.length + 5) (decide (crc16 (body 0x10#8) = check)))) ∧
      ∀ (header : List Byte) (left : Nat), s.powered = true → s.link.up = true →
        s.link.rx = .refusedLine header left →
          exec (.refusedLineEnd payload check) s =
            .next
              (if payload.length + 2 = left then after left (decide (crc16 (header ++ payload) = check)) else s)) ∧
    (∀ (g : Grade) (start : Time),
      (g.rise start).counter = min 255 (g.counter + 1) ∧ (g.rise start).leak = g.leak ∧
        (g.rise start).asserted = g.asserted ∧
        (g.rise start).timer = if g.counter = 0 then (if g.asserted then none else some start) else g.timer) ∧
    ∀ (g : Grade) (limit : Nat) (start : Time),
      (g.leaks limit start).asserted = g.asserted ∧
        (g.leak + 1 < limit → g.leaks limit start = { g with leak := g.leak + 1 }) ∧
        (limit ≤ g.leak + 1 →
          (g.leaks limit start).leak = 0 ∧ (g.leaks limit start).counter = g.counter - 1 ∧
            (g.leaks limit start).timer =
              if g.counter = 1 then (if g.asserted then some start else none) else g.timer)

/-- Between packets, a fill symbol or a start symbol restarts the link-lost timer while the link is UP; in LOST it
restores the link and raises RESTORED with the whole link picture; a start symbol begins a packet (R149, R152). In each
symbol time the forward transmitter sends one symbol of what the buffer holds, a start symbol before each packet's first
byte and a fill symbol when it holds nothing ready to send; so the backlog falls by one byte for each symbol time in
which nothing is placed and a byte is sent, and a LINE packet, its start symbol, its header and the rest of it, adds
nothing to what is to be sent (R138). That a received symbol is such a symbol time, that a start symbol takes one, and
that a line end takes symbol times early, is log 15. Data symbols of no packet, as the rest of a line that
the loss of the link ended, restart the timer in UP, restore nothing in LOST, and are discarded without a count (R149,
R150); that a rest of 6 bytes or more is such data where nothing has begun is log 88. -/
def Obligations.SymbolsKeepTheLink : Prop :=
  (∀ (s : State) (symbol : LaneSymbol), s.powered = true → (s.link.rx = .idle ∨ s.link.rx = .lostRest) →
    let command : Instr := match symbol with | .start => .startSymbolReceived | .fill => .fillSymbolReceived
    let forward := s.forward.send 1
    (s.link.up = true →
      exec command s = .next { s with forward := forward, link := s.linkAfter (rxAfter symbol) none }) ∧
      (s.link.up = false →
        exec command s =
          .next
            { s with
              forward := forward
              link := { s.linkAfter (rxAfter symbol) none with up := true }
              notices :=
                s.notices.take s.settings.mask[NoticeKind.link.position] .link .none
                  (.link .restored true s.link.minor.counter s.link.major.counter s.link.minor.asserted
                    s.link.major.asserted) })) ∧
    (∀ (s : State) (rest : List Byte) (check : BitVec 16), s.powered = true →
      let discarded : State :=
        { s with
          forward := s.forward.send (rest.length + 2)
          link := if s.link.up then s.linkAfter .idle none else { s.link with rx := .idle } }
      (s.link.rx = .lostRest ∨ (s.link.rx = .idle ∧ 6 ≤ rest.length) →
        exec (.refusedLineEnd rest check) s = .next discarded) ∧
        (s.link.rx = .lostRest ∨ s.link.rx = .idle →
          exec (.lineUpstreamEnd rest check) s = .next discarded)) ∧
    ∀ (f : Forward) (symbols : Nat), (∀ p ∈ f.buffer, p.placed.length ≤ p.total) →
      ((f.send symbols).toSend = f.toSend - (symbols - f.early) ∧ (f.send symbols).early = f.early - symbols ∧
        (f.send symbols).flights = f.flights) ∧
        f.backlog ≤ f.toSend ∧ (f.sends = .fill ↔ f.toSend = 0) ∧
        (f.early = 0 →
          (f.send 1).backlog =
            match f.sends with
            | .data _ => f.backlog - 1
            | _ => f.backlog) ∧
        ∀ (p : ForwardPacket) (rest : List Byte), f.early = 0 → 10 ≤ f.toSend → p.sent = 0 → p.placed.length = 9 →
          p.total = (p.placed ++ rest).length →
            let opened := (f.send 1).send 9
            Forward.toSend { opened with buffer := opened.buffer ++ [p] } = f.toSend ∧
              (Forward.send { opened with buffer := opened.buffer ++ [{ p with placed := p.placed ++ rest }] }
                  rest.length).toSend =
                f.toSend

/-- A packet cut by a symbol is one framing fault. A line whose header was taken fails: its level bytes that arrived are
placed, and counted in an open line, zero levels complete its length, and a poisoned check follows. The rest of an
abandoned line does not count (R136, R141, R142, R144, R135). That the bytes and the cutting symbol drain the forward
buffer is log 15, that the level bytes come with the command log 16. -/
def Obligations.PacketCutIsOneFault : Prop :=
  (∀ (s : State) (symbol : LaneSymbol) (arrived : List Byte), s.powered = true → s.link.up = true →
    let sent (f : Forward) := (f.send arrived.length).send 1
    ((s.link.rx = .receiving ∨ ∃ header left, s.link.rx = .refusedLine header left) →
      exec (.packetCut symbol arrived) s =
        .next
          { s with forward := sent s.forward, link := s.linkAfter (rxAfter symbol) (some false) }) ∧
      (∀ (earlier : List Flight) (l : Flight) (ahead : List ForwardPacket) (p : ForwardPacket), s.link.rx = .line →
        s.forward.flights = earlier ++ [l] → s.forward.buffer = ahead ++ [p] →
          let levels := arrived.take (l.nozzles / 4)
          let placed := p.placed ++ levelsPlaced l.blanked levels
          let counted (level : BitVec 2) := if l.blanked then 0 else countLevel level levels
          exec (.packetCut symbol arrived) s =
            .next
              { s with
                forward :=
                  sent
                    { s.forward with
                      buffer := ahead ++ [{ p with placed := placed }.poison]
                      flights :=
                        earlier ++
                          [{ l with
                             n1 := counted 1, n2 := counted 2, n3 := counted 3, upstream := .failed }] }
                link := s.linkAfter (rxAfter symbol) (some false) }) ∧
      (s.link.rx = .abandonedLine →
        exec (.packetCut symbol arrived) s =
          .next
            { s with forward := sent s.forward, link := s.linkAfter (rxAfter symbol) none })) ∧
    ∀ p : ForwardPacket, 2 ≤ p.total →
      let body := p.placed.take (p.total - 2)
      let whole := body ++ List.replicate (p.total - 2 - body.length) 0x00#8
      p.poison = { p with placed := whole ++ word16 (~~~crc16 whole) } ∧ p.poison.placed.length = p.total

/-- A HEAD packet with a good check is placed whole behind the packets in the forward buffer, or dropped with
FORWARD_FULL when its bytes are not free; with a bad check it is dropped and counts as a failure (R137, R138). Room is
judged after the packet's own symbols have drained the buffer (log 15), so FORWARD_FULL needs more than 1024 bytes and
start symbols to be sent before them, where a line end has taken no symbol time early. That the packet counts before its
notice is raised, so that the notice carries the counters with it, is log 61. -/
def Obligations.HeadPacketIsForwarded : Prop :=
  ∀ (s : State) (payload : List Byte) (check : BitVec 16), withinPacket s →
    let body := 0x30#8 :: (word16 (BitVec.ofNat 16 payload.length) ++ payload)
    let forward := s.forward.send (payload.length + 5)
    (crc16 body ≠ check →
      exec (.headPacketEnd payload check) s =
        .next { s with forward := forward, link := s.linkAfter .idle (some false) }) ∧
      (crc16 body = check → payload.length + 5 ≤ forward.free →
        exec (.headPacketEnd payload check) s =
          .next
            { s with
              forward :=
                { forward with
                  buffer :=
                    forward.buffer ++
                      [{ placed := body ++ word16 check, total := payload.length + 5, sent := 0, live := false }] }
              link := s.linkAfter .idle (some true) }) ∧
      (crc16 body = check → forward.free < payload.length + 5 →
        let link := s.linkAfter .idle (some true)
        exec (.headPacketEnd payload check) s =
          .next
            { s with
              forward := forward
              link := link
              notices :=
                s.notices.take s.settings.mask[NoticeKind.link.position] .link .none
                  (.link .forwardFull true link.minor.counter link.major.counter link.minor.asserted
                    link.major.asserted) })

/-! ### Lines -/

/-- A header is refused by the first of CHANNEL, COUNT, LENGTH and NO_ROOM: a LINE_REFUSED notice, and nothing else but
the lane and its timer (R139). NO_ROOM is judged on the buffer that the header's 9 symbols have drained (log 15). -/
def Obligations.LineHeaderIsRefused : Prop :=
  ∀ (s : State) (channel : Byte) (lineNumber : BitVec 16) (set : Byte) (nozzles length : BitVec 16), withinPacket s →
    6 ≤ length.toNat → length.toNat ≤ 518 →
      let forward := s.forward.send 9
      let refused (r : RefuseReason) (subject : Subject) (configured : Option Nat) : Prop :=
        exec (.lineHeader channel lineNumber set nozzles length) s =
          .next
            { s with
              forward := forward
              link :=
                s.linkAfter
                  (.refusedLine
                    (0x10#8 :: (word16 length ++ [channel] ++ word16 lineNumber ++ [set] ++ word16 nozzles))
                    (length.toNat + 5 - 9))
                  none
              notices :=
                s.notices.take s.settings.mask[NoticeKind.lineRefused.position] .lineRefused subject
                  (.lineRefused r channel lineNumber nozzles configured) }
      (11 < channel.toNat → refused .channel .none none) ∧
        ∀ c : Channel, channel.toNat = c.val →
          let configured := (s.routeCfg c).nozzles
          (nozzles.toNat ≠ configured → refused .count (.channel c) (some configured)) ∧
            (nozzles.toNat = configured → length.toNat ≠ 6 + nozzles.toNat / 4 →
              refused .length (.channel c) (some configured)) ∧
            (nozzles.toNat = configured → length.toNat = 6 + nozzles.toNat / 4 →
              forward.free < length.toNat + 5 → refused .noRoom (.channel c) (some configured))

/-- A header that passes its tests opens a line: the gate decision, the slot with its tenure, the volumes and the head
are latched; last line, settle count and lines blanked follow, with the GATE notice of a settle count that comes to 0
(R64); the header bytes are placed as received (R140, R65, R66, R29, R31). Free volumes stand for a waveform set above 3
(log 8), and the header's symbols have drained the buffer (log 15). -/
def Obligations.LineHeaderOpensALine : Prop :=
  ∀ (s : State) (c : Channel) (lineNumber : BitVec 16) (set : Byte) (nozzles length : BitVec 16), withinPacket s →
    nozzles.toNat = (s.routeCfg c).nozzles → length.toNat = 6 + nozzles.toNat / 4 → length.toNat ≤ 518 →
      let forward := s.forward.send 9
      let r := s.route c
      let opened := decide (r.gate = ⟨false, false, false, false, false⟩)
      length.toNat + 5 ≤ forward.free →
        ∃ t,
          Completes (.lineHeader (BitVec.ofNat 8 c.val) lineNumber set nozzles length) s t
              [.link, .forward, .notices, .routes, .meters, .draws] ∧
            t.link = s.linkAfter .line none ∧
            t.forward.early = forward.early ∧ t.forward.held = forward.held ∧
            t.forward.flights =
              s.forward.flights ++
                [{ channel := c, lineNumber := lineNumber, source := r.active.map fun i => (i, (s.slot i).tenure),
                   volumes := s.volumesFor c set, head := (s.routeCfg c).head, blanked := !opened,
                   nozzles := nozzles.toNat, n1 := 0, n2 := 0, n3 := 0, upstream := .arriving }] ∧
            t.forward.buffer =
              forward.buffer ++
                [{ placed :=
                     0x10#8 ::
                       (word16 length ++ [BitVec.ofNat 8 c.val] ++ word16 lineNumber ++ [set] ++ word16 nozzles),
                   total := length.toNat + 5, sent := 0, live := true }] ∧
            otherRoutes c s t ∧
            t.route c =
              { r with
                lastLine := some lineNumber, settleCount := r.settleCount - 1
                gate := if r.settleCount = 1 then { r.gate with settle := false } else r.gate } ∧
            otherMeters c s t ∧
            t.meter c =
              { s.meter c with linesBlanked := (s.meter c).linesBlanked + if opened then 0 else 1 } ∧
            t.draws = s.draws + (if set.toNat < 4 then 0 else 1) ∧
            t.notices = s.gateRaised s.notices c r.gate (t.route c).gate

/-- A line's upstream end judges its check, counts it once, records it and the drop counts of an open line, and
completes the packet: the received check, the correct check of a blanked line, or a poisoned one (R142, R141, R30,
R137). What the symbols drain is log 15, that the level bytes come with the end log 16. -/
def Obligations.LineUpstreamEndCompletesThePacket : Prop :=
  (∀ (s : State) (levels : List Byte) (check : BitVec 16) (earlier : List Flight) (l : Flight)
    (ahead : List ForwardPacket) (p : ForwardPacket),
    s.powered = true → s.link.up = true → s.link.rx = .line → s.forward.flights = earlier ++ [l] →
      s.forward.buffer = ahead ++ [p] → levels.length = l.nozzles / 4 →
        let good := decide (crc16 (p.placed ++ levels) = check)
        let counted (level : BitVec 2) := if l.blanked then 0 else countLevel level levels
        exec (.lineUpstreamEnd levels check) s =
          .next
            { s with
              link := s.linkAfter .idle (some good)
              forward :=
                Forward.send
                  { s.forward with
                    buffer := ahead ++ [p.complete l.blanked good levels check]
                    flights :=
                      earlier ++
                        [{ l with
                           n1 := counted 1, n2 := counted 2, n3 := counted 3
                           upstream := if good then .good else .failed }] }
                  (levels.length + 2) }) ∧
    ∀ (p : ForwardPacket) (levels : List Byte) (check : BitVec 16),
      let zeros := p.placed ++ List.replicate levels.length 0x00#8
      p.complete false true levels check = { p with placed := p.placed ++ levels ++ word16 check } ∧
        p.complete false false levels check =
          { p with placed := p.placed ++ levels ++ word16 (~~~crc16 (p.placed ++ levels)) } ∧
        p.complete true true levels check = { p with placed := zeros ++ word16 (crc16 zeros) } ∧
        p.complete true false levels check = { p with placed := zeros ++ word16 (~~~crc16 zeros) }

/-- A line end takes the oldest line from its record. An open line whose check was GOOD is metered: band, scaled volume,
fine accumulator, debits, full-line run, class, waste; any other line meters zero (R143, R31, R37-R41, R43). The debits
go to the slot latched at the header while its tenure is the latched one, where each is applied by the slot's state, and
to the orphan count otherwise, and hands on what it brings (R40, R13 to R17). A line end that changes a waste flag
raises its WASTE notice, and one that takes the waste counter across a multiple of 1000 queues a write of the waste
record (R44, R45). That the notices of the debits come first is log 20, that WASTE_NEAR comes before WASTE_FULL log 54.
The symbols that leave with its check are accounted against the symbol times in which they leave (R138): those held have
had theirs, the others' are taken early (log 15). -/
def Obligations.LineEndMetersTheLine : Prop :=
  (∀ (f : Forward) (later : List Flight),
    (∀ (ahead : List ForwardPacket) (p : ForwardPacket) (behind : List ForwardPacket),
      f.buffer = ahead ++ p :: behind → p.live = true → (∀ q ∈ ahead, q.live = false) →
        (f.endLine later).buffer = behind) ∧
      (f.endLine later).flights = later ∧
      unsentSymbols (f.endLine later).buffer + f.held + (f.endLine later).early =
        unsentSymbols f.buffer + (f.endLine later).held + f.early) ∧
  ∀ (s : State) (l : Flight) (later : List Flight), s.powered = true → s.forward.flights = l :: later →
    let forward := s.forward.endLine later
    ((l.blanked = true ∧ l.upstream ≠ .arriving) ∨ l.upstream = .failed →
      exec .lineEnd s = .next { s with forward := forward }) ∧
      (l.blanked = false → l.upstream = .good →
        let m := s.meter l.channel
        let cfg := s.routeCfg l.channel
        let table := s.settings.temp
        let band :=
          match (s.head l.head).staleTimer, (s.head l.head).reading with
          | some _, some reading => if reading < table.base then 0 else min 15 ((reading - table.base) / table.width)
          | _, _ => table.fallback
        let raw := l.n1 * l.volumes.v1 + l.n2 * l.volumes.v2 + l.n3 * l.volumes.v3
        let scaled := raw * table.multipliers.toList.getD band 0 + m.remainder
        let fine := m.fine + scaled / 1024
        let debits := fine / 100000000
        let full := decide (l.nozzles - (l.n1 + l.n2 + l.n3) ≤ cfg.fullAllowance)
        let run := if full then min 16 (m.run + 1) else 0
        let service := full && decide (cfg.runLength ≤ run)
        let charged : Option SlotNo :=
          match l.source with
          | some (i, tenure) => if (s.slot i).tenure = tenure then some i else none
          | none => none
        ∃ t,
          Completes .lineEnd s t
              [.forward, .meters, .slots, .lines, .digest, .routes, .trace, .history, .pins, .nvm, .notices,
                .waste] ∧
            t.forward = forward ∧ otherMeters l.channel s t ∧
            t.meter l.channel =
              { m with
                fine := fine % 100000000, remainder := scaled % 1024, run := run
                classifier := if service then .service else .print
                metered := m.metered + BitVec.ofNat 32 debits
                service := if service then m.service + BitVec.ofNat 32 debits else m.service
                orphan := if charged.isSome then m.orphan else orphanAfter debits m.orphan
                linesMetered := m.linesMetered + 1, lastCharge := l.source, lastBand := some band } ∧
            t.waste =
              (if service then
                { fine := (s.waste.fine + scaled / 1024) % 100000000
                  counter := min u32Max (s.waste.counter + (s.waste.fine + scaled / 1024) / 100000000) }
              else s.waste) ∧
            (let metered :=
               State.putMeter { s with forward := forward } l.channel
                 { m with
                   fine := fine % 100000000, remainder := scaled % 1024, run := run
                   classifier := if service then .service else .print, linesMetered := m.linesMetered + 1
                   lastBand := some band }
             let debited := State.emitDebits debits metered l.channel l.source
             let counted := { debited with waste := t.waste }
             let near := if t.wasteNear = s.wasteNear then counted else counted.raiseWaste .near t.wasteNear
             let full := if t.wasteFull = s.wasteFull then near else near.raiseWaste .full t.wasteFull
             t.slots = debited.slots ∧ t.lines = debited.lines ∧ t.digest = debited.digest ∧
               t.routes = debited.routes ∧ t.trace = debited.trace ∧ t.pins = debited.pins ∧
               t.history = debited.history ∧ t.notices = full.notices ∧
               t.nvm =
                 (if s.waste.counter / 1000 < t.waste.counter / 1000 then debited.nvm.enqueue (.waste t.waste)
                 else debited.nvm)) ∧
            (charged = none ∨ debits = 0 → t.slots = s.slots) ∧
            ∀ i : SlotNo,
              (charged = some i →
                (t.slot i).counts = (s.slot i).countsAfter debits s.policy.overdrawLimit ∧
                  (t.slot i).tenure = (s.slot i).tenure ∧ (t.slot i).serial = (s.slot i).serial ∧
                  (t.slot i).present = (s.slot i).present) ∧
                (charged ≠ some i → t.slot i = s.slot i ∨ t.slot i = { s.slot i with historyIndex := none }))

/-- The Slot Table applies a debit by the slot's state: remaining and drawn since checkpoint in GENUINE, overdraw or
unbacked in DEPLETED, grace in GRACE, unbacked in every other state; the last microlitre makes DEPLETED or SPENT; each
debit changes exactly one of the four counts by 1 (R13, R14, R15, R16, R17). The ARMED watches are compared, and one
whose condition is true fires, with its WATCH notice (R19, R20). DEPLETED, SPENT and overdraw at the limit each raise
their SLOT notice; what changes of fitness and drawability is handed on, and at the limit the slot feeds no channel
(R12, R63). A checkpoint becomes due by depletion or by the step, and begins on an idle line with its request of a write
tag (R23, R24, R105, R107). Entry into DEPLETED adds the mark DEPLETED to the entry of the slot's serial, found or
built, which becomes the most recent, with its write queued (R126, R118). The debits of a line are emitted one at a
time: each goes to the latched slot while its tenure is the latched one, and to the orphan count otherwise, and counts
as metered, and as service under SERVICE (R40). That W0 is compared before W1 is log 41, that a channel's conditions
come before NO_SUPPLY log 13, what the SLOT notice of overdraw at the limit carries log 53. -/
def Obligations.DebitsAreAppliedByState : Prop :=
  (∀ (s : State) (i : SlotNo),
    let x := s.slot i
    let y := (s.applyDebit i).slot i
    let limit := s.policy.overdrawLimit
    (x.state = .genuine → 0 < x.remaining.getD 0 →
      y.remaining = some (x.remaining.getD 0 - 1) ∧ y.drawn = min u32Max (x.drawn + 1) ∧
        y.state = (if x.remaining.getD 0 = 1 then .depleted else .genuine) ∧ y.overdraw = x.overdraw ∧
        y.grace = x.grace ∧ y.unbacked = x.unbacked) ∧
      (x.state = .depleted →
        y.remaining = x.remaining ∧ y.drawn = x.drawn ∧ y.state = .depleted ∧ y.grace = x.grace ∧
          (x.overdraw < limit → y.overdraw = x.overdraw + 1 ∧ y.unbacked = x.unbacked) ∧
          (limit ≤ x.overdraw → y.overdraw = x.overdraw ∧ y.unbacked = min u32Max (x.unbacked + 1))) ∧
      (x.state = .grace → 0 < x.grace →
        y.grace = x.grace - 1 ∧ y.state = (if x.grace = 1 then .spent else .grace) ∧ y.remaining = x.remaining ∧
          y.drawn = x.drawn ∧ y.overdraw = x.overdraw ∧ y.unbacked = x.unbacked) ∧
      (x.state ∉ [.genuine, .depleted, .grace] →
        y.unbacked = min u32Max (x.unbacked + 1) ∧ y.state = x.state ∧ y.remaining = x.remaining ∧
          y.drawn = x.drawn ∧ y.overdraw = x.overdraw ∧ y.grace = x.grace) ∧
      (y.tenure = x.tenure ∧ y.serial = x.serial ∧ y.present = x.present) ∧
      keepsBut [.slots, .lines, .digest, .routes, .trace, .history, .pins, .nvm, .notices] s (s.applyDebit i)) ∧
  (∀ (s : State) (i : SlotNo),
    let t := s.applyDebit i
    let limit := s.policy.overdrawLimit
    let x := s.slot i
    let z := x.debited limit
    t.slot i = { (z.compared .w0).compared .w1 with historyIndex := (t.slot i).historyIndex } ∧
      noticesWere [.slot, .watch] (x.debitNotice limit i ++ z.firings i) s.notices t ∧
      (let handed := s.handedOn i z
       t.routes = handed.routes ∧ t.trace = handed.trace ∧ t.pins = handed.pins) ∧
      (∀ c : Channel, (s.route c).gate.noSupply = s.noSupply c → (t.route c).gate.noSupply = t.noSupply c) ∧
      (x.state = .depleted → x.overdraw + 1 = limit →
        ∀ c : Channel,
          t.drawable i c = false ∧
            ((s.route c).active = some i → s.drawable i c = true →
              t.route c = { s.route c with gate := { (s.route c).gate with noSupply := true } }))) ∧
  (∀ (s : State) (i : SlotNo),
    let t := s.applyDebit i
    let z := (s.slot i).debited s.policy.overdrawLimit
    let begins := s.debitMakesDue i && (s.line i).takesCheckpoint
    otherLines i s t ∧ (s.debitMakesDue i = false → t.line i = s.line i) ∧
      (s.debitMakesDue i = true → (s.line i).state ≠ .idle →
        t.line i = { s.line i with pendCheckpoint := true }) ∧
      (begins = true → t.line i = (s.line i).checkpointing z) ∧
      t.digest = (if begins then s.digestWithWriteTag s.digest i z else s.digest)) ∧
  (∀ (s : State) (i : SlotNo),
    let t := s.applyDebit i
    let x := s.slot i
    let marks := x.runsDry s.policy.overdrawLimit && x.serial.isSome
    (marks = false →
      t.history = s.history ∧ t.nvm = s.nvm ∧ otherSlots i s t ∧ (t.slot i).historyIndex = x.historyIndex) ∧
      (∀ j : SlotNo, j ≠ i → t.slot j = s.slot j ∨ t.slot j = { s.slot j with historyIndex := none }) ∧
      ∀ serial : Serial, marks = true → x.serial = some serial →
        ∃ n e,
          (t.slot i).historyIndex = some n ∧ t.entry n = some e ∧
            (match s.history.lookup serial with
              | some found => n = found ∧ ∃ f, s.entry n = some f ∧ e = { f with depletedMark := true, stamp := e.stamp }
              | none => e = { x.historyEntry serial with depletedMark := true, stamp := e.stamp }) ∧
            t.history.nextStamp = e.stamp + 1 ∧
            (∀ (m : EntryNo) (f : HistoryEntry), m ≠ n → t.entry m = some f →
              ∃ before, s.entry m = some before ∧ f = { before with stamp := f.stamp }) ∧
            t.nvm.queuedSince s.nvm (.history n (some e))) ∧
  ∀ (s : State) (c : Channel) (source : Option (SlotNo × Tenure)),
    State.emitDebits 0 s c source = s ∧
      (∀ n : Nat, State.emitDebits (n + 1) s c source = State.emitDebits n (s.emitDebit c source) c source) ∧
      s.emitDebit c source =
        let charged : Option SlotNo :=
          match source with
          | some (i, tenure) => if (s.slot i).tenure = tenure then some i else none
          | none => none
        let u :=
          match charged with
          | some i => s.applyDebit i
          | none => s.putMeter c { s.meter c with orphan := min u32Max ((s.meter c).orphan + 1) }
        u.putMeter c
          { u.meter c with
            metered := (u.meter c).metered + 1
            service := if (u.meter c).classifier = .service then (u.meter c).service + 1 else (u.meter c).service }

/-! ### The link -/

/-- The loss of the link: LOST, no timer, no packet in progress (of a refused line that was, what is still to come is
data without a packet, R149); every line in flight abandoned, its packet completed with zero levels for those not
received and a poisoned check, while the packets held go on being sent; the level OPERATE, the nonce absent, an attempt
withdrawn; a checkpoint due for each slot with microlitres drawn, which begins on an idle line with its request of a
write tag; the Link Monitor's counters unchanged; a LINK notice (R150, R144, R138, R165, R23, R105, R107). The count at
the expiry is log 2, what is sent meanwhile log 15, that the level bytes come with the command log 16, the order of the
slots log 43. -/
def Obligations.LinkLossEndsLines : Prop :=
  ∀ (s : State) (arrived : List Byte) (e : Time), s.powered = true → s.link.up = true → s.link.timer = some e →
    let placed := if s.link.rx = .line then s.forward.levelsPlaced arrived else s.forward
    let expired := State.reach { s with forward := placed.send arrived.length } e
    let due (i : SlotNo) := (s.slot i).state.supplies && decide (0 < (s.slot i).drawn)
    let begins (i : SlotNo) := due i && (s.line i).takesCheckpoint
    ∃ t,
      CompletesFrom (.linkLost arrived) s expired t [.link, .forward, .requests, .notices, .lines, .digest] ∧
        t.link =
          { s.link with
            up := false, timer := none
            rx := match s.link.rx with | .refusedLine _ _ => .lostRest | _ => .idle } ∧
        t.forward = expired.forward.abandoned ∧
        t.requests =
          { s.requests with
            access := .operate, nonce := none
            attempt := s.requests.attempt.map fun a => { a with withdrawn := true } } ∧
        t.notices =
          (let ended :=
             if s.requests.access = .service then
               s.notices.take s.settings.mask[NoticeKind.unlock.position] .unlock .none
                 (.unlock .levelEnded .operate s.requests.failedUnlocks (expired.leftOf s.requests.lockout))
             else s.notices
           ended.take s.settings.mask[NoticeKind.link.position] .link .none
             (.link .lost false s.link.minor.counter s.link.major.counter s.link.minor.asserted
               s.link.major.asserted)) ∧
        (∀ i : SlotNo,
          (due i = false → t.line i = s.line i) ∧
            (due i = true → (s.line i).state ≠ .idle → t.line i = { s.line i with pendCheckpoint := true }) ∧
            (begins i = true → t.line i = (s.line i).checkpointing (s.slot i))) ∧
        t.digest =
          ((List.finRange 16).filter begins).foldl (fun d i => s.digestWithWriteTag d i (s.slot i)) s.digest

/-- A HEADRET within 128 bytes on the lane waits from its kind and length on, and takes the rest of its bytes as they
came; a larger one is discarded with RETURN_OVERSIZE, another kind without; a cut one is padded with zeros and poisoned;
only a whole HEAD STATUS with a good check gives readings, and 255 is none; a stale head becomes fresh, with a TEMP
notice, in ascending head number (R145, R146, R195, R36). -/
def Obligations.HeadReturnsAreForwardedAndRead : Prop :=
  ∀ s : State, s.powered = true →
    (∀ (kind : Byte) (length : BitVec 16), s.returns.rx ≠ .headret →
      (kind = 0x31#8 → length.toNat ≤ 123 →
        exec (.headretStart kind length) s =
          .next
            { s with
              returns :=
                { s.returns with
                  buffer :=
                    s.returns.buffer ++
                      [{ bytes := 0x31#8 :: word16 length, total := length.toNat + 5, arriving := true }]
                  rx := .headret } }) ∧
        (kind = 0x31#8 → 123 < length.toNat →
          exec (.headretStart kind length) s =
            .next
              { s with
                returns := { s.returns with rx := .discarding }
                notices :=
                  s.notices.take s.settings.mask[NoticeKind.link.position] .link .none
                    (.link .returnOversize s.link.up s.link.minor.counter s.link.major.counter
                      s.link.minor.asserted s.link.major.asserted) }) ∧
        (kind ≠ 0x31#8 →
          exec (.headretStart kind length) s = .next { s with returns := { s.returns with rx := .discarding } })) ∧
      ∀ (ahead : List HeadReturn) (h : HeadReturn), s.returns.rx = .headret → s.returns.buffer = ahead ++ [h] →
        (∀ arrived : List Byte,
          let body := (h.bytes ++ arrived).take (h.total - 2)
          let whole := body ++ List.replicate (h.total - 2 - body.length) 0x00#8
          exec (.headretCut arrived) s =
            .next
              { s with
                returns :=
                  { s.returns with
                    buffer :=
                      ahead ++ [{ h with bytes := whole ++ word16 (~~~crc16 whole), arriving := false }]
                    rx := .idle } }) ∧
          ∀ (payload : List Byte) (check : BitVec 16), payload.length + 5 = h.total →
            let returns :=
              { s.returns with
                buffer := ahead ++ [{ h with bytes := h.bytes ++ payload ++ word16 check, arriving := false }]
                rx := .idle }
            let status :=
              byteAt payload 0 = 0x01#8 ∧ 9 ≤ payload.length ∧
                crc16 (0x31#8 :: (word16 (BitVec.ofNat 16 payload.length) ++ payload)) = check
            (¬status → exec (.headretEnd payload check) s = .next { s with returns := returns }) ∧
              (status →
                ∃ t,
                  Completes (.headretEnd payload check) s t [.returns, .heads, .notices] ∧ t.returns = returns ∧
                    t.notices =
                      (List.finRange 8).foldl
                        (fun u n =>
                          let v := (byteAt payload (1 + n.val)).toNat
                          if v = 255 ∨ (s.head n).staleTimer.isSome then u
                          else
                            u.take s.settings.mask[NoticeKind.temp.position] .temp (.head n) (.temp true (some v)))
                        s.notices ∧
                    ∀ n : HeadNo,
                      let v := (byteAt payload (1 + n.val)).toNat
                      t.head n =
                        if v = 255 then s.head n
                        else
                          { reading := some v, readAt := s.time
                            staleTimer := some (s.after s.settings.temp.staleTime) })

/-- At the end of every packet on the upstream return lane, a FILL among them, the arbiter chooses the oldest HEADRET,
else the oldest reply, else the oldest notice, else FILL, as the packet that has ended leaves them: a HEADRET that has
been sent leaves the return buffer, a reply the reply list; a notice leaves the queue, or stays with the occurrences
merged since its grant (R147, R148, R168). A HEADRET that still arrives has not ended. The start-up held back for the
Restart's reply follows when that reply has been sent (R190, R191); that it follows with POWER_FAIL asserted too is log
32, the model's choice. -/
def Obligations.ReturnLaneChoosesTheNextPacket : Prop :=
  let chosen (u : State) : State :=
    match u.returns.buffer, u.requests.replies, u.notices.queue with
    | _ :: _, _, _ => { u with returns := { u.returns with grant := .headret } }
    | [], r :: _, _ => { u with returns := { u.returns with grant := .reply r.packet } }
    | [], [], n :: _ =>
      { u with
        returns := { u.returns with grant := .notice n.packet }, notices := { u.notices with merged := some 0 } }
    | [], [], [] => { u with returns := { u.returns with grant := .fill } }
  (∀ s : State, s.powered = true → s.nvm.startUpHeld = false →
    (s.returns.grant = .fill → exec .returnPacketEnd s = .next (chosen s)) ∧
      (∀ (bytes : List Byte) (r : Reply) (rest : List Reply), s.returns.grant = .reply bytes →
        s.requests.replies = r :: rest →
          exec .returnPacketEnd s = .next (chosen { s with requests := { s.requests with replies := rest } })) ∧
      (∀ (bytes : List Byte) (n : Notice) (rest : List Notice), s.returns.grant = .notice bytes →
        s.notices.queue = n :: rest →
          let queue :=
            match s.notices.merged with
            | some (k + 1) => { n with count := min 255 (k + 1) } :: rest
            | _ => rest
          exec .returnPacketEnd s =
            .next (chosen { s with notices := { s.notices with queue := queue, merged := none } })) ∧
      ∀ (h : HeadReturn) (rest : List HeadReturn), s.returns.grant = .headret → s.returns.buffer = h :: rest →
        exec .returnPacketEnd s =
          .next (if h.arriving then s else chosen { s with returns := { s.returns with buffer := rest } })) ∧
    ∀ (s : State) (bytes : List Byte) (r : Reply) (rest : List Reply), s.powered = true →
      s.nvm.startUpHeld = true → s.returns.grant = .reply bytes → s.requests.replies = r :: rest →
        (∀ x ∈ rest, x.code ≠ 0x1D#8 ∨ x.outcome ≠ .done) →
          exec .returnPacketEnd s = .next (State.startUp { s with requests := { s.requests with replies := rest } })

/-- A grade timer's expiry changes the grade, leaves its timer idle and raises a LINK notice (R152); a stale timer's
expiry makes the head stale, with its last reading kept, and raises a TEMP notice (R36). The count at an expiry is log
2, what the forward buffer sends meanwhile log 15. -/
def Obligations.GradeAndStaleTimersExpire : Prop :=
  ∀ (s : State) (e : Time), s.powered = true →
    (s.link.minor.timer = some e →
      ∃ t,
        CompletesFrom (.gradeTimerExpiry .minor) s (s.reach e) t [.link, .notices] ∧
          t.link =
            { s.link with
              minor := { s.link.minor with asserted := !s.link.minor.asserted, timer := none } } ∧
          t.notices =
            s.notices.take s.settings.mask[NoticeKind.link.position] .link .none
              (.link (if s.link.minor.asserted then .minorCleared else .minorAsserted) s.link.up
                s.link.minor.counter s.link.major.counter (!s.link.minor.asserted) s.link.major.asserted)) ∧
      (s.link.major.timer = some e →
        ∃ t,
          CompletesFrom (.gradeTimerExpiry .major) s (s.reach e) t [.link, .notices] ∧
            t.link =
              { s.link with
                major := { s.link.major with asserted := !s.link.major.asserted, timer := none } } ∧
            t.notices =
              s.notices.take s.settings.mask[NoticeKind.link.position] .link .none
                (.link (if s.link.major.asserted then .majorCleared else .majorAsserted) s.link.up
                  s.link.minor.counter s.link.major.counter s.link.minor.asserted (!s.link.major.asserted))) ∧
      ∀ h : HeadNo, (s.head h).staleTimer = some e →
        ∃ t,
          CompletesFrom (.staleTimerExpiry h) s (s.reach e) t [.heads, .notices] ∧
            t.head h = { s.head h with staleTimer := none } ∧ (∀ k : HeadNo, k ≠ h → t.head k = s.head k) ∧
            t.notices =
              s.notices.take s.settings.mask[NoticeKind.temp.position] .temp (.head h)
                (.temp false (s.head h).reading)

/-! ### Timers of the routes -/

/-- In PENDING_ALT with the switch timer WAITING, a judging that finds D false cancels the waiting, whether the
alternate is fit or not: the timer becomes IDLE and the channel returns to ON_DEFAULT. One that finds D true and the
alternate fit takes the switch to it at once with cause CONDITION. Else the channel goes on waiting. In ON_DEFAULT with
D false a judging changes nothing (R56). The cancelling raises its ROUTE notice (R61); the notices of the switch are in
JudgingActsOnTheRouteState. -/
def Obligations.WaitingSwitchFollowsTheAlternate : Prop :=
  (∀ (s : State) (c : Channel), (s.route c).state = .pendingAlt → (s.route c).switchTimer = .waiting →
    let r := s.route c
    let cfg := s.routeCfg c
    let t := s.judgeRoute c
    otherRoutes c s t ∧
      (s.leaveDefault c = false →
        keepsBut [.routes, .notices] s t ∧ t.route c = { r with state := .onDefault, switchTimer := .idle } ∧
          t.notices = s.routeRaised s.notices c (.route .onDefault false)) ∧
      (s.leaveDefault c = true → s.alternateFit c = true →
        keepsBut [.routes, .trace, .pins, .notices] s t ∧
          t.route c =
            { r with
              state := .onAlternate, active := cfg.alternate, switchTimer := .idle, settleCount := cfg.settleLines
              gate := { r.gate with settle := decide (0 < cfg.settleLines), noSupply := false } } ∧
          t.trace =
            (if 10 ≤ s.trace.length then s.trace.drop 1 else s.trace) ++
              [⟨c, r.active, cfg.alternate, .condition, r.lastLine, s.time⟩] ∧
          t.pins = { s.pins with valves := s.pins.valves.set c (!cfg.valveInvert) }) ∧
      (s.leaveDefault c = true → s.alternateFit c = false → t = s)) ∧
    ∀ (s : State) (c : Channel), (s.route c).state = .onDefault → s.leaveDefault c = false → s.judgeRoute c = s

/-- In ON_ALTERNATE, an alternate that is not fit while the default is fit is forced return, whatever D is: the switch
timer starts with the switch delay, the channel enters PENDING_DEFAULT, and a running revert timer is cancelled. With a
switch delay of 0 the switch to the default is taken at once, and D is judged on arrival: where D is true and an
alternate is configured, the channel is in PENDING_ALT again, and its timer waits (R57). The entry into PENDING_DEFAULT
raises its ROUTE notice (R61); the notices of the switch are in JudgingActsOnTheRouteState. -/
def Obligations.ForcedReturnLeavesTheAlternate : Prop :=
  ∀ (s : State) (c : Channel), (s.route c).state = .onAlternate → s.alternateFit c = false →
    s.defaultFit c = true →
      let r := s.route c
      let cfg := s.routeCfg c
      let t := s.judgeRoute c
      otherRoutes c s t ∧
        (0 < cfg.switchDelay →
          keepsBut [.routes, .notices] s t ∧
            t.route c =
              { r with
                state := .pendingDefault, switchTimer := .running (s.after cfg.switchDelay)
                revertTimer := none } ∧
            t.notices = s.routeRaised s.notices c (.route .pendingDefault false)) ∧
        (cfg.switchDelay = 0 →
          keepsBut [.routes, .trace, .pins, .notices] s t ∧ (t.route c).active = cfg.defaultSlot ∧
            (t.route c).revertTimer = none ∧ (t.route c).settleCount = cfg.settleLines ∧
            (t.route c).gate = { r.gate with settle := decide (0 < cfg.settleLines), noSupply := false } ∧
            t.trace =
              (if 10 ≤ s.trace.length then s.trace.drop 1 else s.trace) ++
                [⟨c, r.active, cfg.defaultSlot, .forcedReturn, r.lastLine, s.time⟩] ∧
            t.pins = { s.pins with valves := s.pins.valves.set c cfg.valveInvert } ∧
            (s.leaveDefault c = false ∨ cfg.alternate = none →
              (t.route c).state = .onDefault ∧ (t.route c).switchTimer = .idle) ∧
            (s.leaveDefault c = true → cfg.alternate ≠ none →
              (t.route c).state = .pendingAlt ∧ (t.route c).switchTimer = .waiting))

/-- A judging acts on the route state. In ON_DEFAULT with D true and an alternate configured the switch timer starts,
and a delay of 0 expires at once (R54). In PENDING_ALT with the timer running D false cancels it, and else it runs on
(R55); the notices are stated here of the switch that a WAITING timer takes (R56). In ON_ALTERNATE without forced return
the revert condition starts the revert timer, or takes the switch at once with a delay of 0, and its end cancels the
timer (R59); the notices are stated here of a forced return with a switch delay of 0 (R57). In PENDING_DEFAULT the end
of forced return cancels the switch timer, and revert is judged (R58). One event is judged on each named channel (R53).
A change of a slot's fitness reaches the channels that name it as default or alternate, which are judged; a change of
its drawability reaches NO_SUPPLY of the channels it feeds; every change of a slot's state raises its SLOT notice and
hands on both (R10, R12, R53, R63). Each change of route state raises its ROUTE notice, a switch with the slot left, the
new one, the cause and the new state (R60, R61), and a change of the highest-ranked gate reason a GATE notice (R64).
That the conditions come before NO_SUPPLY, and the channels in ascending number, is log 13, that a switch raises one
GATE notice log 11. -/
def Obligations.JudgingActsOnTheRouteState : Prop :=
  (∀ (s : State) (c : Channel),
    let r := s.route c
    let cfg := s.routeCfg c
    let t := s.judgeRoute c
    let raised (state : RouteState) : NoticeUnit := s.routeRaised s.notices c (.route state false)
    let told (x : Route) : Prop :=
      keepsBut [.routes, .notices] s t ∧ t.route c = x ∧ t.notices = raised x.state
    let switched (u : NoticeUnit) (target : Option SlotNo) (cause : SwitchCause) (valve : Bool) : Prop :=
      t.notices = s.switchRaised u c r target cause (t.route c).state (t.route c).gate ∧
      keepsBut [.routes, .trace, .pins, .notices] s t ∧ (t.route c).active = target ∧
        (t.route c).settleCount = cfg.settleLines ∧
        (t.route c).gate =
          { r.gate with settle := decide (0 < cfg.settleLines), noSupply := false } ∧
        t.trace =
          (if 10 ≤ s.trace.length then s.trace.drop 1 else s.trace) ++
            [⟨c, r.active, target, cause, r.lastLine, s.time⟩] ∧
        t.pins = { s.pins with valves := s.pins.valves.set c valve }
    let judged (u : NoticeUnit) (x : Route) : Prop :=
      (s.revertHolds c = false → t.route c = { x with revertTimer := none }) ∧
        (s.revertHolds c = true →
          (x.revertTimer ≠ none → t.route c = x) ∧
            (x.revertTimer = none →
              (0 < cfg.revertDelay →
                t.route c = { x with revertTimer := some (s.after cfg.revertDelay) }) ∧
                (cfg.revertDelay = 0 →
                  switched u cfg.defaultSlot .revert cfg.valveInvert ∧ (t.route c).state = .onDefault ∧
                    (t.route c).revertTimer = none))) ∧
        (s.revertHolds c = false ∨ x.revertTimer ≠ none ∨ 0 < cfg.revertDelay →
          keepsBut [.routes, .notices] s t ∧ t.notices = u)
    otherRoutes c s t ∧ s.forcedReturn c = (!s.alternateFit c && s.defaultFit c) ∧
      s.revertHolds c = (cfg.revertEnable && !s.leaveDefault c && s.defaultFit c && s.alternateFit c) ∧
      (r.state = .unrouted → t = s) ∧
      (r.state = .onDefault →
        (s.leaveDefault c = false ∨ cfg.alternate = none → t = s) ∧
          (s.leaveDefault c = true → cfg.alternate ≠ none →
            (0 < cfg.switchDelay →
              told { r with state := .pendingAlt, switchTimer := .running (s.after cfg.switchDelay) }) ∧
              (cfg.switchDelay = 0 → s.alternateFit c = false →
                keepsBut [.routes, .notices] s t ∧
                  t.route c = { r with state := .pendingAlt, switchTimer := .waiting } ∧
                  t.notices = s.routeRaised (raised .pendingAlt) c (.route .pendingAlt true)) ∧
              (cfg.switchDelay = 0 → s.alternateFit c = true →
                switched (raised .pendingAlt) cfg.alternate .condition (!cfg.valveInvert) ∧
                  (t.route c).state = .onAlternate ∧ (t.route c).switchTimer = .idle))) ∧
      (∀ e, r.state = .pendingAlt → r.switchTimer = .running e →
        (s.leaveDefault c = false → told { r with state := .onDefault, switchTimer := .idle }) ∧
          (s.leaveDefault c = true → t = s)) ∧
      (r.state = .pendingAlt → r.switchTimer = .waiting → s.leaveDefault c = true → s.alternateFit c = true →
        switched s.notices cfg.alternate .condition (!cfg.valveInvert)) ∧
      (r.state = .onAlternate → s.forcedReturn c = false → judged s.notices r) ∧
      (r.state = .onAlternate → s.forcedReturn c = true → cfg.switchDelay = 0 →
        let back :=
          s.switchRaised (raised .pendingDefault) c r cfg.defaultSlot .forcedReturn .onDefault (t.route c).gate
        t.notices =
          if s.leaveDefault c = true ∧ cfg.alternate ≠ none then
            s.routeRaised (s.routeRaised back c (.route .pendingAlt false)) c (.route .pendingAlt true)
          else back) ∧
      (r.state = .pendingDefault →
        (s.forcedReturn c = true → t = s) ∧
          (s.forcedReturn c = false →
            judged (raised .onAlternate) { r with state := .onAlternate, switchTimer := .idle }))) ∧
    (∀ (s : State) (named : Channel → Bool) (c : Channel),
      (s.judgeChannels named).route c = (if named c = true then (s.judgeRoute c).route c else s.route c) ∧
        s.judgeChannels named = (List.finRange 12).foldl (fun u d => if named d = true then u.judgeRoute d else u) s) ∧
    (∀ (before s : State) (i : SlotNo) (c : Channel),
      let cfg := s.routeCfg c
      let t := State.handFitness before i s c
      let fitness := before.fit i c ≠ s.fit i c ∧ (cfg.defaultSlot = some i ∨ cfg.alternate = some i)
      let drawability := before.drawable i c ≠ s.drawable i c
      let supplied (u : State) : Prop :=
        keepsBut [.routes, .notices] u t ∧ otherRoutes c u t ∧
          t.route c = { u.route c with gate := { (u.route c).gate with noSupply := !s.drawable i c } } ∧
          t.notices = s.gateRaised u.notices c (u.route c).gate (t.route c).gate
      (¬fitness →
        (¬drawability ∨ (s.route c).active ≠ some i → t = s) ∧
          (drawability → (s.route c).active = some i → supplied s)) ∧
        (fitness →
          (¬drawability ∨ ((s.judgeRoute c).route c).active ≠ some i → t = s.judgeRoute c) ∧
            (drawability → ((s.judgeRoute c).route c).active = some i → supplied (s.judgeRoute c)))) ∧
    (∀ (before s : State) (i : SlotNo) (c : Channel),
      (s.judgeFitness before i).route c = (State.handFitness before i s c).route c ∧
        s.judgeFitness before i = (List.finRange 12).foldl (State.handFitness before i) s) ∧
    ∀ (s : State) (i : SlotNo) (new : Slot) (failure : Option (TransKind × FailKind)) (c : Channel),
      let x := new.leaveChallenge
      let causes := if x.state = .grace ∨ x.state = .rejected then some x.causes else none
      let noted :=
        { s.putSlot i x with
          notices :=
            s.notices.take s.settings.mask[NoticeKind.slot.position] .slot (.slot i)
              (.slot x.state (s.slot i).state x.tenure causes failure) }
      (s.changeSlot i new failure).route c = (State.handFitness s i (s.putSlot i x) c).route c ∧
        (s.changeSlot i new failure).notices = (noted.judgeFitness s i).notices

/-- The switch timer's expiry in PENDING_ALT switches to a fit alternate and waits for an unfit one; in PENDING_DEFAULT
it switches to the default; the revert timer's expiry switches to the default. A switch moves the valve, loads the
settle count, writes a trace entry at the expiry's time, and D is judged on arrival: where it holds, the channel is
PENDING_ALT again (R55, R58, R59, R60, R54). A switch raises its ROUTE notice with the slot left, the new slot, the
cause and the new state (R60), and a GATE notice where the highest-ranked gate reason changes (R64; that it is one, and
the second, is log 11). The count at the expiry is log 2, what the forward buffer sends meanwhile
log 15. -/
def Obligations.RouteTimersExpire : Prop :=
  ∀ (s : State) (c : Channel) (e : Time), s.powered = true →
    let r := s.route c
    let cfg := s.routeCfg c
    let now := (s.reach e).time
    let traced (target : Option SlotNo) (cause : SwitchCause) : List TraceEntry :=
      (if 10 ≤ s.trace.length then s.trace.drop 1 else s.trace) ++ [⟨c, r.active, target, cause, r.lastLine, now⟩]
    let gate : Gate :=
      { r.gate with
        settle := decide (0 < cfg.settleLines)
        noSupply := match cfg.defaultSlot with | none => true | some i => !s.drawable i c }
    let arrives (command : Instr) (cause : SwitchCause) : Prop :=
      let back := s.switchRaised s.notices c r cfg.defaultSlot cause .onDefault gate
      let leaves := s.routeRaised back c (.route .pendingAlt false)
      ∃ t,
        CompletesFrom command s (s.reach e) t [.routes, .trace, .pins, .notices] ∧ otherRoutes c s t ∧
          (t.route c).hold = r.hold ∧
          (s.leaveDefault c = false ∨ cfg.alternate = none →
            (t.route c).state = .onDefault ∧ (t.route c).active = cfg.defaultSlot ∧
              (t.route c).settleCount = cfg.settleLines ∧
              (cause = .revert → (t.route c).revertTimer = none) ∧
              (cause = .forcedReturn → (t.route c).switchTimer = .idle) ∧
              t.trace = traced cfg.defaultSlot cause ∧ (t.route c).gate = gate ∧ t.notices = back ∧
              t.pins = { s.pins with valves := s.pins.valves.set c cfg.valveInvert }) ∧
          (s.leaveDefault c = true → cfg.alternate ≠ none → 0 < cfg.switchDelay →
            (t.route c).state = .pendingAlt ∧ (t.route c).active = cfg.defaultSlot ∧
              (t.route c).switchTimer = .running (now + BitVec.ofNat 32 cfg.switchDelay) ∧
              (t.route c).settleCount = cfg.settleLines ∧ t.trace = traced cfg.defaultSlot cause ∧
              (t.route c).gate = gate ∧ t.notices = leaves ∧
              t.pins = { s.pins with valves := s.pins.valves.set c cfg.valveInvert }) ∧
          (s.leaveDefault c = true → cfg.alternate ≠ none → cfg.switchDelay = 0 →
            if s.alternateFit c then
              (t.route c).state = .onAlternate ∧ (t.route c).active = cfg.alternate ∧
                t.notices =
                  s.switchRaised leaves c { r with active := cfg.defaultSlot, gate := gate } cfg.alternate .condition
                    .onAlternate (t.route c).gate ∧
                t.pins = { s.pins with valves := s.pins.valves.set c (!cfg.valveInvert) }
            else
              (t.route c).state = .pendingAlt ∧ (t.route c).active = cfg.defaultSlot ∧
                (t.route c).switchTimer = .waiting ∧
                t.notices = s.routeRaised leaves c (.route .pendingAlt true))
    (r.switchTimer = .running e →
      (r.state = .pendingAlt →
        (s.alternateFit c = true →
          ∃ t,
            CompletesFrom (.switchTimerExpiry c) s (s.reach e) t [.routes, .trace, .pins, .notices] ∧
              otherRoutes c s t ∧
              t.route c =
                { r with
                  state := .onAlternate, active := cfg.alternate, switchTimer := .idle
                  settleCount := cfg.settleLines
                  gate :=
                    { r.gate with
                      settle := decide (0 < cfg.settleLines)
                      noSupply := false } } ∧
              t.trace = traced cfg.alternate .condition ∧
              t.notices = s.switchRaised s.notices c r cfg.alternate .condition .onAlternate (t.route c).gate ∧
              t.pins = { s.pins with valves := s.pins.valves.set c (!cfg.valveInvert) }) ∧
          (s.alternateFit c = false →
            ∃ t,
              CompletesFrom (.switchTimerExpiry c) s (s.reach e) t [.routes, .notices] ∧
                otherRoutes c s t ∧ t.route c = { r with switchTimer := .waiting } ∧
                t.notices =
                  s.notices.take s.settings.mask[NoticeKind.route.position] .route (.channel c)
                    (.route .pendingAlt true))) ∧
        (r.state = .pendingDefault → arrives (.switchTimerExpiry c) .forcedReturn)) ∧
      (r.revertTimer = some e → arrives (.revertTimerExpiry c) .revert)

/-! ### Pins -/

/-- A raw level that comes to differ from the filtered level starts the filter timer with the delay for the new level;
one that returns to it cancels the timer; with a delay of 0 the filtered level follows at once, and hands on what the
expiry of its timer at this count does (R174, R173, R176 to R178). POWER_FAIL's time is its own (R179; log 24). -/
def Obligations.RawLevelsStartAndCancelFilters : Prop :=
  ∀ (s : State) (p : Pin) (asserted : Bool), s.powered = true →
    let f := s.filter p
    let cfg := s.settings.pins
    let delay :=
      match p, asserted with
      | .presence _, true => cfg.presenceAssert
      | .presence _, false => cfg.presenceRelease
      | .level _, true => cfg.levelAssert
      | .level _, false => cfg.levelRelease
      | .aux _, true => cfg.auxAssert
      | .aux _, false => cfg.auxRelease
      | .powerFail, _ => 0
    (f.raw = asserted → exec (.pinRawChange p asserted) s = .next s) ∧
      (f.raw ≠ asserted → f.filtered = asserted →
        exec (.pinRawChange p asserted) s = .next (s.putFilter p { f with raw := asserted, timer := none })) ∧
      (f.raw ≠ asserted → f.filtered ≠ asserted →
        (0 < delay ∨ p = .powerFail →
          exec (.pinRawChange p asserted) s =
            .next
              (s.putFilter p
                { f with raw := asserted, timer := some ⟨s.time, s.time + BitVec.ofNat 32 delay⟩ })) ∧
          (delay = 0 → p ≠ .powerFail →
            ∃ t,
              exec (.pinRawChange p asserted) s = .next t ∧
                t.filter p = { raw := asserted, filtered := asserted, timer := none, changed := true } ∧
                t.time = s.time ∧ t.forward = s.forward ∧
                ∀ arrived : List Byte,
                  exec (.filterTimerExpiry ⟨p, arrived⟩)
                      (s.putFilter p { f with raw := asserted, timer := some ⟨s.time, s.time⟩ }) =
                    .next { t with forward := s.forward.send 0 }))

/-- The expiry of a PRESENCE filter: asserted in EMPTY, the slot is PROBING with its probe placed; released, the tenure
ends: the cartridge's fields are cleared, FIRED watches are ARMED again, unbacked stays, the line aborts, the Digest
Engine drops the slot, the sense record is cleared (R176, R2, R3, R6, R88, R110, R129). Each move raises its SLOT
notice, with the new tenure on the move to EMPTY (R10), and then hands on the changes of the slot's fitness and
drawability (R12, R53, R63). That a channel's conditions come before NO_SUPPLY is log 13, the count at the expiry log 2,
what the forward buffer sends meanwhile log 15, that an abort in QUIET starts a new turnaround log 51, that a turnaround
is one whole millisecond from the command log 31. -/
def Obligations.PresenceStartsAndEndsTheTenure : Prop :=
  ∀ (s : State) (i : SlotNo) (arrived : List Byte) (ft : FilterTimer), s.powered = true →
    (s.filter (.presence i)).timer = some ft →
    let x := s.slot i
    let raw := (s.filter (.presence i)).raw
    let now := (s.reach ft.expiry).time
    let settled : Filter := { raw := raw, filtered := raw, timer := none, changed := true }
    let changes := (s.reach ft.expiry).putFilter (.presence i) settled
    (raw = true → x.state = .empty →
      ∃ t,
        CompletesFrom (.filterTimerExpiry ⟨.presence i, arrived⟩) s (s.reach ft.expiry) t
            [.pins, .slots, .lines, .routes, .trace, .notices] ∧
          t.filter (.presence i) = settled ∧
          otherSlots i s t ∧ t.slot i = { x with state := .probing, present := true } ∧ otherLines i s t ∧
          slotMoves changes t i (t.slot i) (.slot .probing .empty x.tenure none none) ∧
          ((s.line i).state ≠ .idle → t.line i = { s.line i with pendProbe := some .identify }) ∧
          ((s.line i).state = .idle →
            (t.line i).state = .break ∧ (t.line i).trans = some (Transaction.start .identify x.tenure))) ∧
      (raw = false → x.state ≠ .empty →
        ∃ t,
          CompletesFrom (.filterTimerExpiry ⟨.presence i, arrived⟩) s (s.reach ft.expiry) t
              [.pins, .slots, .lines, .sense, .digest, .routes, .trace, .notices] ∧
            t.filter (.presence i) = settled ∧
            otherSlots i s t ∧
            slotMoves changes t i (t.slot i) (.slot .empty x.state (x.tenure + 1) none none) ∧
            (let y := t.slot i
             y.state = .empty ∧ y.present = false ∧ y.tenure = x.tenure + 1 ∧ y.serial = none ∧ y.ink = none ∧
              y.nominal = none ∧ y.reported = none ∧ y.remaining = none ∧ y.writeCount = none ∧
              y.writtenRemaining = none ∧ y.derivedKey = none ∧ y.nonce = none ∧ y.tag = none ∧
              y.historyIndex = none ∧ y.overdraw = 0 ∧ y.grace = 0 ∧ y.drawn = 0 ∧ y.writeFailures = 0 ∧
              y.causes = ⟨false, false, false, false, false, false⟩ ∧ y.held = false ∧ y.unbacked = x.unbacked ∧
              y.w0 = (if x.w0.state = .fired then { x.w0 with state := .armed } else x.w0) ∧
              y.w1 = (if x.w1.state = .fired then { x.w1 with state := .armed } else x.w1)) ∧
            t.senseOf i = ⟨false, false⟩ ∧ t.digest = s.digest.drop i (fun _ => true) ∧ otherLines i s t ∧
            (let k := t.line i
             k.trans = none ∧ k.pendProbe = none ∧ k.pendChallenge = none ∧ k.pendCheckpoint = false ∧
              k.probeHold = none ∧ k.lastFailure = none ∧
              ((s.line i).trans ≠ none → k.state = .quiet ∧ k.timer = some (now + 1))))

/-- The expiry of the other filters. A LEVEL input that is not enabled hands nothing on. An enabled one that turns LOW
sets low seen while the slot is not EMPTY; one that turns WET clears it, and with low seen set is a finding but in
EMPTY, PROBING and AUTHENTICATING: a REFILL notice, LEVEL_SENSE_RISE among the causes, the state by the refill policy,
and the REFILL mark of a proven slot's entry. The channels with source LEVEL_LOW and that default slot are judged. An
AUX input is judged on the channels that name it, and its PIN notice is raised. POWER_FAIL asserted begins the save in
RUNNING, and released is start-up in SAVED (R177, R129, R130, R9, R178, R53, R179, R188, R180). The count at the expiry
is log 2, what the forward buffer sends meanwhile log 15, that level bytes of an arriving line come with the command log
16. That POWER_FAIL released in SAVED is start-up also while the reply of a Restart has not been sent is log 83, that
the clean mark of a save stands last in the queue also where a write of it was pending already log 39. The channels are
judged in ascending number (R53). -/
def Obligations.FiltersHandOnTheirChanges : Prop :=
  ∀ (s : State) (p : Pin) (arrived : List Byte) (ft : FilterTimer), s.powered = true → (s.filter p).timer = some ft →
    let f := s.filter p
    let expired := s.reach ft.expiry
    let settled := expired.putFilter p { f with filtered := f.raw, timer := none, changed := true }
    let command : Instr := .filterTimerExpiry ⟨p, arrived⟩
    (p ≠ .powerFail → exec command s = .next (expired.inputChanges p)) ∧
      (∀ i : SlotNo, p = .level i →
        let x := s.slot i
        let sees (c : Channel) := (s.routeCfg c).source = .levelLow ∧ (s.routeCfg c).defaultSlot = some i
        let finds := (s.senseOf i).lowSeen = true ∧ x.state ∉ [.empty, .probing, .authenticating]
        (s.settings.pins.levelEnable[i] = false → exec command s = .next settled) ∧
          (s.settings.pins.levelEnable[i] = true → (f.raw = true ∨ ¬finds) →
            ∃ t,
              CompletesFrom command s settled t [.pins, .sense, .routes, .trace, .notices] ∧
                t.filter p = settled.filter p ∧
                t.senseOf i =
                  (if f.raw = true then
                    { s.senseOf i with lowSeen := decide (x.state ≠ .empty) || (s.senseOf i).lowSeen }
                  else { s.senseOf i with lowSeen := false }) ∧
                (let judged := settled.judgeChannels fun c => decide (sees c)
                 t.notices = judged.notices ∧ t.trace = judged.trace ∧ t.pins = judged.pins) ∧
                ∀ c : Channel, t.route c = if sees c then (settled.judgeRoute c).route c else s.route c) ∧
          (s.settings.pins.levelEnable[i] = true → f.raw = false → finds →
            let policy := s.policy.refill
            let volume := s.policy.graceVolume
            let graced := policy = .grace ∧ x.state ∈ [.genuine, .depleted, .spent]
            ∃ t,
              CompletesFrom command s settled t
                  [.pins, .sense, .slots, .lines, .routes, .trace, .notices, .history, .nvm] ∧
                t.filter p = settled.filter p ∧ t.senseOf i = { s.senseOf i with lowSeen := false } ∧
                noticesFollow
                  (s.notices.take s.settings.mask[NoticeKind.refill.position] .refill (.slot i)
                    (.levelSense x.serial policy x.state))
                  t ∧
                (let y := t.slot i
                 y.causes = { x.causes with levelSenseRise := true } ∧
                  y.state =
                    (if graced then (if volume = 0 then .spent else .grace)
                    else if policy = .reject ∧ x.state ∈ [.genuine, .depleted, .grace, .spent] then .rejected
                    else x.state) ∧
                  y.grace = (if graced then volume else x.grace) ∧ y.remaining = x.remaining ∧
                  y.overdraw = x.overdraw ∧ y.unbacked = x.unbacked ∧ y.serial = x.serial ∧ y.tenure = x.tenure) ∧
                (∀ j : SlotNo, j ≠ i → t.slot j = s.slot j ∨ t.slot j = { s.slot j with historyIndex := none }) ∧
                (let judged := (settled.levelSenseFinding i).judgeChannels fun c => decide (sees c)
                 t.notices = judged.notices ∧ t.trace = judged.trace ∧ t.pins = judged.pins) ∧
                (∀ c : Channel,
                  t.route c =
                    if sees c then ((settled.levelSenseFinding i).judgeRoute c).route c
                    else (settled.levelSenseFinding i).route c) ∧
                ((s.senseOf i).proven = false → t.history = s.history ∧ t.nvm = s.nvm) ∧
                ∀ serial, (s.senseOf i).proven = true → x.serial = some serial →
                  ∃ n e,
                    (t.slot i).historyIndex = some n ∧ t.entry n = some e ∧ e.serial = serial ∧ e.refillMark = true)) ∧
      (∀ n : Fin 4, p = .aux n →
        ∃ t,
          CompletesFrom command s settled t [.pins, .routes, .trace, .notices] ∧ t.filter p = settled.filter p ∧
            (∀ c : Channel,
              t.route c =
                if (s.routeCfg c).source.aux = some n then (settled.judgeRoute c).route c else s.route c) ∧
            (let judged := settled.judgeChannels fun c => decide ((s.routeCfg c).source.aux = some n)
             t.trace = judged.trace ∧ t.pins = judged.pins ∧
               t.notices =
                 judged.notices.take s.settings.mask[NoticeKind.pin.position] .pin (.pin p)
                   (.pin f.raw expired.time)) ∧
            ((∀ c : Channel, (s.routeCfg c).source.aux ≠ some n) →
              t.trace = s.trace ∧ t.pins = settled.pins ∧
                t.notices =
                  s.notices.take s.settings.mask[NoticeKind.pin.position] .pin (.pin p) (.pin f.raw expired.time))) ∧
      (p = .powerFail →
        let settled := expired.putFilter p { f with filtered := f.raw, timer := none }
        (f.raw = true → s.nvm.saveState = .running →
          let forward :=
            if s.link.rx = .line ∧ arrived ≠ [] then (expired.forward.levelsPlaced arrived).send arrived.length
            else expired.forward
          ∃ t,
            CompletesFrom command s settled t
                [.forward, .link, .slots, .lines, .meters, .routes, .trace, .digest, .history, .pins, .notices,
                  .nvm] ∧
              t.pins.powerFail = settled.pins.powerFail ∧ SaveBegun s t .powerFail forward) ∧
          (f.raw = true → s.nvm.saveState ≠ .running → exec command s = .next settled) ∧
          (f.raw = false → s.nvm.saveState = .saved → exec command s = .next settled.startUp) ∧
          (f.raw = false → s.nvm.saveState ≠ .saved → exec command s = .next settled))

/-! ### Slot lines -/

/-- The steps of an attempt: a break holds the line at space for 2 ms and at mark for 1 ms and ends in SENDING; the
request's end starts the response timer of 3 ms; a byte joins the reply and starts the gap timer of 2 ms unless it ends
the reply; the gap timer's expiry notes GAP; the response timer, the gap timer or the reply's length ends the attempt,
which is judged by the first failure kind that applies (R94, R100, R101, R102). A reply has ended with its 3 bytes and
as many as its length byte counts, or with 43 bytes when that is above 40 (R101). That a reply of its kind byte alone is
GAP is log 37, the model's choice. A byte is sent as a start bit, its data bits least significant first, the odd parity
bit and a stop bit, and a received one is judged by them (R93). The count at an expiry is log 2, that timers run in
whole milliseconds from the command log 31, what the forward buffer sends meanwhile log 15. -/
def Obligations.AttemptsRunOnTheLine : Prop :=
  (∀ (s : State) (i : SlotNo), s.powered = true →
    let l := s.line i
    let expired := s.reachLine i
    (l.state = .break →
      exec (.breakEnd i) s =
        .next (expired.putLine i { l with state := .sending, timer := none })) ∧
      (l.state = .sending →
        exec (.requestSent i) s =
          .next (s.putLine i { l with state := .awaiting, timer := some (s.time + 3) })) ∧
      (∀ (data : Byte) (parity stop : Bool),
        l.state = .awaiting ∨ (l.state = .receiving ∧ replyEnded l.received = false) →
          exec (.replyByteReceived i data parity stop) s =
            .next
              (s.putLine i
                { l with
                  state := .receiving, received := l.received ++ [data]
                  trans :=
                    l.trans.map fun t =>
                      { t with noted := if t.noted.isSome then t.noted else frameError data parity stop }
                  timer := if replyEnded (l.received ++ [data]) then none else some (s.time + 2) })) ∧
      ∀ t : Transaction, l.trans = some t →
        let judged (how : ReplyEnd) (t : Transaction) (s : State) : State :=
          match judgeAttempt t.kind t.noted how l.received with
          | none =>
            s.putLine i
              { l with state := .quiet, timer := some (s.time + 1), trans := some { t with judged := some .good } }
          | some k =>
            s.putLine i
              { l with
                state := .quiet, timer := some (s.time + 1), trans := some { t with judged := some (.failed k) }
                lastFailure := some { kind := t.kind, attempt := t.attempt, failure := k } }
        (l.state = .awaiting → exec (.responseTimeout i) s = .next (judged .noReply t expired)) ∧
          (l.state = .receiving → replyEnded l.received = true →
            exec (.replyComplete i) s = .next (judged .ended t s)) ∧
          (l.state = .receiving → replyEnded l.received = false →
            let incomplete := 2 ≤ l.received.length ∧ (byteAt l.received 1).toNat ≤ 40
            exec (.gapTimeout i) s =
              .next
                (judged .gap
                  { t with
                    noted := if t.noted.isSome then t.noted else if incomplete then some .gap else none }
                  expired))) ∧
    (∀ reply : List Byte,
      replyEnded reply = true ↔
        2 ≤ reply.length ∧
          (if (byteAt reply 1).toNat ≤ 40 then 3 + (byteAt reply 1).toNat ≤ reply.length else 43 ≤ reply.length)) ∧
    (∀ (kind : TransKind) (noted : Option FailKind) (reply : List Byte),
      judgeAttempt kind noted .noReply reply = some .noResponse ∧
        (∀ (k : FailKind) (how : ReplyEnd), how ≠ .noReply → judgeAttempt kind (some k) how reply = some k) ∧
        (∀ how : ReplyEnd, how ≠ .noReply → 40 < (byteAt reply 1).toNat →
          judgeAttempt kind none how reply = some .length) ∧
        ((byteAt reply 1).toNat ≤ 40 →
          judgeAttempt kind none .gap reply = some .gap ∧
            judgeAttempt kind none .ended reply =
              if ¬(reply.map BitVec.toNat).sum % 256 = 0 then some .check
              else if byteAt reply 0 ≠ kind.replyKind then some .kind
              else if (byteAt reply 1).toNat ≠ kind.replyLength then some .length
              else if kind = .identify ∧ byteAt reply 15 = 0#8 then some .content
              else none)) ∧
    (∀ (s : State) (i : SlotNo) (e : Time), (s.line i).state = .break → (s.line i).timer = some e →
      (e - s.time).toNat < 2147483648 → s.breakLevel i = decide ((e - s.time).toNat ≤ 1)) ∧
    (∀ l : LineCtl,
      l.driven = if l.state = .sending then l.request.flatMap frameOf else []) ∧
    (∀ b : Byte,
      ∃ parity : Bool,
        frameOf b = false :: ((List.finRange 8).map (fun k => b.getLsbD k.val) ++ [parity, true]) ∧
          (((List.finRange 8).filter fun k => b.getLsbD k.val).length + parity.toNat) % 2 = 1 ∧
          frameError b parity true = none) ∧
    ∀ (data : Byte) (parity : Bool),
      frameError data parity false = some .framing ∧
        frameError data parity true =
          if (((List.finRange 8).filter fun k => data.getLsbD k.val).length + parity.toNat) % 2 = 1 then none
          else some .parity

/-- The end of the turnaround. A failed first attempt is repeated after a break with the same request. A good IDENTIFY
is held and READ FILL begins; a good READ FILL moves the slot to AUTHENTICATING and asks for its key; a good CHALLENGE
asks for the expected tag; a probe or challenge that failed twice leads to MUTE; an end whose result is ignored, or that
the slot no longer waits for, changes nothing but the line. An accepted checkpoint is confirmed, in the history too, and
is due again while the step is still reached; one that is refused, or failed twice, counts with a CHECKPOINT notice, and
leads to FAULT or is due again at once, as one entry with any checkpoint already pending (R24). The moves to
AUTHENTICATING, MUTE and FAULT each raise their SLOT notice, that to FAULT behind the CHECKPOINT notice, and then hand
on the changes of the slot's fitness and drawability (R10, R12, R53, R63). After an abort the line is IDLE. The line
then takes its next pending entry, whatever was pending: probe-step, challenge, checkpoint (R103, R106, R4, R77, R79,
R108, R127, R109, R110, R111, R104, R105, R107). The count at the expiry is log 2, that the break's 3 ms run from it log
31, what the forward buffer sends meanwhile log 15, that a channel's conditions come before NO_SUPPLY log 13. -/
def Obligations.TurnaroundHandsOnTheEnd : Prop :=
  (∀ (s : State) (i : SlotNo), s.powered = true → (s.line i).state = .quiet →
    let l := s.line i
    let x := s.slot i
    let expired := s.reachLine i
    let now := expired.time
    let idle := { l with state := .idle, timer := none, trans := none }
    (l.trans = none → exec (.turnaroundEnd i) s = .next ((expired.putLine i idle).takePending i)) ∧
      ∀ t : Transaction, l.trans = some t →
        (∀ k, t.judged = some (.failed k) → t.attempt = 1 →
          exec (.turnaroundEnd i) s =
            .next
              (expired.putLine i
                { l with
                  state := .break, timer := some (now + 3), rate := s.policy.bitRate, request := t.message
                  received := [], trans := some { t with attempt := 2, noted := none, judged := none } })) ∧
          (t.judged = some .good ∨ (∃ k, t.judged = some (.failed k)) ∧ t.attempt = 2 →
            t.kind ≠ .checkpoint →
              t.ignoreResult = true ∨ t.tenure ≠ x.tenure ∨
                  x.state ≠ (if t.kind = .challenge then .authenticating else .probing) →
                exec (.turnaroundEnd i) s =
                  .next ((expired.putLine i { idle with probeHold := none }).takePending i)) ∧
          (t.ignoreResult = false → t.tenure = x.tenure →
            (t.judged = some .good →
              (t.kind = .identify → x.state = .probing →
                exec (.turnaroundEnd i) s =
                  .next
                    (expired.putLine i
                      { idle with
                        pendProbe := none, probeHold := some (identOf l.received), state := .sending
                        rate := s.policy.bitRate, request := [0x02#8, 0x00#8, 0xFE#8], received := []
                        trans := some (Transaction.start .readFill x.tenure) })) ∧
                (∀ ident, t.kind = .readFill → x.state = .probing → l.probeHold = some ident →
                  let fill := fillOf l.received
                  ∃ v,
                    exec (.turnaroundEnd i) s = .next (v.takePending i) ∧
                      keepsBut [.slots, .lines, .digest, .routes, .trace, .pins, .notices] expired v ∧
                      otherSlots i s v ∧ otherLines i s v ∧
                      v.slot i =
                        { x with
                          state := .authenticating, serial := some ident.serial, ink := some ident.ink
                          nominal := some (max 1 (min 2000000 ident.nominal)), reported := some fill
                          writeCount := some fill.writeCount, writtenRemaining := some fill.remaining
                          drawn := 0 } ∧
                      slotMoves expired v i (v.slot i) (.slot .authenticating .probing x.tenure none none) ∧
                      v.line i = { idle with probeHold := none } ∧
                      v.digest =
                        s.digest.request s.nvm.identity.key s.nvm.rootKeyGood (slotRequester i)
                          { kind := .derive, tenure := x.tenure, message := u64 ident.serial ++ u8 ident.ink
                            slotKey := none }) ∧
                (t.kind = .challenge → x.state = .authenticating →
                  ∃ v,
                    exec (.turnaroundEnd i) s = .next (v.takePending i) ∧
                      keepsBut [.slots, .lines, .digest] expired v ∧ otherSlots i s v ∧ otherLines i s v ∧
                      v.slot i = { x with tag := some (tagOf l.received) } ∧ v.line i = idle ∧
                      v.digest =
                        s.digest.request s.nvm.identity.key s.nvm.rootKeyGood (slotRequester i)
                          { kind := .expect, tenure := x.tenure
                            message :=
                              u64 (x.nonce.getD 0) ++ u64 (x.serial.getD 0) ++
                                (x.reported.getD ⟨0, 0, false⟩).bytes
                            slotKey := some ((x.derivedKey.map DerivedKey.key).getD 0) })) ∧
              (∀ k, t.judged = some (.failed k) → t.attempt = 2 →
                (t.kind = .identify ∨ t.kind = .readFill) ∧ x.state = .probing ∨
                    t.kind = .challenge ∧ x.state = .authenticating →
                  ∃ v,
                    exec (.turnaroundEnd i) s = .next (v.takePending i) ∧
                      keepsBut [.slots, .lines, .routes, .trace, .pins, .notices] expired v ∧
                      otherSlots i s v ∧ otherLines i s v ∧
                      v.slot i = { x with state := .mute, nonce := none, tag := none } ∧
                      v.line i = { idle with probeHold := if t.kind = .challenge then l.probeHold else none } ∧
                      slotMoves expired v i (v.slot i) (.slot .mute x.state x.tenure none (some (t.kind, k))))) ∧
            (t.kind = .checkpoint →
              (t.judged = some .good → byteAt l.received 2 = 0xA5#8 →
                let sent := t.values
                let drawn := x.drawn - (x.writtenRemaining.getD 0 - sent.remaining)
                ∃ v,
                  exec (.turnaroundEnd i) s = .next (v.takePending i) ∧
                    keepsBut [.slots, .history, .nvm, .notices, .lines] expired v ∧ otherLines i s v ∧
                    v.slot i =
                      { x with
                        writtenRemaining := some sent.remaining, writeCount := some sent.writeCount
                        drawn := drawn, writeFailures := 0, historyIndex := (v.slot i).historyIndex } ∧
                    (∀ serial, x.serial = some serial →
                      ∃ n e,
                        (v.slot i).historyIndex = some n ∧ v.entry n = some e ∧ e.serial = serial ∧
                          e.confirmed = sent.remaining ∧ e.writeCount = sent.writeCount ∧
                          (sent.mark = true → e.depletedMark = true)) ∧
                    v.line i =
                      { idle with
                        pendCheckpoint :=
                          l.pendCheckpoint || (x.state.supplies && decide (s.policy.checkpointStep ≤ drawn)) }) ∧
                ∀ result,
                  (t.judged = some .good ∧ byteAt l.received 2 ≠ 0xA5#8 ∧ result = .refused) ∨
                      (∃ k, t.judged = some (.failed k) ∧ t.attempt = 2 ∧ result = .failed k) →
                    let failures := min 3 (x.writeFailures + 1)
                    let faulted := x.state.supplies && decide (2 ≤ x.writeFailures)
                    let counted :=
                      expired.raise .checkpoint (.slot i) (.checkpoint t.values result failures)
                    ∃ v,
                      exec (.turnaroundEnd i) s = .next (v.takePending i) ∧
                        keepsBut [.slots, .lines, .routes, .trace, .pins, .notices] expired v ∧
                        otherSlots i s v ∧ otherLines i s v ∧
                        (if faulted then
                          slotMoves counted v i (v.slot i) (.slot .fault x.state x.tenure none none)
                        else sameRouting s v ∧ v.notices = counted.notices) ∧
                        v.slot i =
                          (if faulted then
                            { x with state := .fault, writeFailures := failures, nonce := none, tag := none }
                          else { x with writeFailures := failures }) ∧
                        v.line i =
                          { idle with
                            pendCheckpoint := !faulted && (l.pendCheckpoint || x.state.supplies) })) ∧
    ∀ (s : State) (i : SlotNo), (s.line i).state = .idle →
      let l := s.line i
      let x := s.slot i
      let starts (k : LineCtl) : State := s.putLine i { k with rate := s.policy.bitRate, received := [] }
      (l.pendProbe = some .identify →
        s.takePending i =
          starts
            { l with
              pendProbe := none, state := .break, timer := some (s.time + 3), request := [0x01#8, 0x00#8, 0xFF#8]
              trans := some (Transaction.start .identify x.tenure) }) ∧
        (l.pendProbe = some .readFill →
          s.takePending i =
            starts
              { l with
                pendProbe := none, state := .sending, timer := none, request := [0x02#8, 0x00#8, 0xFE#8]
                trans := some (Transaction.start .readFill x.tenure) }) ∧
        (∀ n, l.pendProbe = none → l.pendChallenge = some n →
          s.takePending i =
            starts
              { l with
                pendChallenge := none, state := .sending, timer := none, request := slotMessage 0x03#8 (u64 n)
                trans := some { Transaction.start .challenge x.tenure with nonce := n } }) ∧
        (l.pendProbe = none → l.pendChallenge = none → l.pendCheckpoint = true →
          s.takePending i =
            { s with
              lines :=
                s.lines.set i
                  { l with
                    pendCheckpoint := false, state := .tagWait, timer := none
                    trans :=
                      some { Transaction.start .checkpoint x.tenure with values := x.checkpointValues } }
              digest :=
                s.digest.request s.nvm.identity.key s.nvm.rootKeyGood (slotRequester i)
                  { kind := .writeTag, tenure := x.tenure
                    message := u64 (x.serial.getD 0) ++ x.checkpointValues.bytes
                    slotKey := some ((x.derivedKey.map DerivedKey.key).getD 0) } }) ∧
        (l.pendProbe = none → l.pendChallenge = none → l.pendCheckpoint = false → s.takePending i = s)

/-! ### The Digest Engine -/

/-- The end of a pass. A DERIVE for a slot that still waits for it gives the derived key and a fresh nonce, and begins
the challenge or leaves it pending on a busy line. Ink code 0, a mismatch or a void key decides by the non-genuine
policy: REJECTED, or GRACE with the grace volume loaded (SPENT when that is 0), with the SLOT notice of the move; its
watches are compared and its fitness is handed on, and no other slot, no history entry and no line is touched (R5, R10,
R12, R16, R19, R20, R53, R63). A write tag goes to the checkpoint that waits for it, and WRITE FILL begins at once. An
UNLOCK ends the attempt: withdrawn, granted, denied, or denied with the lockout begun, with its reply and its UNLOCK
notice; nothing else leads to SERVICE. A result that fails its test changes nothing but the engine. The engine then
grants the next requester, counting up from the last granted (R78, R80, R83, R86, R87, R107, R160, R163, R76). The
result codes of Unlock Service are those of R163's order; the widths in its reply are log 23, the model's choice. The
nonce is the free value of the draw (log 6). The keyed digest is an uninterpreted function (log 7). That W0 is compared
before W1 is log 41, that a channel's conditions come before NO_SUPPLY log 13. -/
def Obligations.DigestPassIsDelivered : Prop :=
  (∀ (s : State) (p : Pass), s.powered = true → s.digest.inFlight = some p →
    let granted : Digest :=
      { s.digest with inFlight := none }.grantNext s.nvm.identity.key s.nvm.rootKeyGood
    let discarded : Prop := exec .digestPassComplete s = .next { s with digest := granted }
    (∀ i : SlotNo, p.requester = slotRequester i →
      let x := s.slot i
      let l := s.line i
      (p.kind = .derive ∨ p.kind = .expect →
        (p.abandoned = true ∨ x.tenure ≠ p.tenure ∨ x.state ≠ .authenticating → discarded) ∧
          (p.abandoned = false → x.tenure = p.tenure → x.state = .authenticating →
            (p.kind = .derive →
              let nonce := Config.nonce s.draws
              let y :=
                { x with
                  derivedKey :=
                    some
                      { key := Config.kd p.key (p.message ++ [0#8]) ++ Config.kd p.key (p.message ++ [1#8])
                        void := !p.keyGood }
                  nonce := some nonce }
              ∃ t,
                Completes .digestPassComplete s t [.draws, .slots, .lines, .digest] ∧ t.draws = s.draws + 1 ∧
                  otherSlots i s t ∧ t.slot i = y ∧
                  (l.state = .idle → l.pendProbe = none →
                    t.line i =
                      { l with
                        pendChallenge := none, state := .sending, timer := none, rate := s.policy.bitRate
                        request := slotMessage 0x03#8 (u64 nonce), received := []
                        trans := some { Transaction.start .challenge x.tenure with nonce := nonce } }) ∧
                  (l.state ≠ .idle → t.line i = { l with pendChallenge := some nonce }) ∧ t.digest = granted) ∧
              (p.kind = .expect →
                x.ink = some 0 ∨ x.tag ≠ some (Config.kd p.key p.message) ∨
                    (∀ k, x.derivedKey = some k → k.void = true) →
                  let refused := x.ink = some 0 ∨ s.policy.nonGenuine = .reject
                  let volume := s.policy.graceVolume
                  let entered : SlotState := if refused then .rejected else if volume = 0 then .spent else .grace
                  let z :=
                    { x with
                      state := entered, grace := if refused then x.grace else volume, nonce := none, tag := none }
                  ∃ t,
                    Completes .digestPassComplete s t [.slots, .digest, .routes, .trace, .pins, .notices] ∧
                      otherSlots i s t ∧ t.slot i = (z.compared .w0).compared .w1 ∧ t.digest = granted ∧
                      sameRouting (s.handedOn i z) t ∧
                      noticesWere [.slot, .watch] (z.firings i)
                        (s.notices.take s.settings.mask[NoticeKind.slot.position] .slot (.slot i)
                          (.slot entered .authenticating x.tenure
                            (if entered = .spent then none else some x.causes) none))
                        t))) ∧
        (p.kind = .writeTag →
          let waits := p.abandoned = false ∧ x.tenure = p.tenure ∧ l.state = .tagWait
          (¬waits ∨ l.trans = none → discarded) ∧
            ∀ t : Transaction, l.trans = some t →
              (t.kind ≠ .checkpoint → discarded) ∧
                (waits → t.kind = .checkpoint →
                  let tag := Config.kd p.key p.message
                  exec .digestPassComplete s =
                    .next
                      { s with
                        digest := granted
                        lines :=
                          s.lines.set i
                            { l with
                              state := .sending, timer := none, rate := s.policy.bitRate
                              request := slotMessage 0x04#8 (t.values.bytes ++ u64 tag), received := []
                              trans := some { t with writeTag := some tag } } }))) ∧
      (p.kind = .unlock →
        (s.requests.attempt = none → discarded) ∧
          ∀ a : Attempt, s.requests.attempt = some a →
            let good := a.tag = Config.kd p.key p.message ∧ p.keyGood = true
            let judged (access : Access) (failures : Nat) (lockout : Option Time) (result : Byte) (e : UnlockEvent) :
                State :=
              { s with
                digest := granted
                requests :=
                  { s.requests with
                    access := access, attempt := none, failedUnlocks := failures, lockout := lockout
                    replies :=
                      s.requests.replies ++
                        [⟨a.requestTag, 0x19#8, .done,
                          [result, BitVec.ofNat 8 access.ctorIdx] ++ u8 failures ++ u32 (s.leftOf lockout)⟩] }
                notices :=
                  s.notices.take s.settings.mask[NoticeKind.unlock.position] .unlock .none
                    (.unlock e access failures (s.leftOf lockout)) }
            exec .digestPassComplete s =
              .next
                (if a.withdrawn = true then
                  judged s.requests.access s.requests.failedUnlocks s.requests.lockout 0#8 .withdrawn
                else if good then judged .service 0 s.requests.lockout 1#8 .granted
                else if s.requests.failedUnlocks < 3 then
                  judged s.requests.access (s.requests.failedUnlocks + 1) s.requests.lockout 2#8 .denied
                else judged s.requests.access 4 (some (s.time + 60000)) 2#8 .lockoutBegun))) ∧
    (∀ (i : Instr) (s t : State), s.requests.access = .operate → exec i s = .next t → t.requests.access = .service →
      i = .digestPassComplete ∧
        ∃ p a,
          s.digest.inFlight = some p ∧ p.kind = .unlock ∧ s.requests.attempt = some a ∧ a.withdrawn = false ∧
            a.tag = Config.kd p.key p.message ∧ p.keyGood = true) ∧
      ∀ (root : Key) (good : Bool) (d : Digest),
        ((∀ r : Requester, d.waiting[r] = none) → d.grantNext root good = d) ∧
          ∀ (k : Fin 17) (q : DigestRequest),
            let r : Requester := d.lastGranted + 1 + k
            d.waiting[r] = some q → (∀ j : Fin 17, j < k → d.waiting[d.lastGranted + 1 + j] = none) →
              d.grantNext root good =
                { inFlight := some (q.grant r root good), waiting := d.waiting.set r none, lastGranted := r }

/-- A tag match. The findings of its checks join the slot's refill causes, and raise a REFILL notice when there are any.
With no causes, or under ACCEPT_LOW, the slot is GENUINE with the effective remaining, or DEPLETED when that is 0; under
GRACE it is in GRACE with the grace volume (SPENT when that is 0), under REJECT REJECTED. The SLOT notice of the move
follows the REFILL notice, its fitness and drawability are handed on, and its watches are compared, with a WATCH notice
of each that fires (R10, R12, R19, R20, R53, R63). The entry for its serial is found or inserted and takes the lesser
confirmed remaining, the greater write count, the ink code and the marks; drawn-since that it held goes to a checkpoint
of a slot now GENUINE or DEPLETED, which merges with the depletion's (R80, R81, R82, R121 to R125, R5, R23). The engine
then grants the next requester, the checkpoint's write tag among them when its transaction has begun (R86, R107). The
keyed digest is an uninterpreted function (log 7). That W0 is compared before W1 is log 41, that a channel's conditions
come before NO_SUPPLY log 13. -/
def Obligations.TagMatchMakesTheSlotGenuine : Prop :=
  ∀ (s : State) (p : Pass) (i : SlotNo) (k : DerivedKey) (serial : Serial) (fill : Fill), s.powered = true →
    s.digest.inFlight = some p → p.requester = slotRequester i → p.kind = .expect → p.abandoned = false →
      let x := s.slot i
      let l := s.line i
      x.tenure = p.tenure → x.state = .authenticating → x.ink ≠ some 0 →
        x.tag = some (Config.kd p.key p.message) → x.derivedKey = some k → k.void = false →
          x.serial = some serial → x.reported = some fill →
            let entry := (s.history.lookup serial).bind s.entry
            let findings : Causes :=
              { rollback := decide (∃ e ∈ entry, fill.writeCount < e.writeCount)
                depletedReturn := decide (∃ e ∈ entry, e.depletedMark = true ∧ 0 < fill.remaining)
                levelRise := decide (∃ e ∈ entry, e.confirmed < fill.remaining)
                markConflict := decide (fill.mark = true ∧ 0 < fill.remaining)
                overNominal := decide (x.nominal.getD 0 < fill.remaining)
                levelSenseRise := false }
            let causes := x.causes.union findings
            let effective :=
              min (min fill.remaining (x.nominal.getD fill.remaining))
                (min ((entry.map fun e => e.confirmed - e.drawnSince).getD fill.remaining)
                  (x.remaining.getD fill.remaining))
            let graced := causes ≠ Causes.none ∧ s.policy.refill = .grace
            let entered : SlotState :=
              if graced then (if s.policy.graceVolume = 0 then .spent else .grace)
              else if causes ≠ Causes.none ∧ s.policy.refill = .reject then .rejected
              else if 0 < effective then .genuine else .depleted
            let saved := (∃ e ∈ entry, 0 < e.drawnSince) ∧ entered.supplies = true
            let due := saved ∨ entered = .depleted ∧ ¬(x.writtenRemaining = some 0 ∧ fill.mark = true)
            let z :=
              { x with
                state := entered, remaining := some effective, causes := causes
                grace := if graced then s.policy.graceVolume else x.grace, nonce := none, tag := none }
            let found :=
              if findings = Causes.none then s.notices
              else
                s.notices.take s.settings.mask[NoticeKind.refill.position] .refill (.slot i)
                  (.refill serial findings s.policy.refill entered fill.remaining fill.writeCount
                    (entry.map fun e => (e.confirmed, e.writeCount)))
            ∃ t,
              Completes .digestPassComplete s t
                  [.slots, .lines, .digest, .sense, .history, .nvm, .routes, .trace, .pins, .notices] ∧
                t.slot i = { (z.compared .w0).compared .w1 with historyIndex := (t.slot i).historyIndex } ∧
                (∀ j : SlotNo, j ≠ i → t.slot j = s.slot j ∨ t.slot j = { s.slot j with historyIndex := none }) ∧
                (t.senseOf i).proven = true ∧
                sameRouting (s.handedOn i z) t ∧
                noticesWere [.refill, .slot, .watch] (z.firings i)
                  (found.take s.settings.mask[NoticeKind.slot.position] .slot (.slot i)
                    (.slot entered .authenticating x.tenure
                      (if entered = .grace ∨ entered = .rejected then some causes else none) none))
                  t ∧
                t.digest =
                  { (if due ∧ l.takesCheckpoint = true then s.digestWithWriteTag s.digest i z else s.digest) with
                    inFlight := none }.grantNext s.nvm.identity.key s.nvm.rootKeyGood ∧
                (∃ n e,
                  (t.slot i).historyIndex = some n ∧ t.entry n = some e ∧ e.serial = serial ∧
                    e.ink = x.ink.getD 0 ∧
                    e.confirmed = ((entry.map fun e => min e.confirmed fill.remaining).getD fill.remaining) ∧
                    e.writeCount = ((entry.map fun e => max e.writeCount fill.writeCount).getD fill.writeCount) ∧
                    e.refillMark = (decide (∃ e ∈ entry, e.refillMark = true) || decide (findings ≠ Causes.none)) ∧
                    e.depletedMark = (decide (∃ e ∈ entry, e.depletedMark = true) || decide (effective = 0)) ∧
                    e.drawnSince = (if saved then 0 else (entry.map HistoryEntry.drawnSince).getD 0)) ∧
                (¬due → t.line i = l) ∧
                (due → l.state ≠ .idle → t.line i = { l with pendCheckpoint := true }) ∧
                (due → l.state = .idle → l.pendProbe = none → l.pendChallenge = none →
                  t.line i =
                    { l with
                      state := .tagWait, pendCheckpoint := false, timer := none
                      trans :=
                        some
                          { Transaction.start .checkpoint x.tenure with values := (t.slot i).checkpointValues } })

/-! ### Power -/

/-- Loss of power ends every state but the store and the pins' levels; the write in progress is torn, whichever record
it names, no other record is touched, and the pending writes are lost. Power applied is start-up: time 0; the settings,
the watches and the waste from their records; the History Table from its records, without duplicates and with at most 56
locked entries; the writer queue with the clean mark in progress, the rewrites of CORRECTED records and the history
writes behind it; the notices of start-up; the routes and their gates from the configuration, judged; the valves driven;
every other block at its start-up state (R192, R183, R184, R185, R119, R193, R50, R53, R62, R63). The filter of an input
that is asserted starts with its assert delay, POWER_FAIL's too, and the slots are EMPTY until it expires (R173, R3,
R179); with a delay of 0 it expires at once, and PRESENCE starts the probe (log 35). What an unpowered part holds is log
27, what a torn write leaves log 9, that bit errors are found at power-on only log 84, that three or more of a record
are found log 94, the rate of a line before its first attempt log 50, POWER_FAIL's time log 24. -/
def Obligations.PowerIsLostAndApplied : Prop :=
  (∀ (s : State) (torn : Torn), s.powered = true →
    ∃ t,
      exec (.powerLoss torn) s = .next t ∧
        keepsBut [.draws, .pins, .nvm] { State.manufactured with pending := s.pending } t ∧ t.draws = s.draws ∧
        t.nvm = { State.manufactured.nvm with store := t.nvm.store } ∧
        (∀ p : Pin, t.filter p = Filter.cold (s.filter p).raw) ∧ t.pins.valves = Vector.replicate 12 false ∧
        (s.nvm.inProgress = none → t.nvm.store = s.nvm.store) ∧
        ∀ (w : RecordWrite) (timing : WriteTiming), s.nvm.inProgress = some (w, timing) →
          let old := s.nvm.store
          let new := t.nvm.store
          match w with
          | .identity x => new = { old with identity := new.identity } ∧ TornTo torn old.identity x new.identity
          | .settings x => new = { old with settings := new.settings } ∧ TornTo torn old.settings x new.settings
          | .history n x =>
            new = { old with history := old.history.set n new.history[n] } ∧
              TornTo torn old.history[n] x new.history[n]
          | .waste x => new = { old with waste := new.waste } ∧ TornTo torn old.waste x new.waste
          | .cleanMark x => new = { old with cleanMark := new.cleanMark } ∧ TornTo torn old.cleanMark x new.cleanMark) ∧
    (∀ (s : State) (errors : List (RecordName × BitErrors)), s.powered = false →
      let store := errors.foldl Store.err s.nvm.store
      let image := store.settings.loaded.getD { settings := Settings.reset, watches := Image.watchesReset }
      ∃ t,
        exec (.powerOn errors) s = .next t ∧
          ∀ p : Pin,
            let delay := (image.settings.pins.groupDelays p).1
            let runs : FilterTimer := ⟨0, BitVec.ofNat 32 delay⟩
            t.filter p =
                (if (s.filter p).raw = false then Filter.cold false
                else if p = .powerFail ∨ 0 < delay then
                  { raw := true, filtered := false, timer := some runs, changed := false }
                else { raw := true, filtered := true, timer := none, changed := true }) ∧
              ∀ i : SlotNo, p = .presence i → (s.filter p).raw = true → delay = 0 →
                (t.slot i).state = .probing ∧ (t.slot i).present = true ∧ (t.line i).state = .break ∧
                  (t.line i).trans = some (Transaction.start .identify 0)) ∧
    ∀ (s : State) (errors : List (RecordName × BitErrors)), s.powered = false →
      let store := errors.foldl Store.err s.nvm.store
      let image := store.settings.loaded.getD { settings := Settings.reset, watches := Image.watchesReset }
      (∀ p : Pin, (s.filter p).raw = true → p = .powerFail ∨ 0 < (image.settings.pins.groupDelays p).1) →
        let loaded (n : EntryNo) : Option HistoryEntry := (store.history[n].loaded).getD none
        let superseded (n : EntryNo) : Prop :=
          ∃ e ∈ loaded n, ∃ m : EntryNo, ∃ f ∈ loaded m, f.serial = e.serial ∧ lessRecent e n f m = true
        let locked (h : EntryNo → Option HistoryEntry) : List EntryNo :=
          (List.finRange 64).filter fun n => (h n).any HistoryEntry.locked
        let kept (n : EntryNo) : Option HistoryEntry := if superseded n then none else loaded n
        ∃ t,
          exec (.powerOn errors) s = .next t ∧ t.powered = true ∧ t.pending = s.pending ∧ t.time = 0 ∧
            t.draws = s.draws ∧ t.settings = image.settings ∧
            (∀ i : SlotNo,
              t.slot i = Slot.cold (image.watches[i]).1.start (image.watches[i]).2.start ∧
                t.line i = LineCtl.cold ∧ t.senseOf i = ⟨false, false⟩) ∧
            (∀ c : Channel, t.meter c = Meter.cold) ∧
            (∀ h : HeadNo, t.head h = Head.cold) ∧ t.waste = store.waste.loaded.getD ⟨0, 0⟩ ∧ t.trace = [] ∧
            t.digest = Digest.cold ∧ t.requests = RequestUnit.cold ∧ t.link = Link.cold ∧
            t.forward = Forward.cold ∧ t.returns = Returns.cold ∧
            (∀ c : Channel,
              let cfg := image.settings.routes[c]
              let routed := cfg.ink ≠ 0 ∧ cfg.defaultSlot ≠ none
              let leaves := cfg.source = .activeUnfit ∨ cfg.source = .always
              let pends := routed ∧ leaves ∧ cfg.alternate ≠ none
              t.route c =
                  { state := if pends then .pendingAlt else if routed then .onDefault else .unrouted
                    active := if routed then cfg.defaultSlot else none
                    switchTimer :=
                      if pends then
                        (if cfg.switchDelay = 0 then .waiting else .running (BitVec.ofNat 32 cfg.switchDelay))
                      else .idle
                    revertTimer := none, settleCount := 0, hold := false
                    gate :=
                      { powerSave := false, noRoute := decide ¬routed, operatorHold := false, noSupply := true
                        settle := false }
                    lastLine := none } ∧
                t.pins.valves[c] = (decide routed && cfg.valveInvert)) ∧
            ((locked kept).length ≤ 56 → ∀ n : EntryNo, t.entry n = kept n) ∧
            (56 < (locked kept).length →
              (locked t.entry).length = 56 ∧
                ∀ n : EntryNo,
                  t.entry n = kept n ∨
                    t.entry n = none ∧
                      ∃ e ∈ kept n, e.locked = true ∧
                        ∀ (m : EntryNo) (f : HistoryEntry), t.entry m = some f → f.locked = true →
                          lessRecent e n f m = true) ∧
            t.history.nextStamp =
              ((List.finRange 64).map fun n => ((kept n).map HistoryEntry.stamp).getD 0).foldl max 0 + 1 ∧
            t.nvm.saveState = .running ∧ t.nvm.saveCause = none ∧ t.nvm.startUpHeld = false ∧
            t.nvm.timing = .normal ∧ t.nvm.store = store ∧
            t.nvm.clean = decide (store.cleanMark.loaded = some true) ∧
            t.nvm.damaged = store.identity.loaded.isNone ∧
            (s.nvm.inProgress = none →
              t.nvm.inProgress = some (.cleanMark false, .normal) ∧
                (t.nvm.queue.map RecordWrite.record).Nodup ∧
                ∀ w : RecordWrite,
                  w ∈ t.nvm.queue ↔
                    match w with
                    | .identity x => store.identity = { contents := some x, condition := .corrected }
                    | .settings x => store.settings = { contents := some x, condition := .corrected }
                    | .history n x =>
                      x = t.entry n ∧
                        (store.history[n].result = .corrected ∨ loaded n ≠ t.entry n)
                    | .waste x => store.waste = { contents := some x, condition := .corrected }
                    | .cleanMark _ => False) ∧
            (let first :=
               if t.nvm.clean then NoticeUnit.cold
               else
                 NoticeUnit.cold.take t.settings.mask[NoticeKind.store.position] .store .none
                   (.store .uncleanStart none false t.nvm.source t.nvm.corrected t.nvm.uncorrectable)
             noticesFollow first t ∧
               ((∀ r ∈ store.results, r.2 ≠ .corrected ∧ r.2 ≠ .uncorrectable) → (locked kept).length ≤ 56 →
                 t.wasteNear = false → t.wasteFull = false → (∀ c : Channel, (t.route c).state ≠ .pendingAlt) →
                   t.notices = first))
end

