-- ==== Sys2Proof/Laws/State.lean ====
section
/-!
SUPPORT. One lemma per update of the state: which fields it leaves, so that no later proof unfolds a record update; and
what is read after one record was replaced.
-/

namespace Sys2Proof.Machine

open Sys2Proof

/-- `State.putSlot` changes the field `slots` only. -/
@[simp] theorem State.putSlot_fields (s : State) (i : SlotNo) (x : Slot) :
    (s.putSlot i x).pending = s.pending ∧ (s.putSlot i x).powered = s.powered ∧ (s.putSlot i x).time = s.time ∧
    (s.putSlot i x).draws = s.draws ∧ (s.putSlot i x).settings = s.settings ∧ (s.putSlot i x).lines = s.lines ∧
    (s.putSlot i x).sense = s.sense ∧ (s.putSlot i x).meters = s.meters ∧ (s.putSlot i x).heads = s.heads ∧
    (s.putSlot i x).waste = s.waste ∧ (s.putSlot i x).routes = s.routes ∧ (s.putSlot i x).trace = s.trace ∧
    (s.putSlot i x).digest = s.digest ∧ (s.putSlot i x).history = s.history ∧
    (s.putSlot i x).requests = s.requests ∧ (s.putSlot i x).notices = s.notices ∧ (s.putSlot i x).link = s.link ∧
    (s.putSlot i x).forward = s.forward ∧ (s.putSlot i x).returns = s.returns ∧ (s.putSlot i x).pins = s.pins ∧
    (s.putSlot i x).nvm = s.nvm := by
  simp [State.putSlot]

/-- `State.putLine` changes the field `lines` only. -/
@[simp] theorem State.putLine_fields (s : State) (i : SlotNo) (x : LineCtl) :
    (s.putLine i x).pending = s.pending ∧ (s.putLine i x).powered = s.powered ∧ (s.putLine i x).time = s.time ∧
    (s.putLine i x).draws = s.draws ∧ (s.putLine i x).settings = s.settings ∧ (s.putLine i x).slots = s.slots ∧
    (s.putLine i x).sense = s.sense ∧ (s.putLine i x).meters = s.meters ∧ (s.putLine i x).heads = s.heads ∧
    (s.putLine i x).waste = s.waste ∧ (s.putLine i x).routes = s.routes ∧ (s.putLine i x).trace = s.trace ∧
    (s.putLine i x).digest = s.digest ∧ (s.putLine i x).history = s.history ∧
    (s.putLine i x).requests = s.requests ∧ (s.putLine i x).notices = s.notices ∧ (s.putLine i x).link = s.link ∧
    (s.putLine i x).forward = s.forward ∧ (s.putLine i x).returns = s.returns ∧ (s.putLine i x).pins = s.pins ∧
    (s.putLine i x).nvm = s.nvm := by
  simp [State.putLine]

/-- `State.putSense` changes the field `sense` only. -/
@[simp] theorem State.putSense_fields (s : State) (i : SlotNo) (x : Sense) :
    (s.putSense i x).pending = s.pending ∧ (s.putSense i x).powered = s.powered ∧ (s.putSense i x).time = s.time ∧
    (s.putSense i x).draws = s.draws ∧ (s.putSense i x).settings = s.settings ∧ (s.putSense i x).slots = s.slots ∧
    (s.putSense i x).lines = s.lines ∧ (s.putSense i x).meters = s.meters ∧ (s.putSense i x).heads = s.heads ∧
    (s.putSense i x).waste = s.waste ∧ (s.putSense i x).routes = s.routes ∧ (s.putSense i x).trace = s.trace ∧
    (s.putSense i x).digest = s.digest ∧ (s.putSense i x).history = s.history ∧
    (s.putSense i x).requests = s.requests ∧ (s.putSense i x).notices = s.notices ∧
    (s.putSense i x).link = s.link ∧ (s.putSense i x).forward = s.forward ∧ (s.putSense i x).returns = s.returns ∧
    (s.putSense i x).pins = s.pins ∧ (s.putSense i x).nvm = s.nvm := by
  simp [State.putSense]

/-- `State.putMeter` changes the field `meters` only. -/
@[simp] theorem State.putMeter_fields (s : State) (c : Channel) (x : Meter) :
    (s.putMeter c x).pending = s.pending ∧ (s.putMeter c x).powered = s.powered ∧ (s.putMeter c x).time = s.time ∧
    (s.putMeter c x).draws = s.draws ∧ (s.putMeter c x).settings = s.settings ∧ (s.putMeter c x).slots = s.slots ∧
    (s.putMeter c x).lines = s.lines ∧ (s.putMeter c x).sense = s.sense ∧ (s.putMeter c x).heads = s.heads ∧
    (s.putMeter c x).waste = s.waste ∧ (s.putMeter c x).routes = s.routes ∧ (s.putMeter c x).trace = s.trace ∧
    (s.putMeter c x).digest = s.digest ∧ (s.putMeter c x).history = s.history ∧
    (s.putMeter c x).requests = s.requests ∧ (s.putMeter c x).notices = s.notices ∧
    (s.putMeter c x).link = s.link ∧ (s.putMeter c x).forward = s.forward ∧ (s.putMeter c x).returns = s.returns ∧
    (s.putMeter c x).pins = s.pins ∧ (s.putMeter c x).nvm = s.nvm := by
  simp [State.putMeter]

/-- `State.putHead` changes the field `heads` only. -/
@[simp] theorem State.putHead_fields (s : State) (h : HeadNo) (x : Head) :
    (s.putHead h x).pending = s.pending ∧ (s.putHead h x).powered = s.powered ∧ (s.putHead h x).time = s.time ∧
    (s.putHead h x).draws = s.draws ∧ (s.putHead h x).settings = s.settings ∧ (s.putHead h x).slots = s.slots ∧
    (s.putHead h x).lines = s.lines ∧ (s.putHead h x).sense = s.sense ∧ (s.putHead h x).meters = s.meters ∧
    (s.putHead h x).waste = s.waste ∧ (s.putHead h x).routes = s.routes ∧ (s.putHead h x).trace = s.trace ∧
    (s.putHead h x).digest = s.digest ∧ (s.putHead h x).history = s.history ∧
    (s.putHead h x).requests = s.requests ∧ (s.putHead h x).notices = s.notices ∧ (s.putHead h x).link = s.link ∧
    (s.putHead h x).forward = s.forward ∧ (s.putHead h x).returns = s.returns ∧ (s.putHead h x).pins = s.pins ∧
    (s.putHead h x).nvm = s.nvm := by
  simp [State.putHead]

/-- `State.putRoute` changes the field `routes` only. -/
@[simp] theorem State.putRoute_fields (s : State) (c : Channel) (x : Route) :
    (s.putRoute c x).pending = s.pending ∧ (s.putRoute c x).powered = s.powered ∧ (s.putRoute c x).time = s.time ∧
    (s.putRoute c x).draws = s.draws ∧ (s.putRoute c x).settings = s.settings ∧ (s.putRoute c x).slots = s.slots ∧
    (s.putRoute c x).lines = s.lines ∧ (s.putRoute c x).sense = s.sense ∧ (s.putRoute c x).meters = s.meters ∧
    (s.putRoute c x).heads = s.heads ∧ (s.putRoute c x).waste = s.waste ∧ (s.putRoute c x).trace = s.trace ∧
    (s.putRoute c x).digest = s.digest ∧ (s.putRoute c x).history = s.history ∧
    (s.putRoute c x).requests = s.requests ∧ (s.putRoute c x).notices = s.notices ∧
    (s.putRoute c x).link = s.link ∧ (s.putRoute c x).forward = s.forward ∧ (s.putRoute c x).returns = s.returns ∧
    (s.putRoute c x).pins = s.pins ∧ (s.putRoute c x).nvm = s.nvm := by
  simp [State.putRoute]

/-- `State.putEntry` changes the field `history` only. -/
@[simp] theorem State.putEntry_fields (s : State) (n : EntryNo) (x : Option HistoryEntry) :
    (s.putEntry n x).pending = s.pending ∧ (s.putEntry n x).powered = s.powered ∧ (s.putEntry n x).time = s.time ∧
    (s.putEntry n x).draws = s.draws ∧ (s.putEntry n x).settings = s.settings ∧ (s.putEntry n x).slots = s.slots ∧
    (s.putEntry n x).lines = s.lines ∧ (s.putEntry n x).sense = s.sense ∧ (s.putEntry n x).meters = s.meters ∧
    (s.putEntry n x).heads = s.heads ∧ (s.putEntry n x).waste = s.waste ∧ (s.putEntry n x).routes = s.routes ∧
    (s.putEntry n x).trace = s.trace ∧ (s.putEntry n x).digest = s.digest ∧
    (s.putEntry n x).requests = s.requests ∧ (s.putEntry n x).notices = s.notices ∧
    (s.putEntry n x).link = s.link ∧ (s.putEntry n x).forward = s.forward ∧ (s.putEntry n x).returns = s.returns ∧
    (s.putEntry n x).pins = s.pins ∧ (s.putEntry n x).nvm = s.nvm := by
  simp [State.putEntry]

/-- `State.putFilter` changes the field `pins` only. -/
@[simp] theorem State.putFilter_fields (s : State) (p : Pin) (f : Filter) :
    (s.putFilter p f).pending = s.pending ∧ (s.putFilter p f).powered = s.powered ∧
    (s.putFilter p f).time = s.time ∧ (s.putFilter p f).draws = s.draws ∧ (s.putFilter p f).settings = s.settings ∧
    (s.putFilter p f).slots = s.slots ∧ (s.putFilter p f).lines = s.lines ∧ (s.putFilter p f).sense = s.sense ∧
    (s.putFilter p f).meters = s.meters ∧ (s.putFilter p f).heads = s.heads ∧ (s.putFilter p f).waste = s.waste ∧
    (s.putFilter p f).routes = s.routes ∧ (s.putFilter p f).trace = s.trace ∧ (s.putFilter p f).digest = s.digest ∧
    (s.putFilter p f).history = s.history ∧ (s.putFilter p f).requests = s.requests ∧
    (s.putFilter p f).notices = s.notices ∧ (s.putFilter p f).link = s.link ∧
    (s.putFilter p f).forward = s.forward ∧ (s.putFilter p f).returns = s.returns ∧
    (s.putFilter p f).nvm = s.nvm := by
  cases p <;> simp [State.putFilter]

/-- `State.putGrant` changes the field `returns` only. -/
@[simp] theorem State.putGrant_fields (s : State) (g : Grant) :
    (s.putGrant g).pending = s.pending ∧ (s.putGrant g).powered = s.powered ∧ (s.putGrant g).time = s.time ∧
    (s.putGrant g).draws = s.draws ∧ (s.putGrant g).settings = s.settings ∧ (s.putGrant g).slots = s.slots ∧
    (s.putGrant g).lines = s.lines ∧ (s.putGrant g).sense = s.sense ∧ (s.putGrant g).meters = s.meters ∧
    (s.putGrant g).heads = s.heads ∧ (s.putGrant g).waste = s.waste ∧ (s.putGrant g).routes = s.routes ∧
    (s.putGrant g).trace = s.trace ∧ (s.putGrant g).digest = s.digest ∧ (s.putGrant g).history = s.history ∧
    (s.putGrant g).requests = s.requests ∧ (s.putGrant g).notices = s.notices ∧ (s.putGrant g).link = s.link ∧
    (s.putGrant g).forward = s.forward ∧ (s.putGrant g).pins = s.pins ∧ (s.putGrant g).nvm = s.nvm := by
  simp [State.putGrant]

/-- `State.putPinCfg` changes the field `settings` only. -/
@[simp] theorem State.putPinCfg_fields (s : State) (cfg : PinCfg) :
    (s.putPinCfg cfg).pending = s.pending ∧ (s.putPinCfg cfg).powered = s.powered ∧
    (s.putPinCfg cfg).time = s.time ∧ (s.putPinCfg cfg).draws = s.draws ∧ (s.putPinCfg cfg).slots = s.slots ∧
    (s.putPinCfg cfg).lines = s.lines ∧ (s.putPinCfg cfg).sense = s.sense ∧ (s.putPinCfg cfg).meters = s.meters ∧
    (s.putPinCfg cfg).heads = s.heads ∧ (s.putPinCfg cfg).waste = s.waste ∧ (s.putPinCfg cfg).routes = s.routes ∧
    (s.putPinCfg cfg).trace = s.trace ∧ (s.putPinCfg cfg).digest = s.digest ∧
    (s.putPinCfg cfg).history = s.history ∧ (s.putPinCfg cfg).requests = s.requests ∧
    (s.putPinCfg cfg).notices = s.notices ∧ (s.putPinCfg cfg).link = s.link ∧
    (s.putPinCfg cfg).forward = s.forward ∧ (s.putPinCfg cfg).returns = s.returns ∧
    (s.putPinCfg cfg).pins = s.pins ∧ (s.putPinCfg cfg).nvm = s.nvm := by
  simp [State.putPinCfg]

/-- `State.raise` changes the field `notices` only. -/
@[simp] theorem State.raise_fields (s : State) (k : NoticeKind) (u : Subject) (d : Details) :
    (s.raise k u d).pending = s.pending ∧ (s.raise k u d).powered = s.powered ∧ (s.raise k u d).time = s.time ∧
    (s.raise k u d).draws = s.draws ∧ (s.raise k u d).settings = s.settings ∧ (s.raise k u d).slots = s.slots ∧
    (s.raise k u d).lines = s.lines ∧ (s.raise k u d).sense = s.sense ∧ (s.raise k u d).meters = s.meters ∧
    (s.raise k u d).heads = s.heads ∧ (s.raise k u d).waste = s.waste ∧ (s.raise k u d).routes = s.routes ∧
    (s.raise k u d).trace = s.trace ∧ (s.raise k u d).digest = s.digest ∧ (s.raise k u d).history = s.history ∧
    (s.raise k u d).requests = s.requests ∧ (s.raise k u d).link = s.link ∧ (s.raise k u d).forward = s.forward ∧
    (s.raise k u d).returns = s.returns ∧ (s.raise k u d).pins = s.pins ∧ (s.raise k u d).nvm = s.nvm := by
  simp [State.raise]

/-- `State.addReply` changes the field `requests` only. -/
@[simp] theorem State.addReply_fields (s : State) (r : Reply) :
    (s.addReply r).pending = s.pending ∧ (s.addReply r).powered = s.powered ∧ (s.addReply r).time = s.time ∧
    (s.addReply r).draws = s.draws ∧ (s.addReply r).settings = s.settings ∧ (s.addReply r).slots = s.slots ∧
    (s.addReply r).lines = s.lines ∧ (s.addReply r).sense = s.sense ∧ (s.addReply r).meters = s.meters ∧
    (s.addReply r).heads = s.heads ∧ (s.addReply r).waste = s.waste ∧ (s.addReply r).routes = s.routes ∧
    (s.addReply r).trace = s.trace ∧ (s.addReply r).digest = s.digest ∧ (s.addReply r).history = s.history ∧
    (s.addReply r).notices = s.notices ∧ (s.addReply r).link = s.link ∧ (s.addReply r).forward = s.forward ∧
    (s.addReply r).returns = s.returns ∧ (s.addReply r).pins = s.pins ∧ (s.addReply r).nvm = s.nvm := by
  simp [State.addReply]

/-- `State.addTrace` changes the field `trace` only. -/
@[simp] theorem State.addTrace_fields (s : State) (e : TraceEntry) :
    (s.addTrace e).pending = s.pending ∧ (s.addTrace e).powered = s.powered ∧ (s.addTrace e).time = s.time ∧
    (s.addTrace e).draws = s.draws ∧ (s.addTrace e).settings = s.settings ∧ (s.addTrace e).slots = s.slots ∧
    (s.addTrace e).lines = s.lines ∧ (s.addTrace e).sense = s.sense ∧ (s.addTrace e).meters = s.meters ∧
    (s.addTrace e).heads = s.heads ∧ (s.addTrace e).waste = s.waste ∧ (s.addTrace e).routes = s.routes ∧
    (s.addTrace e).digest = s.digest ∧ (s.addTrace e).history = s.history ∧ (s.addTrace e).requests = s.requests ∧
    (s.addTrace e).notices = s.notices ∧ (s.addTrace e).link = s.link ∧ (s.addTrace e).forward = s.forward ∧
    (s.addTrace e).returns = s.returns ∧ (s.addTrace e).pins = s.pins ∧ (s.addTrace e).nvm = s.nvm := by
  simp [State.addTrace]

/-- `State.queueWrite` changes the field `nvm` only. -/
@[simp] theorem State.queueWrite_fields (s : State) (w : RecordWrite) :
    (s.queueWrite w).pending = s.pending ∧ (s.queueWrite w).powered = s.powered ∧ (s.queueWrite w).time = s.time ∧
    (s.queueWrite w).draws = s.draws ∧ (s.queueWrite w).settings = s.settings ∧ (s.queueWrite w).slots = s.slots ∧
    (s.queueWrite w).lines = s.lines ∧ (s.queueWrite w).sense = s.sense ∧ (s.queueWrite w).meters = s.meters ∧
    (s.queueWrite w).heads = s.heads ∧ (s.queueWrite w).waste = s.waste ∧ (s.queueWrite w).routes = s.routes ∧
    (s.queueWrite w).trace = s.trace ∧ (s.queueWrite w).digest = s.digest ∧ (s.queueWrite w).history = s.history ∧
    (s.queueWrite w).requests = s.requests ∧ (s.queueWrite w).notices = s.notices ∧
    (s.queueWrite w).link = s.link ∧ (s.queueWrite w).forward = s.forward ∧ (s.queueWrite w).returns = s.returns ∧
    (s.queueWrite w).pins = s.pins := by
  simp [State.queueWrite]

/-- `State.drawn` changes the field `draws` only. -/
@[simp] theorem State.drawn_fields (s : State) :
    s.drawn.pending = s.pending ∧ s.drawn.powered = s.powered ∧ s.drawn.time = s.time ∧
    s.drawn.settings = s.settings ∧ s.drawn.slots = s.slots ∧ s.drawn.lines = s.lines ∧ s.drawn.sense = s.sense ∧
    s.drawn.meters = s.meters ∧ s.drawn.heads = s.heads ∧ s.drawn.waste = s.waste ∧ s.drawn.routes = s.routes ∧
    s.drawn.trace = s.trace ∧ s.drawn.digest = s.digest ∧ s.drawn.history = s.history ∧
    s.drawn.requests = s.requests ∧ s.drawn.notices = s.notices ∧ s.drawn.link = s.link ∧
    s.drawn.forward = s.forward ∧ s.drawn.returns = s.returns ∧ s.drawn.pins = s.pins ∧ s.drawn.nvm = s.nvm := by
  simp [State.drawn]

/-- `State.digestRequest` changes the field `digest` only. -/
@[simp] theorem State.digestRequest_fields (s : State) (r : Requester) (q : DigestRequest) :
    (s.digestRequest r q).pending = s.pending ∧ (s.digestRequest r q).powered = s.powered ∧
    (s.digestRequest r q).time = s.time ∧ (s.digestRequest r q).draws = s.draws ∧
    (s.digestRequest r q).settings = s.settings ∧ (s.digestRequest r q).slots = s.slots ∧
    (s.digestRequest r q).lines = s.lines ∧ (s.digestRequest r q).sense = s.sense ∧
    (s.digestRequest r q).meters = s.meters ∧ (s.digestRequest r q).heads = s.heads ∧
    (s.digestRequest r q).waste = s.waste ∧ (s.digestRequest r q).routes = s.routes ∧
    (s.digestRequest r q).trace = s.trace ∧ (s.digestRequest r q).history = s.history ∧
    (s.digestRequest r q).requests = s.requests ∧ (s.digestRequest r q).notices = s.notices ∧
    (s.digestRequest r q).link = s.link ∧ (s.digestRequest r q).forward = s.forward ∧
    (s.digestRequest r q).returns = s.returns ∧ (s.digestRequest r q).pins = s.pins ∧
    (s.digestRequest r q).nvm = s.nvm := by
  simp [State.digestRequest]

/-- `State.digestGrant` changes the field `digest` only. -/
@[simp] theorem State.digestGrant_fields (s : State) :
    s.digestGrant.pending = s.pending ∧ s.digestGrant.powered = s.powered ∧ s.digestGrant.time = s.time ∧
    s.digestGrant.draws = s.draws ∧ s.digestGrant.settings = s.settings ∧ s.digestGrant.slots = s.slots ∧
    s.digestGrant.lines = s.lines ∧ s.digestGrant.sense = s.sense ∧ s.digestGrant.meters = s.meters ∧
    s.digestGrant.heads = s.heads ∧ s.digestGrant.waste = s.waste ∧ s.digestGrant.routes = s.routes ∧
    s.digestGrant.trace = s.trace ∧ s.digestGrant.history = s.history ∧ s.digestGrant.requests = s.requests ∧
    s.digestGrant.notices = s.notices ∧ s.digestGrant.link = s.link ∧ s.digestGrant.forward = s.forward ∧
    s.digestGrant.returns = s.returns ∧ s.digestGrant.pins = s.pins ∧ s.digestGrant.nvm = s.nvm := by
  simp [State.digestGrant]

/-- `State.digestDrop` changes the field `digest` only. -/
@[simp] theorem State.digestDrop_fields (s : State) (i : SlotNo) (k : PassKind → Bool) :
    (s.digestDrop i k).pending = s.pending ∧ (s.digestDrop i k).powered = s.powered ∧
    (s.digestDrop i k).time = s.time ∧ (s.digestDrop i k).draws = s.draws ∧
    (s.digestDrop i k).settings = s.settings ∧ (s.digestDrop i k).slots = s.slots ∧
    (s.digestDrop i k).lines = s.lines ∧ (s.digestDrop i k).sense = s.sense ∧
    (s.digestDrop i k).meters = s.meters ∧ (s.digestDrop i k).heads = s.heads ∧
    (s.digestDrop i k).waste = s.waste ∧ (s.digestDrop i k).routes = s.routes ∧
    (s.digestDrop i k).trace = s.trace ∧ (s.digestDrop i k).history = s.history ∧
    (s.digestDrop i k).requests = s.requests ∧ (s.digestDrop i k).notices = s.notices ∧
    (s.digestDrop i k).link = s.link ∧ (s.digestDrop i k).forward = s.forward ∧
    (s.digestDrop i k).returns = s.returns ∧ (s.digestDrop i k).pins = s.pins ∧ (s.digestDrop i k).nvm = s.nvm := by
  simp [State.digestDrop]

/-- `State.send` changes the field `forward` only. -/
@[simp] theorem State.send_fields (s : State) (n : Nat) :
    (s.send n).pending = s.pending ∧ (s.send n).powered = s.powered ∧ (s.send n).time = s.time ∧
    (s.send n).draws = s.draws ∧ (s.send n).settings = s.settings ∧ (s.send n).slots = s.slots ∧
    (s.send n).lines = s.lines ∧ (s.send n).sense = s.sense ∧ (s.send n).meters = s.meters ∧
    (s.send n).heads = s.heads ∧ (s.send n).waste = s.waste ∧ (s.send n).routes = s.routes ∧
    (s.send n).trace = s.trace ∧ (s.send n).digest = s.digest ∧ (s.send n).history = s.history ∧
    (s.send n).requests = s.requests ∧ (s.send n).notices = s.notices ∧ (s.send n).link = s.link ∧
    (s.send n).returns = s.returns ∧ (s.send n).pins = s.pins ∧ (s.send n).nvm = s.nvm := by
  simp [State.send]

/-- `State.place` changes the field `forward` only. -/
@[simp] theorem State.place_fields (s : State) (p : ForwardPacket) :
    (s.place p).pending = s.pending ∧ (s.place p).powered = s.powered ∧ (s.place p).time = s.time ∧
    (s.place p).draws = s.draws ∧ (s.place p).settings = s.settings ∧ (s.place p).slots = s.slots ∧
    (s.place p).lines = s.lines ∧ (s.place p).sense = s.sense ∧ (s.place p).meters = s.meters ∧
    (s.place p).heads = s.heads ∧ (s.place p).waste = s.waste ∧ (s.place p).routes = s.routes ∧
    (s.place p).trace = s.trace ∧ (s.place p).digest = s.digest ∧ (s.place p).history = s.history ∧
    (s.place p).requests = s.requests ∧ (s.place p).notices = s.notices ∧ (s.place p).link = s.link ∧
    (s.place p).returns = s.returns ∧ (s.place p).pins = s.pins ∧ (s.place p).nvm = s.nvm := by
  simp [State.place]

/-- `State.countFailure` changes the field `link` only. -/
@[simp] theorem State.countFailure_fields (s : State) :
    s.countFailure.pending = s.pending ∧ s.countFailure.powered = s.powered ∧ s.countFailure.time = s.time ∧
    s.countFailure.draws = s.draws ∧ s.countFailure.settings = s.settings ∧ s.countFailure.slots = s.slots ∧
    s.countFailure.lines = s.lines ∧ s.countFailure.sense = s.sense ∧ s.countFailure.meters = s.meters ∧
    s.countFailure.heads = s.heads ∧ s.countFailure.waste = s.waste ∧ s.countFailure.routes = s.routes ∧
    s.countFailure.trace = s.trace ∧ s.countFailure.digest = s.digest ∧ s.countFailure.history = s.history ∧
    s.countFailure.requests = s.requests ∧ s.countFailure.notices = s.notices ∧
    s.countFailure.forward = s.forward ∧ s.countFailure.returns = s.returns ∧ s.countFailure.pins = s.pins ∧
    s.countFailure.nvm = s.nvm := by
  simp [State.countFailure]

/-- `State.countGood` changes the field `link` only. -/
@[simp] theorem State.countGood_fields (s : State) :
    s.countGood.pending = s.pending ∧ s.countGood.powered = s.powered ∧ s.countGood.time = s.time ∧
    s.countGood.draws = s.draws ∧ s.countGood.settings = s.settings ∧ s.countGood.slots = s.slots ∧
    s.countGood.lines = s.lines ∧ s.countGood.sense = s.sense ∧ s.countGood.meters = s.meters ∧
    s.countGood.heads = s.heads ∧ s.countGood.waste = s.waste ∧ s.countGood.routes = s.routes ∧
    s.countGood.trace = s.trace ∧ s.countGood.digest = s.digest ∧ s.countGood.history = s.history ∧
    s.countGood.requests = s.requests ∧ s.countGood.notices = s.notices ∧ s.countGood.forward = s.forward ∧
    s.countGood.returns = s.returns ∧ s.countGood.pins = s.pins ∧ s.countGood.nvm = s.nvm := by
  simp [State.countGood]

/-- `State.driveValve` changes the field `pins` only. -/
@[simp] theorem State.driveValve_fields (s : State) (c : Channel) :
    (s.driveValve c).pending = s.pending ∧ (s.driveValve c).powered = s.powered ∧ (s.driveValve c).time = s.time ∧
    (s.driveValve c).draws = s.draws ∧ (s.driveValve c).settings = s.settings ∧ (s.driveValve c).slots = s.slots ∧
    (s.driveValve c).lines = s.lines ∧ (s.driveValve c).sense = s.sense ∧ (s.driveValve c).meters = s.meters ∧
    (s.driveValve c).heads = s.heads ∧ (s.driveValve c).waste = s.waste ∧ (s.driveValve c).routes = s.routes ∧
    (s.driveValve c).trace = s.trace ∧ (s.driveValve c).digest = s.digest ∧ (s.driveValve c).history = s.history ∧
    (s.driveValve c).requests = s.requests ∧ (s.driveValve c).notices = s.notices ∧
    (s.driveValve c).link = s.link ∧ (s.driveValve c).forward = s.forward ∧ (s.driveValve c).returns = s.returns ∧
    (s.driveValve c).nvm = s.nvm := by
  simp [State.driveValve]

/-- The record replaced is the one read back. -/
@[simp] theorem State.putSlot_same (s : State) (i : SlotNo) (x : Slot) : (s.putSlot i x).slot i = x := by
  simp [State.putSlot, State.slot]

/-- The other records stay. -/
theorem State.putSlot_other (s : State) {i j : SlotNo} (x : Slot) (h : j ≠ i) :
    (s.putSlot i x).slot j = s.slot j := by
  have h' : (i : Nat) ≠ j := fun e => h (Fin.ext e.symm)
  simp [State.putSlot, State.slot, Vector.getElem_set_ne, h']

/-- The record replaced is the one read back. -/
@[simp] theorem State.putLine_same (s : State) (i : SlotNo) (x : LineCtl) : (s.putLine i x).line i = x := by
  simp [State.putLine, State.line]

/-- The other records stay. -/
theorem State.putLine_other (s : State) {i j : SlotNo} (x : LineCtl) (h : j ≠ i) :
    (s.putLine i x).line j = s.line j := by
  have h' : (i : Nat) ≠ j := fun e => h (Fin.ext e.symm)
  simp [State.putLine, State.line, Vector.getElem_set_ne, h']

/-- The record replaced is the one read back. -/
@[simp] theorem State.putSense_same (s : State) (i : SlotNo) (x : Sense) : (s.putSense i x).senseOf i = x := by
  simp [State.putSense, State.senseOf]

/-- The other records stay. -/
theorem State.putSense_other (s : State) {i j : SlotNo} (x : Sense) (h : j ≠ i) :
    (s.putSense i x).senseOf j = s.senseOf j := by
  have h' : (i : Nat) ≠ j := fun e => h (Fin.ext e.symm)
  simp [State.putSense, State.senseOf, Vector.getElem_set_ne, h']

/-- The record replaced is the one read back. -/
@[simp] theorem State.putMeter_same (s : State) (i : Channel) (x : Meter) : (s.putMeter i x).meter i = x := by
  simp [State.putMeter, State.meter]

/-- The other records stay. -/
theorem State.putMeter_other (s : State) {i j : Channel} (x : Meter) (h : j ≠ i) :
    (s.putMeter i x).meter j = s.meter j := by
  have h' : (i : Nat) ≠ j := fun e => h (Fin.ext e.symm)
  simp [State.putMeter, State.meter, Vector.getElem_set_ne, h']

/-- The record replaced is the one read back. -/
@[simp] theorem State.putHead_same (s : State) (i : HeadNo) (x : Head) : (s.putHead i x).head i = x := by
  simp [State.putHead, State.head]

/-- The other records stay. -/
theorem State.putHead_other (s : State) {i j : HeadNo} (x : Head) (h : j ≠ i) :
    (s.putHead i x).head j = s.head j := by
  have h' : (i : Nat) ≠ j := fun e => h (Fin.ext e.symm)
  simp [State.putHead, State.head, Vector.getElem_set_ne, h']

/-- The record replaced is the one read back. -/
@[simp] theorem State.putRoute_same (s : State) (i : Channel) (x : Route) : (s.putRoute i x).route i = x := by
  simp [State.putRoute, State.route]

/-- The other records stay. -/
theorem State.putRoute_other (s : State) {i j : Channel} (x : Route) (h : j ≠ i) :
    (s.putRoute i x).route j = s.route j := by
  have h' : (i : Nat) ≠ j := fun e => h (Fin.ext e.symm)
  simp [State.putRoute, State.route, Vector.getElem_set_ne, h']

/-- The record replaced is the one read back. -/
@[simp] theorem State.putEntry_same (s : State) (i : EntryNo) (x : Option HistoryEntry) : (s.putEntry i x).entry i = x := by
  simp [State.putEntry, State.entry]

/-- The other records stay. -/
theorem State.putEntry_other (s : State) {i j : EntryNo} (x : Option HistoryEntry) (h : j ≠ i) :
    (s.putEntry i x).entry j = s.entry j := by
  have h' : (i : Nat) ≠ j := fun e => h (Fin.ext e.symm)
  simp [State.putEntry, State.entry, Vector.getElem_set_ne, h']

/-- The filter replaced is the one read back. -/
@[simp] theorem State.putFilter_same (s : State) (p : Pin) (f : Filter) : (s.putFilter p f).filter p = f := by
  cases p <;> simp [State.putFilter, State.filter]

/-- The other filters stay. -/
theorem State.putFilter_other (s : State) {p q : Pin} (f : Filter) (h : q ≠ p) :
    (s.putFilter p f).filter q = s.filter q := by
  cases p <;> cases q <;> simp_all [State.putFilter, State.filter, Vector.getElem_set, Fin.ext_iff] <;> omega

end Sys2Proof.Machine
end

