-- ==== Sys2Proof/Laws/Frame.lean ====
section
/-!
SUPPORT. Which parts of the state each shared operation may change, said once for each: an operation changes nothing
but the parts its lemma lists, so a frame over a run of operations is one `simp` over these lemmas.
-/

namespace Sys2Proof.Machine

open Sys2Proof

/-- The frame, part by part. -/
theorem keepsBut_iff (bs : List Block) (s t : State) :
    keepsBut bs s t ↔
      t.pending = s.pending ∧ t.powered = s.powered ∧
        (.time ∈ bs ∨ t.time = s.time) ∧
        (.draws ∈ bs ∨ t.draws = s.draws) ∧
        (.settings ∈ bs ∨ t.settings = s.settings) ∧
        (.slots ∈ bs ∨ t.slots = s.slots) ∧
        (.lines ∈ bs ∨ t.lines = s.lines) ∧
        (.sense ∈ bs ∨ t.sense = s.sense) ∧
        (.meters ∈ bs ∨ t.meters = s.meters) ∧
        (.heads ∈ bs ∨ t.heads = s.heads) ∧
        (.waste ∈ bs ∨ t.waste = s.waste) ∧
        (.routes ∈ bs ∨ t.routes = s.routes) ∧
        (.trace ∈ bs ∨ t.trace = s.trace) ∧
        (.digest ∈ bs ∨ t.digest = s.digest) ∧
        (.history ∈ bs ∨ t.history = s.history) ∧
        (.requests ∈ bs ∨ t.requests = s.requests) ∧
        (.notices ∈ bs ∨ t.notices = s.notices) ∧
        (.link ∈ bs ∨ t.link = s.link) ∧
        (.forward ∈ bs ∨ t.forward = s.forward) ∧
        (.returns ∈ bs ∨ t.returns = s.returns) ∧
        (.pins ∈ bs ∨ t.pins = s.pins) ∧
        (.nvm ∈ bs ∨ t.nvm = s.nvm) := by
  constructor
  · rintro ⟨h, h', k⟩
    refine ⟨h, h', ?_⟩
    have k (b : Block) : b ∈ bs ∨ sameBlock s t b := (Classical.em (b ∈ bs)).imp_right (k b)
    exact ⟨k .time, k .draws, k .settings, k .slots, k .lines, k .sense, k .meters, k .heads,
      k .waste, k .routes, k .trace, k .digest, k .history, k .requests, k .notices, k .link, k .forward, k .returns, k .pins, k .nvm⟩
  · intro ⟨h, h', k⟩
    refine ⟨h, h', fun b hb => ?_⟩
    cases b <;> simp_all [sameBlock]

@[simp] theorem keepsBut_refl (bs : List Block) (s : State) : keepsBut bs s s := by simp [keepsBut_iff]

/-- More parts may be listed. -/
theorem keepsBut.mono {as bs : List Block} {s t : State} (k : keepsBut as s t) (h : as ⊆ bs) : keepsBut bs s t :=
  ⟨k.1, k.2.1, fun b hb => k.2.2 b fun hb' => hb (h hb')⟩

/-- Two frames in a row. -/
theorem keepsBut.trans {bs : List Block} {s t u : State} (k : keepsBut bs s t) (l : keepsBut bs t u) :
    keepsBut bs s u := by
  refine ⟨l.1.trans k.1, l.2.1.trans k.2.1, fun b hb => ?_⟩
  have k' := k.2.2 b hb
  have l' := l.2.2 b hb
  cases b <;> simp_all [sameBlock]

/-- A frame over a fold, from the frame of one turn. -/
@[simp] theorem keepsBut_foldl {α : Type} {bs : List Block} {s : State} (f : State → α → State)
    (h : ∀ u a, keepsBut bs s (f u a) ↔ keepsBut bs s u) (l : List α) (t : State) :
    keepsBut bs s (l.foldl f t) ↔ keepsBut bs s t := by
  induction l generalizing t with
  | nil => rfl
  | cons a l ih => rw [List.foldl_cons, ih, h]

@[simp] theorem keepsBut_ite {bs : List Block} {s a b : State} {p : Prop} [Decidable p] :
    keepsBut bs s (if p then a else b) ↔ if p then keepsBut bs s a else keepsBut bs s b := by
  split <;> rfl

/-! ### One part replaced -/

@[simp] theorem keepsBut_time {bs : List Block} (h : .time ∈ bs) (s t : State) (x : Time) :
    keepsBut bs s { t with time := x } ↔ keepsBut bs s t := by
  simp [keepsBut_iff, h]

@[simp] theorem keepsBut_draws {bs : List Block} (h : .draws ∈ bs) (s t : State) (x : Nat) :
    keepsBut bs s { t with draws := x } ↔ keepsBut bs s t := by
  simp [keepsBut_iff, h]

@[simp] theorem keepsBut_settings {bs : List Block} (h : .settings ∈ bs) (s t : State) (x : Settings) :
    keepsBut bs s { t with settings := x } ↔ keepsBut bs s t := by
  simp [keepsBut_iff, h]

@[simp] theorem keepsBut_slots {bs : List Block} (h : .slots ∈ bs) (s t : State) (x : Vector Slot 16) :
    keepsBut bs s { t with slots := x } ↔ keepsBut bs s t := by
  simp [keepsBut_iff, h]

@[simp] theorem keepsBut_lines {bs : List Block} (h : .lines ∈ bs) (s t : State) (x : Vector LineCtl 16) :
    keepsBut bs s { t with lines := x } ↔ keepsBut bs s t := by
  simp [keepsBut_iff, h]

@[simp] theorem keepsBut_sense {bs : List Block} (h : .sense ∈ bs) (s t : State) (x : Vector Sense 16) :
    keepsBut bs s { t with sense := x } ↔ keepsBut bs s t := by
  simp [keepsBut_iff, h]

@[simp] theorem keepsBut_meters {bs : List Block} (h : .meters ∈ bs) (s t : State) (x : Vector Meter 12) :
    keepsBut bs s { t with meters := x } ↔ keepsBut bs s t := by
  simp [keepsBut_iff, h]

@[simp] theorem keepsBut_heads {bs : List Block} (h : .heads ∈ bs) (s t : State) (x : Vector Head 8) :
    keepsBut bs s { t with heads := x } ↔ keepsBut bs s t := by
  simp [keepsBut_iff, h]

@[simp] theorem keepsBut_waste {bs : List Block} (h : .waste ∈ bs) (s t : State) (x : WasteAccount) :
    keepsBut bs s { t with waste := x } ↔ keepsBut bs s t := by
  simp [keepsBut_iff, h]

@[simp] theorem keepsBut_routes {bs : List Block} (h : .routes ∈ bs) (s t : State) (x : Vector Route 12) :
    keepsBut bs s { t with routes := x } ↔ keepsBut bs s t := by
  simp [keepsBut_iff, h]

@[simp] theorem keepsBut_trace {bs : List Block} (h : .trace ∈ bs) (s t : State) (x : List TraceEntry) :
    keepsBut bs s { t with trace := x } ↔ keepsBut bs s t := by
  simp [keepsBut_iff, h]

@[simp] theorem keepsBut_digest {bs : List Block} (h : .digest ∈ bs) (s t : State) (x : Digest) :
    keepsBut bs s { t with digest := x } ↔ keepsBut bs s t := by
  simp [keepsBut_iff, h]

@[simp] theorem keepsBut_history {bs : List Block} (h : .history ∈ bs) (s t : State) (x : History) :
    keepsBut bs s { t with history := x } ↔ keepsBut bs s t := by
  simp [keepsBut_iff, h]

@[simp] theorem keepsBut_requests {bs : List Block} (h : .requests ∈ bs) (s t : State) (x : RequestUnit) :
    keepsBut bs s { t with requests := x } ↔ keepsBut bs s t := by
  simp [keepsBut_iff, h]

@[simp] theorem keepsBut_notices {bs : List Block} (h : .notices ∈ bs) (s t : State) (x : NoticeUnit) :
    keepsBut bs s { t with notices := x } ↔ keepsBut bs s t := by
  simp [keepsBut_iff, h]

@[simp] theorem keepsBut_link {bs : List Block} (h : .link ∈ bs) (s t : State) (x : Link) :
    keepsBut bs s { t with link := x } ↔ keepsBut bs s t := by
  simp [keepsBut_iff, h]

@[simp] theorem keepsBut_forward {bs : List Block} (h : .forward ∈ bs) (s t : State) (x : Forward) :
    keepsBut bs s { t with forward := x } ↔ keepsBut bs s t := by
  simp [keepsBut_iff, h]

@[simp] theorem keepsBut_returns {bs : List Block} (h : .returns ∈ bs) (s t : State) (x : Returns) :
    keepsBut bs s { t with returns := x } ↔ keepsBut bs s t := by
  simp [keepsBut_iff, h]

@[simp] theorem keepsBut_pins {bs : List Block} (h : .pins ∈ bs) (s t : State) (x : Pins) :
    keepsBut bs s { t with pins := x } ↔ keepsBut bs s t := by
  simp [keepsBut_iff, h]

@[simp] theorem keepsBut_nvm {bs : List Block} (h : .nvm ∈ bs) (s t : State) (x : Nvm) :
    keepsBut bs s { t with nvm := x } ↔ keepsBut bs s t := by
  simp [keepsBut_iff, h]

@[simp] theorem keepsBut_forward_link {bs : List Block} (h : .forward ∈ bs) (h' : .link ∈ bs) (s t : State) (x : Forward) (y : Link) :
    keepsBut bs s { t with forward := x, link := y } ↔ keepsBut bs s t := by
  simp [keepsBut_iff, h, h']

/-! ### The named updates -/

@[simp] theorem State.putSlot_keeps {bs : List Block} (hb : .slots ∈ bs) (s t : State) (i : SlotNo) (x : Slot) :
    keepsBut bs s (t.putSlot i x) ↔ keepsBut bs s t := by
  simp [State.putSlot, hb]

@[simp] theorem State.putLine_keeps {bs : List Block} (hb : .lines ∈ bs) (s t : State) (i : SlotNo) (x : LineCtl) :
    keepsBut bs s (t.putLine i x) ↔ keepsBut bs s t := by
  simp [State.putLine, hb]

@[simp] theorem State.putSense_keeps {bs : List Block} (hb : .sense ∈ bs) (s t : State) (i : SlotNo) (x : Sense) :
    keepsBut bs s (t.putSense i x) ↔ keepsBut bs s t := by
  simp [State.putSense, hb]

@[simp] theorem State.putMeter_keeps {bs : List Block} (hb : .meters ∈ bs) (s t : State) (c : Channel) (x : Meter) :
    keepsBut bs s (t.putMeter c x) ↔ keepsBut bs s t := by
  simp [State.putMeter, hb]

@[simp] theorem State.putHead_keeps {bs : List Block} (hb : .heads ∈ bs) (s t : State) (h : HeadNo) (x : Head) :
    keepsBut bs s (t.putHead h x) ↔ keepsBut bs s t := by
  simp [State.putHead, hb]

@[simp] theorem State.putRoute_keeps {bs : List Block} (hb : .routes ∈ bs) (s t : State) (c : Channel) (x : Route) :
    keepsBut bs s (t.putRoute c x) ↔ keepsBut bs s t := by
  simp [State.putRoute, hb]

@[simp] theorem State.putEntry_keeps {bs : List Block} (hb : .history ∈ bs) (s t : State) (n : EntryNo) (x : Option HistoryEntry) :
    keepsBut bs s (t.putEntry n x) ↔ keepsBut bs s t := by
  simp [State.putEntry, hb]

@[simp] theorem State.putFilter_keeps {bs : List Block} (hb : .pins ∈ bs) (s t : State) (p : Pin) (f : Filter) :
    keepsBut bs s (t.putFilter p f) ↔ keepsBut bs s t := by
  cases p <;> simp [State.putFilter, hb]

@[simp] theorem State.putGrant_keeps {bs : List Block} (hb : .returns ∈ bs) (s t : State) (g : Grant) :
    keepsBut bs s (t.putGrant g) ↔ keepsBut bs s t := by
  simp [State.putGrant, hb]

@[simp] theorem State.putPinCfg_keeps {bs : List Block} (hb : .settings ∈ bs) (s t : State) (x : PinCfg) :
    keepsBut bs s (t.putPinCfg x) ↔ keepsBut bs s t := by
  simp [State.putPinCfg, hb]

@[simp] theorem State.raise_keeps {bs : List Block} (hb : .notices ∈ bs) (s t : State) (k : NoticeKind) (u : Subject) (d : Details) :
    keepsBut bs s (t.raise k u d) ↔ keepsBut bs s t := by
  simp [State.raise, hb]

@[simp] theorem State.addReply_keeps {bs : List Block} (hb : .requests ∈ bs) (s t : State) (r : Reply) :
    keepsBut bs s (t.addReply r) ↔ keepsBut bs s t := by
  simp [State.addReply, hb]

@[simp] theorem State.addTrace_keeps {bs : List Block} (hb : .trace ∈ bs) (s t : State) (e : TraceEntry) :
    keepsBut bs s (t.addTrace e) ↔ keepsBut bs s t := by
  simp [State.addTrace, hb]

@[simp] theorem State.queueWrite_keeps {bs : List Block} (hb : .nvm ∈ bs) (s t : State) (w : RecordWrite) :
    keepsBut bs s (t.queueWrite w) ↔ keepsBut bs s t := by
  simp [State.queueWrite, hb]

@[simp] theorem State.drawn_keeps {bs : List Block} (hb : .draws ∈ bs) (s t : State) :
    keepsBut bs s t.drawn ↔ keepsBut bs s t := by
  simp [State.drawn, hb]

@[simp] theorem State.digestRequest_keeps {bs : List Block} (hb : .digest ∈ bs) (s t : State) (r : Requester) (q : DigestRequest) :
    keepsBut bs s (t.digestRequest r q) ↔ keepsBut bs s t := by
  simp [State.digestRequest, hb]

@[simp] theorem State.digestGrant_keeps {bs : List Block} (hb : .digest ∈ bs) (s t : State) :
    keepsBut bs s t.digestGrant ↔ keepsBut bs s t := by
  simp [State.digestGrant, hb]

@[simp] theorem State.digestDrop_keeps {bs : List Block} (hb : .digest ∈ bs) (s t : State) (i : SlotNo) (k : PassKind → Bool) :
    keepsBut bs s (t.digestDrop i k) ↔ keepsBut bs s t := by
  simp [State.digestDrop, hb]

@[simp] theorem State.send_keeps {bs : List Block} (hb : .forward ∈ bs) (s t : State) (n : Nat) :
    keepsBut bs s (t.send n) ↔ keepsBut bs s t := by
  simp [State.send, hb]

@[simp] theorem State.place_keeps {bs : List Block} (hb : .forward ∈ bs) (s t : State) (p : ForwardPacket) :
    keepsBut bs s (t.place p) ↔ keepsBut bs s t := by
  simp [State.place, hb]

@[simp] theorem State.countFailure_keeps {bs : List Block} (hb : .link ∈ bs) (s t : State) :
    keepsBut bs s t.countFailure ↔ keepsBut bs s t := by
  simp [State.countFailure, hb]

@[simp] theorem State.countGood_keeps {bs : List Block} (hb : .link ∈ bs) (s t : State) :
    keepsBut bs s t.countGood ↔ keepsBut bs s t := by
  simp [State.countGood, hb]

@[simp] theorem State.driveValve_keeps {bs : List Block} (hb : .pins ∈ bs) (s t : State) (c : Channel) :
    keepsBut bs s (t.driveValve c) ↔ keepsBut bs s t := by
  simp [State.driveValve, hb]

@[simp] theorem State.turnAway_keeps {bs : List Block} (hb : .notices ∈ bs) (s t : State) :
    keepsBut bs s t.turnAway ↔ keepsBut bs s t := by
  simp [State.turnAway, hb]

@[simp] theorem State.forgetIndex_keeps {bs : List Block} (hb : .slots ∈ bs) (s t : State) (n : EntryNo) :
    keepsBut bs s (t.forgetIndex n) ↔ keepsBut bs s t := by
  simp [State.forgetIndex, hb]

@[simp] theorem State.placeReturn_keeps {bs : List Block} (hb : .returns ∈ bs) (s t : State) (x : BitVec 16) :
    keepsBut bs s (t.placeReturn x) ↔ keepsBut bs s t := by
  simp [State.placeReturn, hb]

@[simp] theorem State.discardReturn_keeps {bs : List Block} (hb : .returns ∈ bs) (s t : State) :
    keepsBut bs s t.discardReturn ↔ keepsBut bs s t := by
  simp [State.discardReturn, hb]

@[simp] theorem State.clearChanged_keeps {bs : List Block} (hb : .pins ∈ bs) (s t : State) :
    keepsBut bs s t.clearChanged ↔ keepsBut bs s t := by
  simp [State.clearChanged, hb]

@[simp] theorem State.enterSaving_keeps {bs : List Block} (hb : .nvm ∈ bs) (s t : State) (k : SaveCause) :
    keepsBut bs s (t.enterSaving k) ↔ keepsBut bs s t := by
  simp [State.enterSaving, hb]

@[simp] theorem State.writeNext_keeps {bs : List Block} (hb : .nvm ∈ bs) (s t : State) :
    keepsBut bs s t.writeNext ↔ keepsBut bs s t := by
  simp [State.writeNext, hb]

@[simp] theorem State.replySent_keeps {bs : List Block} (hb : .requests ∈ bs) (s t : State) :
    keepsBut bs s t.replySent ↔ keepsBut bs s t := by
  simp [State.replySent, hb]

/-! ### Ops -/

@[simp] theorem State.raiseLink_keeps {bs : List Block} (hb : [.notices] ⊆ bs) (s t : State) (e : LinkEvent) :
    keepsBut bs s (t.raiseLink e) ↔ keepsBut bs s t := by
  simp only [List.cons_subset, List.nil_subset, and_true] at hb
  simp [State.raiseLink, hb]

@[simp] theorem State.raiseUnlock_keeps {bs : List Block} (hb : [.notices] ⊆ bs) (s t : State) (e : UnlockEvent) :
    keepsBut bs s (t.raiseUnlock e) ↔ keepsBut bs s t := by
  simp only [List.cons_subset, List.nil_subset, and_true] at hb
  simp [State.raiseUnlock, hb]

@[simp] theorem State.queueEntry_keeps {bs : List Block} (hb : [.nvm] ⊆ bs) (s t : State) (n : EntryNo) :
    keepsBut bs s (t.queueEntry n) ↔ keepsBut bs s t := by
  simp only [List.cons_subset, List.nil_subset, and_true] at hb
  simp [State.queueEntry, hb]

@[simp] theorem State.waits_keeps {bs : List Block} (hb : [.time, .forward] ⊆ bs) (s t : State) (n : Nat) (e : Time) :
    keepsBut bs s (t.waits n e) ↔ keepsBut bs s t := by
  simp only [List.cons_subset, List.nil_subset, and_true] at hb
  rw [State.waits, keepsBut_time hb.1, State.send_keeps hb.2]

@[simp] theorem State.reach_keeps {bs : List Block} (hb : [.time, .forward] ⊆ bs) (s t : State) (e : Time) :
    keepsBut bs s (t.reach e) ↔ keepsBut bs s t := by
  simp only [List.cons_subset, List.nil_subset, and_true] at hb
  simp [State.reach, hb]

@[simp] theorem State.countCheck_keeps {bs : List Block} (hb : [.link] ⊆ bs) (s t : State) (g : Bool) :
    keepsBut bs s (t.countCheck g) ↔ keepsBut bs s t := by
  simp only [List.cons_subset, List.nil_subset, and_true] at hb
  simp [State.countCheck, hb]

@[simp] theorem State.symbolReceived_keeps {bs : List Block} (hb : [.link] ⊆ bs) (s t : State) :
    keepsBut bs s t.symbolReceived ↔ keepsBut bs s t := by
  simp only [List.cons_subset, List.nil_subset, and_true] at hb
  simp [State.symbolReceived, hb]

@[simp] theorem State.packetBegins_keeps {bs : List Block} (hb : [.link, .notices] ⊆ bs) (s t : State) :
    keepsBut bs s t.packetBegins ↔ keepsBut bs s t := by
  simp only [List.cons_subset, List.nil_subset, and_true] at hb
  simp [State.packetBegins, hb]

@[simp] theorem State.placeLevels_keeps {bs : List Block} (hb : [.forward] ⊆ bs) (s t : State) (x : List Byte) :
    keepsBut bs s (t.placeLevels x) ↔ keepsBut bs s t := by
  simp only [List.cons_subset, List.nil_subset, and_true] at hb
  unfold State.placeLevels
  (repeat' split) <;> simp [hb]

@[simp] theorem State.cutLine_keeps {bs : List Block} (hb : [.forward] ⊆ bs) (s t : State) (x : List Byte) :
    keepsBut bs s (t.cutLine x) ↔ keepsBut bs s t := by
  simp only [List.cons_subset, List.nil_subset, and_true] at hb
  simp [State.cutLine, hb]

@[simp] theorem State.bytesArrive_keeps {bs : List Block} (hb : [.forward] ⊆ bs) (s t : State) (x : List Byte) :
    keepsBut bs s (t.bytesArrive x) ↔ keepsBut bs s t := by
  simp only [List.cons_subset, List.nil_subset, and_true] at hb
  unfold State.bytesArrive
  split <;> simp [hb]

@[simp] theorem State.cutPacket_keeps {bs : List Block} (hb : [.forward, .link] ⊆ bs) (s t : State) (x : List Byte) :
    keepsBut bs s (t.cutPacket x) ↔ keepsBut bs s t := by
  simp only [List.cons_subset, List.nil_subset, and_true] at hb
  unfold State.cutPacket
  (repeat' split) <;> simp [hb]

@[simp] theorem State.symbolArrives_keeps {bs : List Block} (hb : [.link, .notices, .forward] ⊆ bs) (s t : State)
    (y : LaneSymbol) (x : List Byte) :
    keepsBut bs s (t.symbolArrives y x) ↔ keepsBut bs s t := by
  simp only [List.cons_subset, List.nil_subset, and_true] at hb
  simp [State.symbolArrives, hb]

@[simp] theorem State.ensureBegun_keeps {bs : List Block} (hb : [.link, .notices, .forward] ⊆ bs) (s t : State) :
    keepsBut bs s t.ensureBegun ↔ keepsBut bs s t := by
  simp only [List.cons_subset, List.nil_subset, and_true] at hb
  unfold State.ensureBegun
  (repeat' split) <;> simp [hb]

@[simp] theorem State.packetArrives_keeps {bs : List Block} (hb : [.link, .notices, .forward] ⊆ bs) (s t : State)
    (n : Nat) :
    keepsBut bs s (t.packetArrives n) ↔ keepsBut bs s t := by
  simp only [List.cons_subset, List.nil_subset, and_true] at hb
  simp [State.packetArrives, hb]

@[simp] theorem State.requestArrives_keeps {bs : List Block} (hb : [.link, .notices, .forward] ⊆ bs) (s t : State)
    (x : List Byte) :
    keepsBut bs s (t.requestArrives x) ↔ keepsBut bs s t := by
  simp only [List.cons_subset, List.nil_subset, and_true] at hb
  simp [State.requestArrives, hb]

/-! ### Route -/

@[simp] theorem State.setGate_keeps {bs : List Block} (hb : [.routes, .notices] ⊆ bs) (s t : State)
    (c : Channel) (g : Gate) :
    keepsBut bs s (t.setGate c g) ↔ keepsBut bs s t := by
  simp only [List.cons_subset, List.nil_subset, and_true] at hb
  simp [State.setGate, hb]

@[simp] theorem State.judgeSupply_keeps {bs : List Block} (hb : [.routes, .notices] ⊆ bs) (s t : State)
    (c : Channel) :
    keepsBut bs s (t.judgeSupply c) ↔ keepsBut bs s t := by
  simp only [List.cons_subset, List.nil_subset, and_true] at hb
  simp [State.judgeSupply, hb]

@[simp] theorem State.switchTo_keeps {bs : List Block} (hb : [.routes, .pins, .trace, .notices] ⊆ bs) (s t : State)
    (c : Channel) (k : SwitchCause) :
    keepsBut bs s (t.switchTo c k) ↔ keepsBut bs s t := by
  simp only [List.cons_subset, List.nil_subset, and_true] at hb
  simp [State.switchTo, hb]

@[simp] theorem State.raiseRoute_keeps {bs : List Block} (hb : [.notices] ⊆ bs) (s t : State)
    (c : Channel) (b : Bool) :
    keepsBut bs s (t.raiseRoute c b) ↔ keepsBut bs s t := by
  simp only [List.cons_subset, List.nil_subset, and_true] at hb
  simp [State.raiseRoute, hb]

@[simp] theorem State.expirePendingAlt_keeps {bs : List Block}
    (hb : [.routes, .pins, .trace, .notices] ⊆ bs)
    (s t : State) (c : Channel) :
    keepsBut bs s (t.expirePendingAlt c) ↔ keepsBut bs s t := by
  simp only [List.cons_subset, List.nil_subset, and_true] at hb
  simp [State.expirePendingAlt, hb]

@[simp] theorem State.enterPendingAlt_keeps {bs : List Block}
    (hb : [.routes, .pins, .trace, .notices] ⊆ bs)
    (s t : State) (c : Channel) :
    keepsBut bs s (t.enterPendingAlt c) ↔ keepsBut bs s t := by
  simp only [List.cons_subset, List.nil_subset, and_true] at hb
  simp [State.enterPendingAlt, hb]

@[simp] theorem State.judgeOnDefault_keeps {bs : List Block}
    (hb : [.routes, .pins, .trace, .notices] ⊆ bs)
    (s t : State) (c : Channel) :
    keepsBut bs s (t.judgeOnDefault c) ↔ keepsBut bs s t := by
  simp only [List.cons_subset, List.nil_subset, and_true] at hb
  simp [State.judgeOnDefault, hb]

@[simp] theorem State.expirePendingDefault_keeps {bs : List Block}
    (hb : [.routes, .pins, .trace, .notices] ⊆ bs)
    (s t : State) (c : Channel) :
    keepsBut bs s (t.expirePendingDefault c) ↔ keepsBut bs s t := by
  simp only [List.cons_subset, List.nil_subset, and_true] at hb
  simp [State.expirePendingDefault, hb]

@[simp] theorem State.expireRevert_keeps {bs : List Block}
    (hb : [.routes, .pins, .trace, .notices] ⊆ bs)
    (s t : State) (c : Channel) :
    keepsBut bs s (t.expireRevert c) ↔ keepsBut bs s t := by
  simp only [List.cons_subset, List.nil_subset, and_true] at hb
  simp [State.expireRevert, hb]

@[simp] theorem State.enterPendingDefault_keeps {bs : List Block}
    (hb : [.routes, .pins, .trace, .notices] ⊆ bs)
    (s t : State) (c : Channel) :
    keepsBut bs s (t.enterPendingDefault c) ↔ keepsBut bs s t := by
  simp only [List.cons_subset, List.nil_subset, and_true] at hb
  simp [State.enterPendingDefault, hb]

@[simp] theorem State.judgeRevert_keeps {bs : List Block} (hb : [.routes, .pins, .trace, .notices] ⊆ bs) (s t : State)
    (c : Channel) :
    keepsBut bs s (t.judgeRevert c) ↔ keepsBut bs s t := by
  simp only [List.cons_subset, List.nil_subset, and_true] at hb
  simp [State.judgeRevert, hb]

@[simp] theorem State.judgeOnAlternate_keeps {bs : List Block}
    (hb : [.routes, .pins, .trace, .notices] ⊆ bs)
    (s t : State) (c : Channel) :
    keepsBut bs s (t.judgeOnAlternate c) ↔ keepsBut bs s t := by
  simp only [List.cons_subset, List.nil_subset, and_true] at hb
  simp [State.judgeOnAlternate, hb]

@[simp] theorem State.cancelPending_keeps {bs : List Block}
    (hb : [.routes, .pins, .trace, .notices] ⊆ bs)
    (s t : State) (c : Channel) (b : RouteState) :
    keepsBut bs s (t.cancelPending c b) ↔ keepsBut bs s t := by
  simp only [List.cons_subset, List.nil_subset, and_true] at hb
  simp [State.cancelPending, hb]

@[simp] theorem State.judgePendingAlt_keeps {bs : List Block}
    (hb : [.routes, .pins, .trace, .notices] ⊆ bs)
    (s t : State) (c : Channel) :
    keepsBut bs s (t.judgePendingAlt c) ↔ keepsBut bs s t := by
  simp only [List.cons_subset, List.nil_subset, and_true] at hb
  simp [State.judgePendingAlt, hb]

@[simp] theorem State.judgePendingDefault_keeps {bs : List Block}
    (hb : [.routes, .pins, .trace, .notices] ⊆ bs)
    (s t : State) (c : Channel) :
    keepsBut bs s (t.judgePendingDefault c) ↔ keepsBut bs s t := by
  simp only [List.cons_subset, List.nil_subset, and_true] at hb
  simp [State.judgePendingDefault, hb]

@[simp] theorem State.judgeRoute_keeps {bs : List Block} (hb : [.routes, .pins, .trace, .notices] ⊆ bs) (s t : State)
    (c : Channel) :
    keepsBut bs s (t.judgeRoute c) ↔ keepsBut bs s t := by
  simp only [List.cons_subset, List.nil_subset, and_true] at hb
  unfold State.judgeRoute
  (repeat' split) <;> simp [hb]

@[simp] theorem State.judgeChannels_keeps {bs : List Block}
    (hb : [.routes, .pins, .trace, .notices] ⊆ bs)
    (s t : State) (f : Channel → Bool) :
    keepsBut bs s (t.judgeChannels f) ↔ keepsBut bs s t := by
  simp only [List.cons_subset, List.nil_subset, and_true] at hb
  simp [State.judgeChannels, hb]

@[simp] theorem State.handFitness_keeps {bs : List Block} (hb : [.routes, .pins, .trace, .notices] ⊆ bs) (s t b : State) (i : SlotNo) (c : Channel) :
    keepsBut bs s (State.handFitness b i t c) ↔ keepsBut bs s t := by
  simp only [List.cons_subset, List.nil_subset, and_true] at hb
  simp [State.handFitness, hb]

@[simp] theorem State.judgeFitness_keeps {bs : List Block}
    (hb : [.routes, .pins, .trace, .notices] ⊆ bs)
    (s t : State) (b : State) (i : SlotNo) :
    keepsBut bs s (t.judgeFitness b i) ↔ keepsBut bs s t := by
  simp only [List.cons_subset, List.nil_subset, and_true] at hb
  simp [State.judgeFitness, hb]

@[simp] theorem State.switchExpires_keeps {bs : List Block}
    (hb : [.time, .forward, .routes, .pins, .trace, .notices] ⊆ bs)
    (s t : State) (c : Channel) :
    keepsBut bs s (t.switchExpires c) ↔ keepsBut bs s t := by
  simp only [List.cons_subset, List.nil_subset, and_true] at hb
  unfold State.switchExpires
  (repeat' split) <;> simp [hb]

@[simp] theorem State.revertExpires_keeps {bs : List Block}
    (hb : [.time, .forward, .routes, .pins, .trace, .notices] ⊆ bs)
    (s t : State) (c : Channel) :
    keepsBut bs s (t.revertExpires c) ↔ keepsBut bs s t := by
  simp only [List.cons_subset, List.nil_subset, and_true] at hb
  unfold State.revertExpires
  (repeat' split) <;> simp [hb]

@[simp] theorem State.putHold_keeps {bs : List Block} (hb : [.routes, .notices] ⊆ bs) (s t : State)
    (c : Channel) (b : Bool) :
    keepsBut bs s (t.putHold c b) ↔ keepsBut bs s t := by
  simp only [List.cons_subset, List.nil_subset, and_true] at hb
  simp [State.putHold, hb]

@[simp] theorem State.traceOperator_keeps {bs : List Block} (hb : [.trace, .notices] ⊆ bs) (s t : State)
    (c : Channel) (r : Route) :
    keepsBut bs s (t.traceOperator c r) ↔ keepsBut bs s t := by
  simp only [List.cons_subset, List.nil_subset, and_true] at hb
  simp [State.traceOperator, hb]

@[simp] theorem State.configureRoute_keeps {bs : List Block}
    (hb : [.settings, .routes, .pins, .trace, .notices] ⊆ bs)
    (s t : State) (c : Channel) (x : RouteCfg) :
    keepsBut bs s (t.configureRoute c x) ↔ keepsBut bs s t := by
  simp only [List.cons_subset, List.nil_subset, and_true] at hb
  simp [State.configureRoute, hb]

/-! ### SlotLine -/

@[simp] theorem State.startCheckpoint_keeps {bs : List Block} (hb : [.lines, .digest] ⊆ bs) (s t : State)
    (i : SlotNo) :
    keepsBut bs s (t.startCheckpoint i) ↔ keepsBut bs s t := by
  simp only [List.cons_subset, List.nil_subset, and_true] at hb
  simp [State.startCheckpoint, hb]

@[simp] theorem State.takePending_keeps {bs : List Block} (hb : [.lines, .digest] ⊆ bs) (s t : State) (i : SlotNo) :
    keepsBut bs s (t.takePending i) ↔ keepsBut bs s t := by
  simp only [List.cons_subset, List.nil_subset, and_true] at hb
  unfold State.takePending
  dsimp only
  (repeat' split) <;> simp [hb]

@[simp] theorem State.placeProbe_keeps {bs : List Block} (hb : [.lines, .digest] ⊆ bs) (s t : State)
    (i : SlotNo) (p : ProbeStep) :
    keepsBut bs s (t.placeProbe i p) ↔ keepsBut bs s t := by
  simp only [List.cons_subset, List.nil_subset, and_true] at hb
  simp [State.placeProbe, hb]

@[simp] theorem State.placeChallenge_keeps {bs : List Block} (hb : [.lines, .digest] ⊆ bs) (s t : State)
    (i : SlotNo) (n : Nonce) :
    keepsBut bs s (t.placeChallenge i n) ↔ keepsBut bs s t := by
  simp only [List.cons_subset, List.nil_subset, and_true] at hb
  simp [State.placeChallenge, hb]

@[simp] theorem State.placeCheckpoint_keeps {bs : List Block} (hb : [.lines, .digest] ⊆ bs) (s t : State)
    (i : SlotNo) :
    keepsBut bs s (t.placeCheckpoint i) ↔ keepsBut bs s t := by
  simp only [List.cons_subset, List.nil_subset, and_true] at hb
  simp [State.placeCheckpoint, hb]

@[simp] theorem State.dropCheckpoint_keeps {bs : List Block} (hb : [.lines] ⊆ bs) (s t : State) (i : SlotNo) :
    keepsBut bs s (t.dropCheckpoint i) ↔ keepsBut bs s t := by
  simp only [List.cons_subset, List.nil_subset, and_true] at hb
  simp [State.dropCheckpoint, hb]

@[simp] theorem State.reachLine_keeps {bs : List Block} (hb : [.time, .forward] ⊆ bs) (s t : State) (i : SlotNo) :
    keepsBut bs s (t.reachLine i) ↔ keepsBut bs s t := by
  simp only [List.cons_subset, List.nil_subset, and_true] at hb
  unfold State.reachLine
  (repeat' split) <;> simp [hb]

@[simp] theorem State.endAttempt_keeps {bs : List Block} (hb : [.lines] ⊆ bs) (s t : State)
    (i : SlotNo) (h : ReplyEnd) :
    keepsBut bs s (t.endAttempt i h) ↔ keepsBut bs s t := by
  simp only [List.cons_subset, List.nil_subset, and_true] at hb
  unfold State.endAttempt
  (repeat' split) <;> simp [hb]

@[simp] theorem State.breakEnds_keeps {bs : List Block} (hb : [.time, .forward, .lines] ⊆ bs) (s t : State) (i : SlotNo) :
    keepsBut bs s (t.breakEnds i) ↔ keepsBut bs s t := by
  simp only [List.cons_subset, List.nil_subset, and_true] at hb
  simp [State.breakEnds, hb]

@[simp] theorem State.requestEnds_keeps {bs : List Block} (hb : [.lines] ⊆ bs) (s t : State) (i : SlotNo) :
    keepsBut bs s (t.requestEnds i) ↔ keepsBut bs s t := by
  simp only [List.cons_subset, List.nil_subset, and_true] at hb
  simp [State.requestEnds, hb]

@[simp] theorem State.responseExpires_keeps {bs : List Block} (hb : [.time, .forward, .lines] ⊆ bs) (s t : State) (i : SlotNo) :
    keepsBut bs s (t.responseExpires i) ↔ keepsBut bs s t := by
  simp only [List.cons_subset, List.nil_subset, and_true] at hb
  simp [State.responseExpires, hb]

@[simp] theorem State.byteReceived_keeps {bs : List Block} (hb : [.lines] ⊆ bs) (s t : State)
    (i : SlotNo) (d : Byte) (p q : Bool) :
    keepsBut bs s (t.byteReceived i d p q) ↔ keepsBut bs s t := by
  simp only [List.cons_subset, List.nil_subset, and_true] at hb
  unfold State.byteReceived
  dsimp only
  (repeat' split) <;> simp [hb]

@[simp] theorem State.replyEnds_keeps {bs : List Block} (hb : [.lines] ⊆ bs) (s t : State) (i : SlotNo) :
    keepsBut bs s (t.replyEnds i) ↔ keepsBut bs s t := by
  simp only [List.cons_subset, List.nil_subset, and_true] at hb
  simp [State.replyEnds, hb]

@[simp] theorem State.gapExpires_keeps {bs : List Block} (hb : [.time, .forward, .lines] ⊆ bs) (s t : State) (i : SlotNo) :
    keepsBut bs s (t.gapExpires i) ↔ keepsBut bs s t := by
  simp only [List.cons_subset, List.nil_subset, and_true] at hb
  simp [State.gapExpires, hb]

/-! ### History -/

@[simp] theorem State.renumberIfFull_keeps {bs : List Block} (hb : [.history, .nvm] ⊆ bs) (s t : State) :
    keepsBut bs s t.renumberIfFull ↔ keepsBut bs s t := by
  simp only [List.cons_subset, List.nil_subset, and_true] at hb
  simp [State.renumberIfFull, hb]

@[simp] theorem State.moveEntry_keeps {bs : List Block} (hb : [.history, .nvm] ⊆ bs) (s t : State) (n : EntryNo) :
    keepsBut bs s (t.moveEntry n) ↔ keepsBut bs s t := by
  simp only [List.cons_subset, List.nil_subset, and_true] at hb
  unfold State.moveEntry
  dsimp only
  (repeat' split) <;> simp [hb]

@[simp] theorem State.insertEntry_keeps {bs : List Block} (hb : [.slots, .history, .nvm] ⊆ bs) (s t : State)
    (e : HistoryEntry) :
    keepsBut bs s (t.insertEntry e).1 ↔ keepsBut bs s t := by
  simp only [List.cons_subset, List.nil_subset, and_true] at hb
  simp [State.insertEntry, hb]

@[simp] theorem State.evict_keeps {bs : List Block} (hb : [.slots, .history, .nvm, .notices] ⊆ bs) (s t : State)
    (l : Option Serial) :
    keepsBut bs s (t.evict l) ↔ keepsBut bs s t := by
  simp only [List.cons_subset, List.nil_subset, and_true] at hb
  unfold State.evict
  (repeat' split) <;> simp [hb]

@[simp] theorem State.addMarks_keeps {bs : List Block} (hb : [.slots, .history, .nvm, .notices] ⊆ bs) (s t : State)
    (n : EntryNo) (a b : Bool) :
    keepsBut bs s (t.addMarks n a b) ↔ keepsBut bs s t := by
  simp only [List.cons_subset, List.nil_subset, and_true] at hb
  unfold State.addMarks
  (repeat' split) <;> simp [hb]

@[simp] theorem State.findOrInsert_keeps {bs : List Block} (hb : [.slots, .history, .nvm] ⊆ bs) (s t : State)
    (x : Serial) (e : HistoryEntry) :
    keepsBut bs s (t.findOrInsert x e).1 ↔ keepsBut bs s t := by
  simp only [List.cons_subset, List.nil_subset, and_true] at hb
  unfold State.findOrInsert
  (repeat' split) <;> simp [hb]

@[simp] theorem State.closeUpdate_keeps {bs : List Block} (hb : [.slots, .nvm] ⊆ bs) (s t : State)
    (i : SlotNo) (n : EntryNo) :
    keepsBut bs s (t.closeUpdate i n) ↔ keepsBut bs s t := by
  simp only [List.cons_subset, List.nil_subset, and_true] at hb
  simp [State.closeUpdate, hb]

theorem State.historyUpdate_keeps {bs : List Block} (hb : [.slots, .history, .nvm, .notices] ⊆ bs) (s t : State) (i : SlotNo)
    (f : State → EntryNo → State) (hf : ∀ u n, keepsBut bs s (f u n) ↔ keepsBut bs s u) :
    keepsBut bs s (t.historyUpdate i f) ↔ keepsBut bs s t := by
  simp only [List.cons_subset, List.nil_subset, and_true] at hb
  unfold State.historyUpdate
  split <;> simp [hb, hf]

@[simp] theorem State.markDepleted_keeps {bs : List Block} (hb : [.slots, .history, .nvm, .notices] ⊆ bs) (s t : State) (i : SlotNo) :
    keepsBut bs s (t.markDepleted i) ↔ keepsBut bs s t :=
  State.historyUpdate_keeps hb s t i _ fun _ _ => State.addMarks_keeps hb s _ _ _ _

@[simp] theorem State.markRefill_keeps {bs : List Block} (hb : [.slots, .history, .nvm, .notices] ⊆ bs) (s t : State) (i : SlotNo) :
    keepsBut bs s (t.markRefill i) ↔ keepsBut bs s t :=
  State.historyUpdate_keeps hb s t i _ fun _ _ => State.addMarks_keeps hb s _ _ _ _

@[simp] theorem State.confirmEntry_keeps {bs : List Block}
    (hb : [.slots, .history, .nvm, .notices] ⊆ bs)
    (s t : State) (n : EntryNo) (v : CheckpointValues) :
    keepsBut bs s (t.confirmEntry n v) ↔ keepsBut bs s t := by
  simp only [List.cons_subset, List.nil_subset, and_true] at hb
  unfold State.confirmEntry
  (repeat' split) <;> simp [hb]

@[simp] theorem State.confirmHistory_keeps {bs : List Block} (hb : [.slots, .history, .nvm, .notices] ⊆ bs) (s t : State) (i : SlotNo)
    (v : CheckpointValues) :
    keepsBut bs s (t.confirmHistory i v) ↔ keepsBut bs s t :=
  State.historyUpdate_keeps hb s t i _ fun _ _ => State.confirmEntry_keeps hb s _ _ _

@[simp] theorem State.writeDrawnSince_keeps {bs : List Block} (hb : [.slots, .history, .nvm] ⊆ bs) (s t : State)
    (i : SlotNo) :
    keepsBut bs s (t.writeDrawnSince i) ↔ keepsBut bs s t := by
  simp only [List.cons_subset, List.nil_subset, and_true] at hb
  unfold State.writeDrawnSince
  dsimp only
  (repeat' split) <;> simp [hb]

@[simp] theorem State.clearDrawnSince_keeps {bs : List Block} (hb : [.history] ⊆ bs) (s t : State) (n : EntryNo) :
    keepsBut bs s (t.clearDrawnSince n) ↔ keepsBut bs s t := by
  simp only [List.cons_subset, List.nil_subset, and_true] at hb
  unfold State.clearDrawnSince
  (repeat' split) <;> simp [hb]

@[simp] theorem State.outcomeUpdate_keeps {bs : List Block}
    (hb : [.slots, .history, .nvm, .notices, .sense] ⊆ bs)
    (s t : State) (i : SlotNo) (x : Serial) (f : Fill) (c : Causes) (e : Nat) :
    keepsBut bs s (t.outcomeUpdate i x f c e).1 ↔ keepsBut bs s t := by
  simp only [List.cons_subset, List.nil_subset, and_true] at hb
  unfold State.outcomeUpdate
  dsimp only
  (repeat' split) <;> simp [hb]

/-! ### Slots -/

@[simp] theorem State.changeSlot_keeps {bs : List Block}
    (hb : [.slots, .lines, .routes, .pins, .trace, .notices] ⊆ bs)
    (s t : State) (i : SlotNo) (x : Slot) (f : Option (TransKind × FailKind)) :
    keepsBut bs s (t.changeSlot i x f) ↔ keepsBut bs s t := by
  simp only [List.cons_subset, List.nil_subset, and_true] at hb
  simp [State.changeSlot, hb]

@[simp] theorem State.compareWatch_keeps {bs : List Block}
    (hb : [.slots, .routes, .pins, .trace, .notices] ⊆ bs)
    (s t : State) (i : SlotNo) (n : WatchNo) :
    keepsBut bs s (t.compareWatch i n) ↔ keepsBut bs s t := by
  simp only [List.cons_subset, List.nil_subset, and_true] at hb
  simp [State.compareWatch, hb]

@[simp] theorem State.compareWatches_keeps {bs : List Block}
    (hb : [.slots, .routes, .pins, .trace, .notices] ⊆ bs)
    (s t : State) (i : SlotNo) :
    keepsBut bs s (t.compareWatches i) ↔ keepsBut bs s t := by
  simp only [List.cons_subset, List.nil_subset, and_true] at hb
  simp [State.compareWatches, hb]

@[simp] theorem State.moveSlot_keeps {bs : List Block}
    (hb : [.slots, .lines, .routes, .pins, .trace, .notices] ⊆ bs)
    (s t : State) (i : SlotNo) (x : Slot) (f : Option (TransKind × FailKind)) :
    keepsBut bs s (t.moveSlot i x f) ↔ keepsBut bs s t := by
  simp only [List.cons_subset, List.nil_subset, and_true] at hb
  simp [State.moveSlot, hb]

@[simp] theorem State.depletionDue_keeps {bs : List Block} (hb : [.lines, .digest] ⊆ bs) (s t : State) (i : SlotNo) :
    keepsBut bs s (t.depletionDue i) ↔ keepsBut bs s t := by
  simp only [List.cons_subset, List.nil_subset, and_true] at hb
  simp [State.depletionDue, hb]

@[simp] theorem State.stepDue_keeps {bs : List Block} (hb : [.lines, .digest] ⊆ bs) (s t : State) (i : SlotNo) :
    keepsBut bs s (t.stepDue i) ↔ keepsBut bs s t := by
  simp only [List.cons_subset, List.nil_subset, and_true] at hb
  simp [State.stepDue, hb]

@[simp] theorem State.linkLostDue_keeps {bs : List Block} (hb : [.lines, .digest] ⊆ bs) (s t : State) (i : SlotNo) :
    keepsBut bs s (t.linkLostDue i) ↔ keepsBut bs s t := by
  simp only [List.cons_subset, List.nil_subset, and_true] at hb
  simp [State.linkLostDue, hb]

@[simp] theorem State.enterDepleted_keeps {bs : List Block}
    (hb : [.routes, .pins, .trace, .notices, .slots, .history, .nvm, .lines, .digest] ⊆ bs)
    (s t : State) (b : State) (i : SlotNo) :
    keepsBut bs s (t.enterDepleted b i) ↔ keepsBut bs s t := by
  simp only [List.cons_subset, List.nil_subset, and_true] at hb
  simp [State.enterDepleted, hb]

@[simp] theorem State.debitGenuine_keeps {bs : List Block}
    (hb : [.routes, .pins, .trace, .notices, .slots, .history, .nvm, .lines, .digest] ⊆ bs)
    (s t : State) (i : SlotNo) :
    keepsBut bs s (t.debitGenuine i) ↔ keepsBut bs s t := by
  simp only [List.cons_subset, List.nil_subset, and_true] at hb
  simp [State.debitGenuine, hb]

@[simp] theorem State.debitDepleted_keeps {bs : List Block}
    (hb : [.slots, .routes, .pins, .trace, .notices] ⊆ bs)
    (s t : State) (i : SlotNo) :
    keepsBut bs s (t.debitDepleted i) ↔ keepsBut bs s t := by
  simp only [List.cons_subset, List.nil_subset, and_true] at hb
  simp [State.debitDepleted, hb]

@[simp] theorem State.debitGrace_keeps {bs : List Block}
    (hb : [.slots, .lines, .routes, .pins, .trace, .notices] ⊆ bs)
    (s t : State) (i : SlotNo) :
    keepsBut bs s (t.debitGrace i) ↔ keepsBut bs s t := by
  simp only [List.cons_subset, List.nil_subset, and_true] at hb
  simp [State.debitGrace, hb]

@[simp] theorem State.applyDebit_keeps {bs : List Block}
    (hb : [.routes, .pins, .trace, .notices, .slots, .history, .nvm, .lines, .digest] ⊆ bs)
    (s t : State) (i : SlotNo) :
    keepsBut bs s (t.applyDebit i) ↔ keepsBut bs s t := by
  simp only [List.cons_subset, List.nil_subset, and_true] at hb
  unfold State.applyDebit
  (repeat' split) <;> simp [hb]

@[simp] theorem State.levelFinding_keeps {bs : List Block}
    (hb : [.slots, .lines, .routes, .pins, .trace, .notices] ⊆ bs)
    (s t : State) (i : SlotNo) :
    keepsBut bs s (t.levelFinding i) ↔ keepsBut bs s t := by
  simp only [List.cons_subset, List.nil_subset, and_true] at hb
  simp [State.levelFinding, hb]

@[simp] theorem State.levelSenseFinding_keeps {bs : List Block}
    (hb : [.slots, .lines, .routes, .pins, .trace, .notices, .history, .nvm, .sense] ⊆ bs)
    (s t : State) (i : SlotNo) :
    keepsBut bs s (t.levelSenseFinding i) ↔ keepsBut bs s t := by
  simp only [List.cons_subset, List.nil_subset, and_true] at hb
  simp [State.levelSenseFinding, hb]

@[simp] theorem State.levelLow_keeps {bs : List Block} (hb : [.sense] ⊆ bs) (s t : State) (i : SlotNo) :
    keepsBut bs s (t.levelLow i) ↔ keepsBut bs s t := by
  simp only [List.cons_subset, List.nil_subset, and_true] at hb
  simp [State.levelLow, hb]

@[simp] theorem State.levelWet_keeps {bs : List Block}
    (hb : [.slots, .lines, .routes, .pins, .trace, .notices, .history, .nvm, .sense] ⊆ bs)
    (s t : State) (i : SlotNo) :
    keepsBut bs s (t.levelWet i) ↔ keepsBut bs s t := by
  simp only [List.cons_subset, List.nil_subset, and_true] at hb
  simp [State.levelWet, hb]

@[simp] theorem State.levelDisabled_keeps {bs : List Block} (hb : [.sense] ⊆ bs) (s t : State) (i : SlotNo) :
    keepsBut bs s (t.levelDisabled i) ↔ keepsBut bs s t := by
  simp only [List.cons_subset, List.nil_subset, and_true] at hb
  simp [State.levelDisabled, hb]

@[simp] theorem State.presenceAsserted_keeps {bs : List Block}
    (hb : [.slots, .lines, .digest, .sense, .routes, .pins, .trace, .notices] ⊆ bs)
    (s t : State) (i : SlotNo) :
    keepsBut bs s (t.presenceAsserted i) ↔ keepsBut bs s t := by
  simp only [List.cons_subset, List.nil_subset, and_true] at hb
  simp [State.presenceAsserted, hb]

@[simp] theorem State.presenceLost_keeps {bs : List Block}
    (hb : [.slots, .lines, .digest, .sense, .routes, .pins, .trace, .notices] ⊆ bs)
    (s t : State) (i : SlotNo) :
    keepsBut bs s (t.presenceLost i) ↔ keepsBut bs s t := by
  simp only [List.cons_subset, List.nil_subset, and_true] at hb
  simp [State.presenceLost, hb]

@[simp] theorem State.rescan_keeps {bs : List Block}
    (hb : [.slots, .lines, .digest, .sense, .routes, .pins, .trace, .notices] ⊆ bs)
    (s t : State) (i : SlotNo) :
    keepsBut bs s (t.rescan i) ↔ keepsBut bs s t := by
  simp only [List.cons_subset, List.nil_subset, and_true] at hb
  simp [State.rescan, hb]

@[simp] theorem State.configureWatch_keeps {bs : List Block}
    (hb : [.slots, .routes, .pins, .trace, .notices] ⊆ bs)
    (s t : State) (i : SlotNo) (n : WatchNo) (w : Watch) :
    keepsBut bs s (t.configureWatch i n w) ↔ keepsBut bs s t := by
  simp only [List.cons_subset, List.nil_subset, and_true] at hb
  simp [State.configureWatch, hb]

/-! ### Auth -/

@[simp] theorem State.probeGood_keeps {bs : List Block}
    (hb : [.slots, .lines, .routes, .pins, .trace, .notices, .digest] ⊆ bs)
    (s t : State) (i : SlotNo) (d : Ident) (f : Fill) :
    keepsBut bs s (t.probeGood i d f) ↔ keepsBut bs s t := by
  simp only [List.cons_subset, List.nil_subset, and_true] at hb
  simp [State.probeGood, hb]

@[simp] theorem State.goMute_keeps {bs : List Block}
    (hb : [.slots, .lines, .routes, .pins, .trace, .notices] ⊆ bs)
    (s t : State) (i : SlotNo) (k : TransKind) (f : FailKind) :
    keepsBut bs s (t.goMute i k f) ↔ keepsBut bs s t := by
  simp only [List.cons_subset, List.nil_subset, and_true] at hb
  simp [State.goMute, hb]

@[simp] theorem State.deriveDelivered_keeps {bs : List Block}
    (hb : [.draws, .slots, .lines, .digest] ⊆ bs)
    (s t : State) (i : SlotNo) (p : Pass) :
    keepsBut bs s (t.deriveDelivered i p) ↔ keepsBut bs s t := by
  simp only [List.cons_subset, List.nil_subset, and_true] at hb
  simp [State.deriveDelivered, hb]

@[simp] theorem State.tagReceived_keeps {bs : List Block} (hb : [.slots, .digest] ⊆ bs) (s t : State)
    (i : SlotNo) (g : Tag) :
    keepsBut bs s (t.tagReceived i g) ↔ keepsBut bs s t := by
  simp only [List.cons_subset, List.nil_subset, and_true] at hb
  simp [State.tagReceived, hb]

@[simp] theorem State.lookupMoves_keeps {bs : List Block} (hb : [.history, .nvm] ⊆ bs) (s t : State) (x : Serial) :
    keepsBut bs s (t.lookupMoves x) ↔ keepsBut bs s t := by
  simp only [List.cons_subset, List.nil_subset, and_true] at hb
  unfold State.lookupMoves
  (repeat' split) <;> simp [hb]

@[simp] theorem State.tagMatched_keeps {bs : List Block}
    (hb : [.slots, .lines, .digest, .sense, .history, .nvm, .routes, .pins, .trace, .notices] ⊆ bs)
    (s t : State) (i : SlotNo) (x : Serial) (f : Fill) :
    keepsBut bs s (t.tagMatched i x f) ↔ keepsBut bs s t := by
  simp only [List.cons_subset, List.nil_subset, and_true] at hb
  simp [State.tagMatched, hb]

@[simp] theorem State.expectDelivered_keeps {bs : List Block}
    (hb : [.slots, .lines, .digest, .sense, .history, .nvm, .routes, .pins, .trace, .notices] ⊆ bs)
    (s t : State) (i : SlotNo) (g : Tag) :
    keepsBut bs s (t.expectDelivered i g) ↔ keepsBut bs s t := by
  simp only [List.cons_subset, List.nil_subset, and_true] at hb
  unfold State.expectDelivered
  dsimp only
  (repeat' split) <;> simp [hb]

@[simp] theorem State.writeTagDelivered_keeps {bs : List Block} (hb : [.lines] ⊆ bs) (s t : State)
    (i : SlotNo) (g : Tag) :
    keepsBut bs s (t.writeTagDelivered i g) ↔ keepsBut bs s t := by
  simp only [List.cons_subset, List.nil_subset, and_true] at hb
  unfold State.writeTagDelivered
  dsimp only
  (repeat' split) <;> simp [hb]

@[simp] theorem State.answerUnlock_keeps {bs : List Block} (hb : [.requests, .notices] ⊆ bs) (s t : State)
    (a : Attempt) (n : UnlockResult) (e : UnlockEvent) :
    keepsBut bs s (t.answerUnlock a n e) ↔ keepsBut bs s t := by
  simp only [List.cons_subset, List.nil_subset, and_true] at hb
  simp [State.answerUnlock, hb]

@[simp] theorem State.judgeUnlock_keeps {bs : List Block} (hb : [.requests, .notices] ⊆ bs) (s t : State)
    (a : Attempt) (g : Bool) :
    keepsBut bs s (t.judgeUnlock a g) ↔ keepsBut bs s t := by
  simp only [List.cons_subset, List.nil_subset, and_true] at hb
  simp [State.judgeUnlock, hb]

@[simp] theorem State.unlockDelivered_keeps {bs : List Block} (hb : [.requests, .notices] ⊆ bs) (s t : State)
    (p : Pass) :
    keepsBut bs s (t.unlockDelivered p) ↔ keepsBut bs s t := by
  simp only [List.cons_subset, List.nil_subset, and_true] at hb
  unfold State.unlockDelivered
  (repeat' split) <;> simp [hb]

@[simp] theorem State.deliver_keeps {bs : List Block}
    (hb : [.slots, .lines, .digest, .sense, .history, .nvm, .routes, .pins, .trace, .notices, .draws, .requests] ⊆ bs)
    (s t : State) (p : Pass) :
    keepsBut bs s (t.deliver p) ↔ keepsBut bs s t := by
  simp only [List.cons_subset, List.nil_subset, and_true] at hb
  unfold State.deliver
  (repeat' split) <;> simp [hb]

@[simp] theorem State.passCompletes_keeps {bs : List Block}
    (hb : [.slots, .lines, .digest, .sense, .history, .nvm, .routes, .pins, .trace, .notices, .draws, .requests] ⊆ bs)
    (s t : State) :
    keepsBut bs s t.passCompletes ↔ keepsBut bs s t := by
  simp only [List.cons_subset, List.nil_subset, and_true] at hb
  unfold State.passCompletes
  (repeat' split) <;> simp [hb]

@[simp] theorem State.lockoutExpires_keeps {bs : List Block} (hb : [.time, .forward, .requests, .notices] ⊆ bs) (s t : State) :
    keepsBut bs s t.lockoutExpires ↔ keepsBut bs s t := by
  simp only [List.cons_subset, List.nil_subset, and_true] at hb
  unfold State.lockoutExpires
  (repeat' split) <;> simp [hb]

@[simp] theorem State.startUnlock_keeps {bs : List Block} (hb : [.digest, .requests] ⊆ bs) (s t : State)
    (b : Byte) (g : Tag) (n : Nonce) :
    keepsBut bs s (t.startUnlock b g n) ↔ keepsBut bs s t := by
  simp only [List.cons_subset, List.nil_subset, and_true] at hb
  unfold State.startUnlock
  dsimp only
  rw [keepsBut_requests hb.2]
  simp [hb]

@[simp] theorem State.unlockService_keeps {bs : List Block} (hb : [.digest, .requests] ⊆ bs) (s t : State)
    (g : Byte) (x : List Byte) :
    keepsBut bs s (t.unlockService g x) ↔ keepsBut bs s t := by
  simp only [List.cons_subset, List.nil_subset, and_true] at hb
  unfold State.unlockService
  (repeat' split) <;> simp [hb]

@[simp] theorem State.takeUnlockService_keeps {bs : List Block}
    (hb : [.link, .notices, .forward, .digest, .requests] ⊆ bs)
    (s t : State) (g : Byte) (x : List Byte) :
    keepsBut bs s (t.takeUnlockService g x) ↔ keepsBut bs s t := by
  simp only [List.cons_subset, List.nil_subset, and_true] at hb
  simp [State.takeUnlockService, hb]

@[simp] theorem State.endService_keeps {bs : List Block} (hb : [.requests, .notices] ⊆ bs) (s t : State) :
    keepsBut bs s t.endService ↔ keepsBut bs s t := by
  simp only [List.cons_subset, List.nil_subset, and_true] at hb
  simp [State.endService, hb]

@[simp] theorem State.programKey_keeps {bs : List Block} (hb : [.nvm] ⊆ bs) (s t : State) (k : Key) :
    keepsBut bs s (t.programKey k) ↔ keepsBut bs s t := by
  simp only [List.cons_subset, List.nil_subset, and_true] at hb
  simp [State.programKey, hb]

/-! ### Bus -/

@[simp] theorem State.putProbeHold_keeps {bs : List Block} (hb : [.lines] ⊆ bs) (s t : State)
    (i : SlotNo) (h : Option Ident) :
    keepsBut bs s (t.putProbeHold i h) ↔ keepsBut bs s t := by
  simp only [List.cons_subset, List.nil_subset, and_true] at hb
  simp [State.putProbeHold, hb]

@[simp] theorem State.identifyEnds_keeps {bs : List Block}
    (hb : [.slots, .lines, .routes, .pins, .trace, .notices, .digest] ⊆ bs)
    (s t : State) (i : SlotNo) (x : Transaction) (j : Judgement) (y : List Byte) :
    keepsBut bs s (t.identifyEnds i x j y) ↔ keepsBut bs s t := by
  simp only [List.cons_subset, List.nil_subset, and_true] at hb
  unfold State.identifyEnds
  (repeat' split) <;> simp [hb]

@[simp] theorem State.readFillEnds_keeps {bs : List Block}
    (hb : [.slots, .lines, .routes, .pins, .trace, .notices, .digest] ⊆ bs)
    (s t : State) (i : SlotNo) (x : Transaction) (j : Judgement) (y : List Byte) :
    keepsBut bs s (t.readFillEnds i x j y) ↔ keepsBut bs s t := by
  simp only [List.cons_subset, List.nil_subset, and_true] at hb
  unfold State.readFillEnds
  (repeat' split) <;> simp [hb]

@[simp] theorem State.challengeEnds_keeps {bs : List Block}
    (hb : [.slots, .lines, .routes, .pins, .trace, .notices, .digest] ⊆ bs)
    (s t : State) (i : SlotNo) (x : Transaction) (j : Judgement) (y : List Byte) :
    keepsBut bs s (t.challengeEnds i x j y) ↔ keepsBut bs s t := by
  simp only [List.cons_subset, List.nil_subset, and_true] at hb
  unfold State.challengeEnds
  (repeat' split) <;> simp [hb]

@[simp] theorem State.checkpointAccepted_keeps {bs : List Block}
    (hb : [.slots, .history, .nvm, .notices, .lines, .digest] ⊆ bs)
    (s t : State) (i : SlotNo) (v : CheckpointValues) :
    keepsBut bs s (t.checkpointAccepted i v) ↔ keepsBut bs s t := by
  simp only [List.cons_subset, List.nil_subset, and_true] at hb
  simp [State.checkpointAccepted, hb]

@[simp] theorem State.checkpointFailed_keeps {bs : List Block}
    (hb : [.slots, .lines, .routes, .pins, .trace, .notices, .digest] ⊆ bs)
    (s t : State) (i : SlotNo) (v : CheckpointValues) (r : CheckpointResult) :
    keepsBut bs s (t.checkpointFailed i v r) ↔ keepsBut bs s t := by
  simp only [List.cons_subset, List.nil_subset, and_true] at hb
  simp [State.checkpointFailed, hb]

@[simp] theorem State.checkpointEnds_keeps {bs : List Block}
    (hb : [.slots, .lines, .routes, .pins, .trace, .notices, .history, .nvm, .digest] ⊆ bs)
    (s t : State) (i : SlotNo) (x : Transaction) (j : Judgement) (y : List Byte) :
    keepsBut bs s (t.checkpointEnds i x j y) ↔ keepsBut bs s t := by
  simp only [List.cons_subset, List.nil_subset, and_true] at hb
  unfold State.checkpointEnds
  (repeat' split) <;> simp [hb]

@[simp] theorem State.handOn_keeps {bs : List Block}
    (hb : [.slots, .lines, .routes, .pins, .trace, .notices, .history, .nvm, .digest] ⊆ bs)
    (s t : State) (i : SlotNo) (x : Transaction) (j : Judgement) (y : List Byte) :
    keepsBut bs s (t.handOn i x j y) ↔ keepsBut bs s t := by
  simp only [List.cons_subset, List.nil_subset, and_true] at hb
  unfold State.handOn
  (repeat' split) <;> simp [hb]

@[simp] theorem State.lineFree_keeps {bs : List Block} (hb : [.lines, .digest] ⊆ bs) (s t : State) (i : SlotNo) :
    keepsBut bs s (t.lineFree i) ↔ keepsBut bs s t := by
  simp only [List.cons_subset, List.nil_subset, and_true] at hb
  simp [State.lineFree, hb]

@[simp] theorem State.transactionEnds_keeps {bs : List Block}
    (hb : [.slots, .lines, .routes, .pins, .trace, .notices, .history, .nvm, .digest] ⊆ bs)
    (s t : State) (i : SlotNo) (x : Transaction) (j : Judgement) :
    keepsBut bs s (t.transactionEnds i x j) ↔ keepsBut bs s t := by
  simp only [List.cons_subset, List.nil_subset, and_true] at hb
  simp [State.transactionEnds, hb]

@[simp] theorem State.turnaroundEnds_keeps {bs : List Block}
    (hb : [.time, .forward, .slots, .lines, .routes, .pins, .trace, .notices, .history, .nvm, .digest] ⊆ bs)
    (s t : State) (i : SlotNo) :
    keepsBut bs s (t.turnaroundEnds i) ↔ keepsBut bs s t := by
  simp only [List.cons_subset, List.nil_subset, and_true] at hb
  unfold State.turnaroundEnds
  dsimp only
  (repeat' split) <;> simp [hb]

/-! ### Meter -/

@[simp] theorem State.emitDebit_keeps {bs : List Block}
    (hb : [.routes, .pins, .trace, .notices, .slots, .history, .nvm, .lines, .digest, .meters] ⊆ bs)
    (s t : State) (c : Channel) (x : Option (SlotNo × Tenure)) :
    keepsBut bs s (t.emitDebit c x) ↔ keepsBut bs s t := by
  simp only [List.cons_subset, List.nil_subset, and_true] at hb
  unfold State.emitDebit
  (repeat' split) <;> simp [hb]

@[simp] theorem State.emitDebits_keeps {bs : List Block}
    (hb : [.routes, .pins, .trace, .notices, .slots, .history, .nvm, .lines, .digest, .meters] ⊆ bs)
    (s t : State) (n : Nat) (c : Channel) (x : Option (SlotNo × Tenure)) :
    keepsBut bs s (State.emitDebits n t c x) ↔ keepsBut bs s t := by
  induction n generalizing t with
  | zero => rfl
  | succ n ih => rw [State.emitDebits, ih, State.emitDebit_keeps hb]

@[simp] theorem State.raiseWaste_keeps {bs : List Block} (hb : [.notices] ⊆ bs) (s t : State)
    (f : WasteFlag) (b : Bool) :
    keepsBut bs s (t.raiseWaste f b) ↔ keepsBut bs s t := by
  simp only [List.cons_subset, List.nil_subset, and_true] at hb
  simp [State.raiseWaste, hb]

@[simp] theorem State.judgeWaste_keeps {bs : List Block} (hb : [.notices] ⊆ bs) (s t : State) (a b : Bool) :
    keepsBut bs s (t.judgeWaste a b) ↔ keepsBut bs s t := by
  simp only [List.cons_subset, List.nil_subset, and_true] at hb
  simp [State.judgeWaste, hb]

@[simp] theorem State.addWaste_keeps {bs : List Block} (hb : [.waste, .notices, .nvm] ⊆ bs) (s t : State) (n : Nat) :
    keepsBut bs s (t.addWaste n) ↔ keepsBut bs s t := by
  simp only [List.cons_subset, List.nil_subset, and_true] at hb
  simp [State.addWaste, hb]

@[simp] theorem State.meterLine_keeps {bs : List Block}
    (hb : [.routes, .pins, .trace, .notices, .slots, .history, .nvm, .lines, .digest, .meters, .waste] ⊆ bs)
    (s t : State) (l : Flight) :
    keepsBut bs s (t.meterLine l) ↔ keepsBut bs s t := by
  simp only [List.cons_subset, List.nil_subset, and_true] at hb
  simp [State.meterLine, hb]

@[simp] theorem State.lineEnds_keeps {bs : List Block}
    (hb : [.routes, .pins, .trace, .notices, .slots, .history, .nvm, .lines, .digest, .meters, .waste] ⊆ bs)
    (s t : State) (l : Flight) :
    keepsBut bs s (t.lineEnds l) ↔ keepsBut bs s t := by
  simp only [List.cons_subset, List.nil_subset, and_true] at hb
  simp [State.lineEnds, hb]

@[simp] theorem State.chargeAbandoned_keeps {bs : List Block}
    (hb : [.routes, .pins, .trace, .notices, .slots, .history, .nvm, .lines, .digest, .meters] ⊆ bs)
    (s t : State) (l : Flight) :
    keepsBut bs s (t.chargeAbandoned l) ↔ keepsBut bs s t := by
  simp only [List.cons_subset, List.nil_subset, and_true] at hb
  simp [State.chargeAbandoned, hb]

@[simp] theorem State.chargeResidue_keeps {bs : List Block}
    (hb : [.routes, .pins, .trace, .notices, .slots, .history, .nvm, .lines, .digest, .meters] ⊆ bs)
    (s t : State) (c : Channel) :
    keepsBut bs s (t.chargeResidue c) ↔ keepsBut bs s t := by
  simp only [List.cons_subset, List.nil_subset, and_true] at hb
  simp [State.chargeResidue, hb]

@[simp] theorem State.raiseTemp_keeps {bs : List Block} (hb : [.notices] ⊆ bs) (s t : State) (h : HeadNo) (f : Bool) :
    keepsBut bs s (t.raiseTemp h f) ↔ keepsBut bs s t := by
  simp only [List.cons_subset, List.nil_subset, and_true] at hb
  simp [State.raiseTemp, hb]

@[simp] theorem State.takeReading_keeps {bs : List Block} (hb : [.heads, .notices] ⊆ bs) (s t : State)
    (h : HeadNo) (n : Nat) :
    keepsBut bs s (t.takeReading h n) ↔ keepsBut bs s t := by
  simp only [List.cons_subset, List.nil_subset, and_true] at hb
  simp [State.takeReading, hb]

@[simp] theorem State.goStale_keeps {bs : List Block} (hb : [.heads, .notices] ⊆ bs) (s t : State) (h : HeadNo) :
    keepsBut bs s (t.goStale h) ↔ keepsBut bs s t := by
  simp only [List.cons_subset, List.nil_subset, and_true] at hb
  simp [State.goStale, hb]

@[simp] theorem State.staleExpires_keeps {bs : List Block} (hb : [.time, .forward, .heads, .notices] ⊆ bs) (s t : State)
    (h : HeadNo) :
    keepsBut bs s (t.staleExpires h) ↔ keepsBut bs s t := by
  simp only [List.cons_subset, List.nil_subset, and_true] at hb
  unfold State.staleExpires
  (repeat' split) <;> simp [hb]

@[simp] theorem State.rejudgeHead_keeps {bs : List Block} (hb : [.heads, .notices] ⊆ bs) (s t : State) (h : HeadNo) :
    keepsBut bs s (t.rejudgeHead h) ↔ keepsBut bs s t := by
  simp only [List.cons_subset, List.nil_subset, and_true] at hb
  simp [State.rejudgeHead, hb]

@[simp] theorem State.loadTemperature_keeps {bs : List Block} (hb : [.settings, .heads, .notices] ⊆ bs) (s t : State)
    (x : TempTable) :
    keepsBut bs s (t.loadTemperature x) ↔ keepsBut bs s t := by
  simp only [List.cons_subset, List.nil_subset, and_true] at hb
  simp [State.loadTemperature, hb]

@[simp] theorem State.zeroWaste_keeps {bs : List Block} (hb : [.waste, .notices, .nvm] ⊆ bs) (s t : State) :
    keepsBut bs s t.zeroWaste ↔ keepsBut bs s t := by
  simp only [List.cons_subset, List.nil_subset, and_true] at hb
  simp [State.zeroWaste, hb]

/-! ### Link -/

@[simp] theorem State.mgmtFails_keeps {bs : List Block} (hb : [.link, .notices, .forward] ⊆ bs) (s t : State)
    (x : List Byte) (c : BitVec 16) :
    keepsBut bs s (t.mgmtFails x c) ↔ keepsBut bs s t := by
  simp only [List.cons_subset, List.nil_subset, and_true] at hb
  simp [State.mgmtFails, hb]

@[simp] theorem State.mgmtTagless_keeps {bs : List Block} (hb : [.link, .notices, .forward] ⊆ bs) (s t : State)
    (n : Nat) :
    keepsBut bs s (t.mgmtTagless n) ↔ keepsBut bs s t := by
  simp only [List.cons_subset, List.nil_subset, and_true] at hb
  simp [State.mgmtTagless, hb]

@[simp] theorem State.framingFault_keeps {bs : List Block} (hb : [.link, .notices, .forward] ⊆ bs) (s t : State)
    (n : Nat) :
    keepsBut bs s (t.framingFault n) ↔ keepsBut bs s t := by
  simp only [List.cons_subset, List.nil_subset, and_true] at hb
  simp [State.framingFault, hb]

@[simp] theorem State.forwardHead_keeps {bs : List Block} (hb : [.link, .notices, .forward] ⊆ bs) (s t : State)
    (x : List Byte) (c : BitVec 16) :
    keepsBut bs s (t.forwardHead x c) ↔ keepsBut bs s t := by
  simp only [List.cons_subset, List.nil_subset, and_true] at hb
  simp [State.forwardHead, hb]

@[simp] theorem State.headEnds_keeps {bs : List Block} (hb : [.link, .notices, .forward] ⊆ bs) (s t : State)
    (x : List Byte) (c : BitVec 16) :
    keepsBut bs s (t.headEnds x c) ↔ keepsBut bs s t := by
  simp only [List.cons_subset, List.nil_subset, and_true] at hb
  simp [State.headEnds, hb]

@[simp] theorem State.refuseHeader_keeps {bs : List Block} (hb : [.link, .notices, .forward] ⊆ bs) (s t : State)
    (h : LineHead) (r : RefuseReason) :
    keepsBut bs s (t.refuseHeader h r) ↔ keepsBut bs s t := by
  simp only [List.cons_subset, List.nil_subset, and_true] at hb
  unfold State.refuseHeader
  dsimp only
  rw [keepsBut_link hb.1]
  simp [hb]

@[simp] theorem State.settleCountdown_keeps {bs : List Block} (hb : [.routes, .notices] ⊆ bs) (s t : State)
    (c : Channel) :
    keepsBut bs s (t.settleCountdown c) ↔ keepsBut bs s t := by
  simp only [List.cons_subset, List.nil_subset, and_true] at hb
  simp [State.settleCountdown, hb]

@[simp] theorem State.recordLine_keeps {bs : List Block} (hb : [.routes] ⊆ bs) (s t : State)
    (c : Channel) (n : BitVec 16) :
    keepsBut bs s (t.recordLine c n) ↔ keepsBut bs s t := by
  simp only [List.cons_subset, List.nil_subset, and_true] at hb
  simp [State.recordLine, hb]

@[simp] theorem State.countBlanked_keeps {bs : List Block} (hb : [.meters] ⊆ bs) (s t : State)
    (c : Channel) (b : Bool) :
    keepsBut bs s (t.countBlanked c b) ↔ keepsBut bs s t := by
  simp only [List.cons_subset, List.nil_subset, and_true] at hb
  simp [State.countBlanked, hb]

@[simp] theorem State.drawnFor_keeps {bs : List Block} (hb : [.draws] ⊆ bs) (s t : State) (w : Byte) :
    keepsBut bs s (t.drawnFor w) ↔ keepsBut bs s t := by
  simp only [List.cons_subset, List.nil_subset, and_true] at hb
  simp [State.drawnFor, hb]

@[simp] theorem State.acceptHeader_keeps {bs : List Block}
    (hb : [.link, .notices, .forward, .routes, .meters, .draws] ⊆ bs)
    (s t : State) (c : Channel) (h : LineHead) :
    keepsBut bs s (t.acceptHeader c h) ↔ keepsBut bs s t := by
  simp only [List.cons_subset, List.nil_subset, and_true] at hb
  simp [State.acceptHeader, hb]

@[simp] theorem State.testHeader_keeps {bs : List Block}
    (hb : [.link, .notices, .forward, .routes, .meters, .draws] ⊆ bs)
    (s t : State) (h : LineHead) :
    keepsBut bs s (t.testHeader h) ↔ keepsBut bs s t := by
  simp only [List.cons_subset, List.nil_subset, and_true] at hb
  unfold State.testHeader
  (repeat' split) <;> simp [hb]

@[simp] theorem State.headerCompletes_keeps {bs : List Block}
    (hb : [.link, .notices, .forward, .routes, .meters, .draws] ⊆ bs)
    (s t : State) (h : LineHead) :
    keepsBut bs s (t.headerCompletes h) ↔ keepsBut bs s t := by
  simp only [List.cons_subset, List.nil_subset, and_true] at hb
  simp [State.headerCompletes, hb]

@[simp] theorem State.rxEnds_keeps {bs : List Block} (hb : [.forward, .link] ⊆ bs) (s t : State) (n : Nat) :
    keepsBut bs s (t.rxEnds n) ↔ keepsBut bs s t := by
  simp only [List.cons_subset, List.nil_subset, and_true] at hb
  simp [State.rxEnds, hb]

@[simp] theorem State.strayData_keeps {bs : List Block} (hb : [.forward, .link] ⊆ bs) (s t : State) (n : Nat) :
    keepsBut bs s (t.strayData n) ↔ keepsBut bs s t := by
  simp only [List.cons_subset, List.nil_subset, and_true] at hb
  unfold State.strayData
  split <;> simp [hb]

@[simp] theorem State.wholeLineEnds_keeps {bs : List Block} (hb : [.link, .notices, .forward] ⊆ bs) (s t : State)
    (x : List Byte) (c : BitVec 16) :
    keepsBut bs s (t.wholeLineEnds x c) ↔ keepsBut bs s t := by
  simp only [List.cons_subset, List.nil_subset, and_true] at hb
  simp [State.wholeLineEnds, hb]

@[simp] theorem State.refusedEnds_keeps {bs : List Block} (hb : [.link, .notices, .forward] ⊆ bs) (s t : State)
    (x : List Byte) (c : BitVec 16) :
    keepsBut bs s (t.refusedEnds x c) ↔ keepsBut bs s t := by
  simp only [List.cons_subset, List.nil_subset, and_true] at hb
  unfold State.refusedEnds
  (repeat' split) <;> simp [hb]

@[simp] theorem State.lineArrives_keeps {bs : List Block} (hb : [.forward, .link] ⊆ bs) (s t : State)
    (l : Flight) (x : List Byte) (c : BitVec 16) :
    keepsBut bs s (t.lineArrives l x c) ↔ keepsBut bs s t := by
  simp only [List.cons_subset, List.nil_subset, and_true] at hb
  simp [State.lineArrives, hb]

@[simp] theorem State.upstreamEnds_keeps {bs : List Block} (hb : [.forward, .link] ⊆ bs) (s t : State)
    (x : List Byte) (c : BitVec 16) :
    keepsBut bs s (t.upstreamEnds x c) ↔ keepsBut bs s t := by
  simp only [List.cons_subset, List.nil_subset, and_true] at hb
  unfold State.upstreamEnds
  (repeat' split) <;> simp [hb]

@[simp] theorem State.lineSent_keeps {bs : List Block}
    (hb : [.routes, .pins, .trace, .notices, .slots, .history, .nvm, .lines, .digest, .meters, .waste, .forward] ⊆ bs)
    (s t : State) :
    keepsBut bs s t.lineSent ↔ keepsBut bs s t := by
  simp only [List.cons_subset, List.nil_subset, and_true] at hb
  unfold State.lineSent
  (repeat' split) <;> simp [hb]

@[simp] theorem State.abandonLines_keeps {bs : List Block} (hb : [.forward, .link] ⊆ bs) (s t : State) :
    keepsBut bs s t.abandonLines ↔ keepsBut bs s t := by
  simp only [List.cons_subset, List.nil_subset, and_true] at hb
  simp [State.abandonLines, hb]

@[simp] theorem State.dropArriving_keeps {bs : List Block} (hb : [.forward, .link] ⊆ bs) (s t : State) :
    keepsBut bs s t.dropArriving ↔ keepsBut bs s t := by
  simp only [List.cons_subset, List.nil_subset, and_true] at hb
  simp [State.dropArriving, hb]

@[simp] theorem State.loseLink_keeps {bs : List Block}
    (hb : [.link, .forward, .requests, .notices, .lines, .digest] ⊆ bs)
    (s t : State) :
    keepsBut bs s t.loseLink ↔ keepsBut bs s t := by
  simp only [List.cons_subset, List.nil_subset, and_true] at hb
  simp [State.loseLink, hb]

@[simp] theorem State.linkExpires_keeps {bs : List Block}
    (hb : [.time, .link, .forward, .requests, .notices, .lines, .digest] ⊆ bs)
    (s t : State) (x : List Byte) :
    keepsBut bs s (t.linkExpires x) ↔ keepsBut bs s t := by
  simp only [List.cons_subset, List.nil_subset, and_true] at hb
  unfold State.linkExpires
  (repeat' split) <;> simp [hb]

@[simp] theorem State.changeGrade_keeps {bs : List Block} (hb : [.link, .notices] ⊆ bs) (s t : State)
    (g : GradeName) :
    keepsBut bs s (t.changeGrade g) ↔ keepsBut bs s t := by
  simp only [List.cons_subset, List.nil_subset, and_true] at hb
  simp [State.changeGrade, hb]

@[simp] theorem State.gradeExpires_keeps {bs : List Block} (hb : [.time, .forward, .link, .notices] ⊆ bs) (s t : State)
    (g : GradeName) :
    keepsBut bs s (t.gradeExpires g) ↔ keepsBut bs s t := by
  simp only [List.cons_subset, List.nil_subset, and_true] at hb
  unfold State.gradeExpires
  (repeat' split) <;> simp [hb]

@[simp] theorem State.cutReturn_keeps {bs : List Block} (hb : [.returns] ⊆ bs) (s t : State) (x : List Byte) :
    keepsBut bs s (t.cutReturn x) ↔ keepsBut bs s t := by
  simp only [List.cons_subset, List.nil_subset, and_true] at hb
  unfold State.cutReturn
  (repeat' split) <;> simp [hb]

@[simp] theorem State.returnStarts_keeps {bs : List Block} (hb : [.returns, .notices] ⊆ bs) (s t : State)
    (k : Byte) (x : BitVec 16) :
    keepsBut bs s (t.returnStarts k x) ↔ keepsBut bs s t := by
  simp only [List.cons_subset, List.nil_subset, and_true] at hb
  simp [State.returnStarts, hb]

@[simp] theorem State.takeTemperature_keeps {bs : List Block} (hb : [.heads, .notices] ⊆ bs) (s t : State) (x : List Byte)
    (h : HeadNo) :
    keepsBut bs s (State.takeTemperature x t h) ↔ keepsBut bs s t := by
  simp only [List.cons_subset, List.nil_subset, and_true] at hb
  simp [State.takeTemperature, hb]

@[simp] theorem State.readHeadStatus_keeps {bs : List Block} (hb : [.heads, .notices] ⊆ bs) (s t : State)
    (x : List Byte) (c : BitVec 16) :
    keepsBut bs s (t.readHeadStatus x c) ↔ keepsBut bs s t := by
  simp only [List.cons_subset, List.nil_subset, and_true] at hb
  simp [State.readHeadStatus, hb]

@[simp] theorem State.returnArrives_keeps {bs : List Block} (hb : [.returns, .heads, .notices] ⊆ bs) (s t : State)
    (x : List Byte) (c : BitVec 16) :
    keepsBut bs s (t.returnArrives x c) ↔ keepsBut bs s t := by
  simp only [List.cons_subset, List.nil_subset, and_true] at hb
  unfold State.returnArrives
  (repeat' split) <;> simp [hb]

/-! ### Pins -/

@[simp] theorem State.startTimer_keeps {bs : List Block} (hb : [.pins] ⊆ bs) (s t : State) (p : Pin) :
    keepsBut bs s (t.startTimer p) ↔ keepsBut bs s t := by
  simp only [List.cons_subset, List.nil_subset, and_true] at hb
  simp [State.startTimer, hb]

@[simp] theorem State.cancelTimer_keeps {bs : List Block} (hb : [.pins] ⊆ bs) (s t : State) (p : Pin) :
    keepsBut bs s (t.cancelTimer p) ↔ keepsBut bs s t := by
  simp only [List.cons_subset, List.nil_subset, and_true] at hb
  simp [State.cancelTimer, hb]

@[simp] theorem State.judgeLevel_keeps {bs : List Block} (hb : [.routes, .pins, .trace, .notices] ⊆ bs) (s t : State)
    (i : SlotNo) :
    keepsBut bs s (t.judgeLevel i) ↔ keepsBut bs s t := by
  simp only [List.cons_subset, List.nil_subset, and_true] at hb
  simp [State.judgeLevel, hb]

@[simp] theorem State.levelChanges_keeps {bs : List Block}
    (hb : [.slots, .lines, .routes, .pins, .trace, .notices, .history, .nvm, .sense] ⊆ bs)
    (s t : State) (i : SlotNo) :
    keepsBut bs s (t.levelChanges i) ↔ keepsBut bs s t := by
  simp only [List.cons_subset, List.nil_subset, and_true] at hb
  simp [State.levelChanges, hb]

@[simp] theorem State.auxChanges_keeps {bs : List Block} (hb : [.routes, .pins, .trace, .notices] ⊆ bs) (s t : State)
    (n : Fin 4) :
    keepsBut bs s (t.auxChanges n) ↔ keepsBut bs s t := by
  simp only [List.cons_subset, List.nil_subset, and_true] at hb
  simp [State.auxChanges, hb]

@[simp] theorem State.presenceChanges_keeps {bs : List Block}
    (hb : [.slots, .lines, .digest, .sense, .routes, .pins, .trace, .notices] ⊆ bs)
    (s t : State) (i : SlotNo) :
    keepsBut bs s (t.presenceChanges i) ↔ keepsBut bs s t := by
  simp only [List.cons_subset, List.nil_subset, and_true] at hb
  simp [State.presenceChanges, hb]

@[simp] theorem State.handOnInput_keeps {bs : List Block}
    (hb : [.slots, .lines, .routes, .pins, .trace, .notices, .history, .nvm, .sense, .digest] ⊆ bs)
    (s t : State) (p : Pin) :
    keepsBut bs s (t.handOnInput p) ↔ keepsBut bs s t := by
  simp only [List.cons_subset, List.nil_subset, and_true] at hb
  unfold State.handOnInput
  (repeat' split) <;> simp [hb]

@[simp] theorem State.inputChanges_keeps {bs : List Block}
    (hb : [.slots, .lines, .routes, .pins, .trace, .notices, .history, .nvm, .sense, .digest] ⊆ bs)
    (s t : State) (p : Pin) :
    keepsBut bs s (t.inputChanges p) ↔ keepsBut bs s t := by
  simp only [List.cons_subset, List.nil_subset, and_true] at hb
  simp [State.inputChanges, hb]

@[simp] theorem State.startFilter_keeps {bs : List Block}
    (hb : [.slots, .lines, .routes, .pins, .trace, .notices, .history, .nvm, .sense, .digest] ⊆ bs)
    (s t : State) (p : Pin) :
    keepsBut bs s (t.startFilter p) ↔ keepsBut bs s t := by
  simp only [List.cons_subset, List.nil_subset, and_true] at hb
  simp [State.startFilter, hb]

@[simp] theorem State.rejudgeFilter_keeps {bs : List Block}
    (hb : [.slots, .lines, .routes, .pins, .trace, .notices, .history, .nvm, .sense, .digest] ⊆ bs)
    (s t : State) (old : PinCfg) (p : Pin) :
    keepsBut bs s (State.rejudgeFilter old t p) ↔ keepsBut bs s t := by
  simp only [List.cons_subset, List.nil_subset, and_true] at hb
  unfold State.rejudgeFilter
  dsimp only
  (repeat' split) <;> simp [hb]

@[simp] theorem State.replaceDelays_keeps {bs : List Block}
    (hb : [.slots, .lines, .routes, .pins, .trace, .notices, .history, .nvm, .sense, .digest, .settings] ⊆ bs)
    (s t : State) (x : PinCfg) :
    keepsBut bs s (t.replaceDelays x) ↔ keepsBut bs s t := by
  simp only [List.cons_subset, List.nil_subset, and_true] at hb
  simp [State.replaceDelays, hb]

@[simp] theorem State.enableChanges_keeps {bs : List Block}
    (hb : [.slots, .lines, .routes, .pins, .trace, .notices, .history, .nvm, .sense] ⊆ bs)
    (s t : State) (old : Vector Bool 16) (i : SlotNo) :
    keepsBut bs s (State.enableChanges old t i) ↔ keepsBut bs s t := by
  simp only [List.cons_subset, List.nil_subset, and_true] at hb
  simp [State.enableChanges, hb]

@[simp] theorem State.replaceEnables_keeps {bs : List Block}
    (hb : [.slots, .lines, .routes, .pins, .trace, .notices, .history, .nvm, .sense, .settings] ⊆ bs)
    (s t : State) (x : PinCfg) :
    keepsBut bs s (t.replaceEnables x) ↔ keepsBut bs s t := by
  simp only [List.cons_subset, List.nil_subset, and_true] at hb
  simp [State.replaceEnables, hb]

@[simp] theorem State.replacePins_keeps {bs : List Block}
    (hb : [.slots, .lines, .routes, .pins, .trace, .notices, .history, .nvm, .sense, .digest, .settings] ⊆ bs)
    (s t : State) (x : PinCfg) :
    keepsBut bs s (t.replacePins x) ↔ keepsBut bs s t := by
  simp only [List.cons_subset, List.nil_subset, and_true] at hb
  simp [State.replacePins, hb]

/-! ### Nvm -/

@[simp] theorem State.gateForSave_keeps {bs : List Block} (hb : [.routes, .notices] ⊆ bs) (s t : State)
    (c : Channel) :
    keepsBut bs s (t.gateForSave c) ↔ keepsBut bs s t := by
  simp only [List.cons_subset, List.nil_subset, and_true] at hb
  simp [State.gateForSave, hb]

@[simp] theorem State.chargeLines_keeps {bs : List Block}
    (hb : [.routes, .pins, .trace, .notices, .slots, .history, .nvm, .lines, .digest, .meters, .forward, .link] ⊆ bs)
    (s t : State) :
    keepsBut bs s t.chargeLines ↔ keepsBut bs s t := by
  simp only [List.cons_subset, List.nil_subset, and_true] at hb
  simp [State.chargeLines, hb]

@[simp] theorem State.saveDrawnSince_keeps {bs : List Block} (hb : [.slots, .history, .nvm] ⊆ bs) (s t : State)
    (i : SlotNo) :
    keepsBut bs s (t.saveDrawnSince i) ↔ keepsBut bs s t := by
  simp only [List.cons_subset, List.nil_subset, and_true] at hb
  simp [State.saveDrawnSince, hb]

@[simp] theorem State.levelsArrive_keeps {bs : List Block} (hb : [.forward, .link] ⊆ bs) (s t : State) (x : List Byte) :
    keepsBut bs s (t.levelsArrive x) ↔ keepsBut bs s t := by
  simp only [List.cons_subset, List.nil_subset, and_true] at hb
  unfold State.levelsArrive
  (repeat' split) <;> simp [hb]

@[simp] theorem State.beginSave_keeps {bs : List Block}
    (hb : [.routes, .pins, .trace, .notices, .slots, .history, .nvm, .lines, .digest, .meters, .forward, .link] ⊆ bs)
    (s t : State) (k : SaveCause) (x : List Byte) :
    keepsBut bs s (t.beginSave k x) ↔ keepsBut bs s t := by
  simp only [List.cons_subset, List.nil_subset, and_true] at hb
  simp [State.beginSave, hb]

@[simp] theorem State.startWrites_keeps {bs : List Block} (hb : [.nvm] ⊆ bs) (s t : State) :
    keepsBut bs s t.startWrites ↔ keepsBut bs s t := by
  simp only [List.cons_subset, List.nil_subset, and_true] at hb
  simp [State.startWrites, hb]

@[simp] theorem State.raiseStore_keeps {bs : List Block} (hb : [.notices] ⊆ bs) (s t : State)
    (e : StoreEvent) (r : Option RecordName) :
    keepsBut bs s (t.raiseStore e r) ↔ keepsBut bs s t := by
  simp only [List.cons_subset, List.nil_subset, and_true] at hb
  simp [State.raiseStore, hb]

@[simp] theorem State.reportRecord_keeps {bs : List Block} (hb : [.notices] ⊆ bs) (s t : State)
    (x : RecordName × ReadResult) :
    keepsBut bs s (t.reportRecord x) ↔ keepsBut bs s t := by
  simp only [List.cons_subset, List.nil_subset, and_true] at hb
  unfold State.reportRecord
  (repeat' split) <;> simp [hb]

@[simp] theorem State.reportEviction_keeps {bs : List Block} (hb : [.notices] ⊆ bs) (s t : State)
    (x : EntryNo × HistoryEntry) :
    keepsBut bs s (t.reportEviction x) ↔ keepsBut bs s t := by
  simp only [List.cons_subset, List.nil_subset, and_true] at hb
  simp [State.reportEviction, hb]

@[simp] theorem State.startNotices_keeps {bs : List Block} (hb : [.notices] ⊆ bs) (s t : State) :
    keepsBut bs s t.startNotices ↔ keepsBut bs s t := by
  simp only [List.cons_subset, List.nil_subset, and_true] at hb
  simp [State.startNotices, hb]

@[simp] theorem State.startRoute_keeps {bs : List Block} (hb : [.routes, .pins] ⊆ bs) (s t : State) (c : Channel) :
    keepsBut bs s (t.startRoute c) ↔ keepsBut bs s t := by
  simp only [List.cons_subset, List.nil_subset, and_true] at hb
  simp [State.startRoute, hb]

@[simp] theorem State.startInput_keeps {bs : List Block}
    (hb : [.slots, .lines, .routes, .pins, .trace, .notices, .history, .nvm, .sense, .digest] ⊆ bs)
    (s t : State) (p : Pin) :
    keepsBut bs s (t.startInput p) ↔ keepsBut bs s t := by
  simp only [List.cons_subset, List.nil_subset, and_true] at hb
  simp [State.startInput, hb]

/-- A start-up changes the parts that its steps 4 to 7 touch, from the blocks' start-up states (R192). -/
theorem State.startUp_keeps (s : State) :
    keepsBut [.slots, .lines, .routes, .pins, .trace, .notices, .history, .nvm, .sense, .digest] s.coldStart s.startUp := by
  simp [State.startUp]

/-! ### Power -/

@[simp] theorem State.putRaw_keeps {bs : List Block} (hb : [.pins] ⊆ bs) (s t : State) (p : Pin) (b : Bool) :
    keepsBut bs s (t.putRaw p b) ↔ keepsBut bs s t := by
  simp only [List.cons_subset, List.nil_subset, and_true] at hb
  simp [State.putRaw, hb]

@[simp] theorem State.finishGrant_keeps {bs : List Block} (hb : [.returns, .requests, .notices] ⊆ bs) (s t : State) :
    keepsBut bs s t.finishGrant ↔ keepsBut bs s t := by
  simp only [List.cons_subset, List.nil_subset, and_true] at hb
  unfold State.finishGrant
  (repeat' split) <;> simp [hb]

@[simp] theorem State.grantNotice_keeps {bs : List Block} (hb : [.notices, .returns] ⊆ bs) (s t : State)
    (n : Notice) :
    keepsBut bs s (t.grantNotice n) ↔ keepsBut bs s t := by
  simp only [List.cons_subset, List.nil_subset, and_true] at hb
  simp [State.grantNotice, hb]

@[simp] theorem State.chooseGrant_keeps {bs : List Block} (hb : [.notices, .returns] ⊆ bs) (s t : State) :
    keepsBut bs s t.chooseGrant ↔ keepsBut bs s t := by
  simp only [List.cons_subset, List.nil_subset, and_true] at hb
  unfold State.chooseGrant
  (repeat' split) <;> simp [hb]

/-! ### The forward buffer -/

/-- The drain changes how much of each packet is sent, and nothing else of it. -/
theorem sendSymbols_keeps (n : Nat) (ps : List ForwardPacket) :
    (sendSymbols n ps).map (fun p => (p.placed, p.total, p.live)) = ps.map fun p => (p.placed, p.total, p.live) := by
  induction ps generalizing n with
  | nil => cases n <;> rfl
  | cons p ps ih => cases h : p.live <;> simp [sendSymbols, h, ih]

/-- R143: while no check of a line in flight has been sent, the drain sends none: of the symbols of that line the start
symbol and the bytes before the check leave. -/
theorem sendSymbols_holds_checks (n : Nat) (ps : List ForwardPacket)
    (h : ∀ p ∈ ps, p.live = true → p.sent ≤ p.total - 2 + 1) :
    ∀ q ∈ sendSymbols n ps, q.live = true → q.sent ≤ q.total - 2 + 1 := by
  induction ps generalizing n with
  | nil => cases n <;> simp [sendSymbols]
  | cons p ps ih =>
    intro q hq live
    have head := h p (List.mem_cons_self ..)
    have tail := fun q hq => h q (List.mem_cons_of_mem _ hq)
    rw [sendSymbols, List.mem_cons] at hq
    rcases hq with rfl | hq
    · have r : p.ready ≤ p.total - 2 + 1 - p.sent := by
        have l : p.live = true := live
        simp only [ForwardPacket.ready, l, if_true]; omega
      have := head live
      show p.sent + min n p.ready ≤ p.total - 2 + 1
      omega
    · split at hq
      · exact tail q hq live
      · exact ih (n - p.ready) tail q hq live

/-- R138: the drain sends symbols, and places none: at most so many fewer are left. -/
theorem unsentSymbols_sendSymbols (n : Nat) (ps : List ForwardPacket) :
    unsentSymbols (sendSymbols n ps) ≤ unsentSymbols ps ∧ unsentSymbols ps ≤ unsentSymbols (sendSymbols n ps) + n := by
  induction ps generalizing n with
  | nil => cases n <;> simp [sendSymbols]
  | cons p ps ih =>
    have tail := ih (n - p.ready)
    cases h : p.live <;> simp [sendSymbols, h, unsentSymbols, ForwardPacket.unsent] at tail ⊢ <;> omega

/-- A packet that has left holds no symbol to send. -/
theorem unsentSymbols_filter_stays (ps : List ForwardPacket) (h : ∀ p ∈ ps, p.placed.length ≤ p.total) :
    unsentSymbols (ps.filter ForwardPacket.stays) = unsentSymbols ps := by
  induction ps with
  | nil => rfl
  | cons p ps ih =>
    have tail := ih fun q hq => h q (List.mem_cons_of_mem _ hq)
    have head := h p (List.mem_cons_self ..)
    cases stays : p.stays
    · have : p.unsent = 0 := by
        simp only [ForwardPacket.stays, Bool.or_eq_false_iff, decide_eq_false_iff_not] at stays
        simp only [ForwardPacket.unsent]; omega
      simp_all [unsentSymbols]
    · simp_all [unsentSymbols]

theorem sendSymbols_placed_le (n : Nat) (ps : List ForwardPacket) (h : ∀ p ∈ ps, p.placed.length ≤ p.total) :
    ∀ q ∈ sendSymbols n ps, q.placed.length ≤ q.total := by
  intro q hq
  have m := List.mem_map_of_mem (f := fun p : ForwardPacket => (p.placed, p.total, p.live)) hq
  rw [sendSymbols_keeps, List.mem_map] at m
  obtain ⟨p, hp, e⟩ := m
  have := h p hp
  simp only [Prod.mk.injEq] at e
  rw [← e.1, ← e.2.1]; exact this

/-- R138: in each symbol time one symbol of what the buffer holds is sent, but in those that a line end took early
(log 15). -/
theorem Forward.send_toSend (f : Forward) (n : Nat) (h : ∀ p ∈ f.buffer, p.placed.length ≤ p.total) :
    (f.send n).toSend = f.toSend - (n - f.early) := by
  have sent := unsentSymbols_sendSymbols (f.held + (n - f.early)) f.buffer
  have left := unsentSymbols_filter_stays (sendSymbols (f.held + (n - f.early)) f.buffer)
    (sendSymbols_placed_le _ _ h)
  simp only [Forward.toSend, Forward.send, left]
  omega

/-- R138: the symbol times that pass send as many symbols, oldest first. -/
theorem unsentSymbols_passSymbols (n : Nat) (ps : List ForwardPacket) :
    unsentSymbols (passSymbols n ps) = unsentSymbols ps - n := by
  induction ps generalizing n with
  | nil => simp [passSymbols, unsentSymbols]
  | cons p ps ih =>
    have tail := ih (n - p.unsent)
    simp [passSymbols, unsentSymbols, ForwardPacket.unsent] at tail ⊢
    omega

/-- The symbols to send are those that no symbol time has been counted for. -/
theorem Forward.toSend_eq (f : Forward) : f.toSend = unsentSymbols f.passed :=
  (unsentSymbols_passSymbols f.held f.buffer).symm

/-- R138: of the symbols to send, the bytes are the backlog. -/
theorem Forward.backlog_le (f : Forward) : f.backlog ≤ f.toSend := by
  rw [Forward.toSend_eq]
  refine List.sum_le_sum fun p _ => ?_
  simp only [ForwardPacket.bytesLeft, ForwardPacket.unsent]; omega

/-- Symbol times pass one after another. -/
theorem passSymbols_add (m n : Nat) (ps : List ForwardPacket) :
    passSymbols n (passSymbols m ps) = passSymbols (m + n) ps := by
  induction ps generalizing m n with
  | nil => rfl
  | cons p ps ih =>
    simp only [passSymbols, ih, List.cons.injEq, ForwardPacket.mk.injEq, ForwardPacket.unsent, true_and, and_true]
    refine ⟨by omega, congrArg (passSymbols · ps) (by omega)⟩

/-- Symbol times in which the buffer holds nothing ready to send change nothing. -/
theorem passSymbols_min (n : Nat) (ps : List ForwardPacket) : passSymbols (min (unsentSymbols ps) n) ps = passSymbols n ps := by
  induction ps generalizing n with
  | nil => rfl
  | cons p ps ih =>
    have u : unsentSymbols (p :: ps) = p.unsent + unsentSymbols ps := rfl
    simp only [passSymbols, u, List.cons.injEq, ForwardPacket.mk.injEq, true_and, and_true]
    refine ⟨by omega, ?_⟩
    rw [← ih (n - p.unsent)]
    exact congrArg (passSymbols · ps) (by omega)

/-- The symbols that a check holds up are those that have passed and were not sent. -/
theorem passSymbols_sendSymbols (n : Nat) (ps : List ForwardPacket) :
    passSymbols (n - (unsentSymbols ps - unsentSymbols (sendSymbols n ps))) (sendSymbols n ps) = passSymbols n ps := by
  induction ps generalizing n with
  | nil => rfl
  | cons p ps ih =>
    have ready : p.ready ≤ p.unsent := by
      simp only [ForwardPacket.ready, ForwardPacket.unsent]; split <;> omega
    have left := unsentSymbols_sendSymbols (n - p.ready) ps
    have tail := ih (n - p.ready)
    have sent (l : Bool) :
        ForwardPacket.unsent { p with sent := p.sent + min n p.ready, live := l } = p.unsent - min n p.ready := by
      simp only [ForwardPacket.unsent]; omega
    have u (q : ForwardPacket) (qs) : unsentSymbols (q :: qs) = q.unsent + unsentSymbols qs := rfl
    cases live : p.live
    · have all : p.ready = p.unsent := by simp [ForwardPacket.ready, ForwardPacket.unsent, live]
      simp only [sendSymbols, live, passSymbols, u, sent, List.cons.injEq, ForwardPacket.mk.injEq, true_and, and_true,
        Bool.false_eq_true, if_false]
      refine ⟨by omega, ?_⟩
      rw [← all, ← tail]
      exact congrArg (passSymbols · _) (by omega)
    · simp only [sendSymbols, live, passSymbols, u, sent, List.cons.injEq, ForwardPacket.mk.injEq, true_and, and_true,
        if_true]
      refine ⟨by omega, congrArg (passSymbols · ps) (by omega)⟩

/-- A packet that has left is no part of the backlog. -/
theorem bytesLeft_filter_stays (n : Nat) (ps : List ForwardPacket) (h : ∀ p ∈ ps, p.placed.length ≤ p.total) :
    ((passSymbols n (ps.filter ForwardPacket.stays)).map ForwardPacket.bytesLeft).sum =
      ((passSymbols n ps).map ForwardPacket.bytesLeft).sum := by
  induction ps generalizing n with
  | nil => rfl
  | cons p ps ih =>
    have tail := fun n => ih n fun q hq => h q (List.mem_cons_of_mem _ hq)
    have head := h p (List.mem_cons_self ..)
    cases stays : p.stays
    · simp only [ForwardPacket.stays, Bool.or_eq_false_iff, decide_eq_false_iff_not] at stays
      have u : p.unsent = 0 := by simp only [ForwardPacket.unsent]; omega
      have b : p.bytesLeft = 0 := by simp only [ForwardPacket.bytesLeft]; omega
      have gone : ¬ p.stays := by simp [ForwardPacket.stays, stays]
      simp [gone, tail, passSymbols, u]
      simpa [ForwardPacket.bytesLeft] using b
    · simp [stays, tail, passSymbols]

/-- R138: the backlog once so many symbol times have passed, but for those that a line end took early (log 15):
whether a check holds symbols up does not matter to it. -/
theorem Forward.send_backlog (f : Forward) (n : Nat) (h : ∀ p ∈ f.buffer, p.placed.length ≤ p.total) :
    (f.send n).backlog = ((passSymbols (n - f.early) f.passed).map ForwardPacket.bytesLeft).sum := by
  have placed := sendSymbols_placed_le (f.held + (n - f.early)) f.buffer h
  simp only [Forward.backlog, Forward.passed, Forward.send, passSymbols_min, passSymbols_add,
    bytesLeft_filter_stays _ _ placed, unsentSymbols_filter_stays _ placed, passSymbols_sendSymbols]

/-- R138: a fill symbol is sent when the buffer holds nothing ready to send. -/
theorem Forward.sends_fill_iff (f : Forward) : f.sends = .fill ↔ f.toSend = 0 := by
  rw [Forward.toSend_eq]
  unfold Forward.sends
  generalize f.passed = ps
  induction ps with
  | nil => simp [unsentSymbols]
  | cons p ps ih =>
    by_cases h : 0 < p.unsent
    · have next : p.next ≠ .fill := by unfold ForwardPacket.next; split <;> simp
      simp [h, next, unsentSymbols]; omega
    · have z : p.unsent = 0 := by omega
      simpa [h, z, unsentSymbols] using ih

@[simp] theorem Forward.send_flights (f : Forward) (n : Nat) : (f.send n).flights = f.flights := rfl

@[simp] theorem Forward.send_early (f : Forward) (n : Nat) : (f.send n).early = f.early - n := rfl

/-- What is held stands in the buffer. -/
theorem Forward.send_held_le (f : Forward) (n : Nat) : (f.send n).held ≤ unsentSymbols (f.send n).buffer :=
  Nat.min_le_left ..

@[simp] theorem Forward.endLine_flights (f : Forward) (later : List Flight) : (f.endLine later).flights = later := rfl

/-- R144: no packet is a line in flight after the abandonment. -/
@[simp] theorem ForwardPacket.abandon_live (p : ForwardPacket) : p.abandon.live = false := by
  cases h : p.live <;> simp [ForwardPacket.abandon, h]

end Sys2Proof.Machine
end

