-- ==== Sys2Proof/Laws/Requests.lean ====
section
/-!
SUPPORT. What taking a request does, said once: its packet touches the link, the forward buffer and the notices only,
and a request with a place free gives the answer of its meaning; and how field bytes read back.
-/

namespace Sys2Proof.Machine

open Sys2Proof

/-- The arrival of a request's packet replaces the link, the forward buffer and the notices, and nothing else. -/
theorem requestArrives_eq (s : State) (fields : List Byte) :
    s.requestArrives fields =
      { s with
        link := (s.requestArrives fields).link
        forward := (s.requestArrives fields).forward
        notices := (s.requestArrives fields).notices } := by
  have k : keepsBut [.link, .forward, .notices] s (s.requestArrives fields) := by simp
  rw [keepsBut_iff] at k
  generalize s.requestArrives fields = t at k ⊢
  cases t
  simp_all

/-- A request taken with a place free is answered as its meaning says. -/
theorem takeRequest_next {s : State} (h : takesRequests s) (tag code : Byte) (fields : List Byte)
    (k : State → Answer) :
    whenPowered s (fun s => s.takeRequest tag code fields k) =
      .next
        ((k (s.requestArrives fields)).state.addReply
          ⟨tag, code, (k (s.requestArrives fields)).outcome, (k (s.requestArrives fields)).contents⟩) := by
  have e : (s.requestArrives fields).requests = s.requests := by rw [requestArrives_eq]
  have n : (s.requestArrives fields).requests.placesInUse < 16 := by rw [e]; exact h.2
  simp only [whenPowered, State.takeRequest, State.carryOut, h.1, n, if_true]

/-- The same, with the parts that the packet touches named. -/
theorem requestArrives_cases (s : State) (fields : List Byte) :
    ∃ l f n, s.requestArrives fields = { s with link := l, forward := f, notices := n } :=
  ⟨_, _, _, requestArrives_eq s fields⟩

/-- A request whose meaning is DONE is answered so, and leaves what its meaning leaves. -/
theorem doneWith {i : Instr} {s u : State} {tag code : Byte} {fields contents : List Byte} {k : State → Answer}
    {changed : List Block} (h : takesRequests s) (hp : requestParts i = some (tag, code, fields))
    (he : exec i s = whenPowered s fun s => s.takeRequest tag code fields k)
    (hk : k (s.requestArrives fields) = done u contents)
    (hf : keepsBut (.notices :: changed) (s.requestArrives fields) u)
    (hc : Block.requests ∉ changed ∧ Block.link ∉ changed ∧ Block.forward ∉ changed) :
    DoneWith i s (u.addReply ⟨tag, code, .done, contents⟩) contents changed := by
  have e : (s.requestArrives fields).requests = s.requests := by rw [requestArrives_eq]
  have hr := hf.2.2 .requests (by simp [hc.1])
  refine ⟨tag, code, fields, hp, ?_, ?_, hf.2.2 .link (by simp [hc.2.1]), hf.2.2 .forward (by simp [hc.2.2]), ?_⟩
  · rw [he, takeRequest_next h, hk]; rfl
  · simp only [sameBlock] at hr
    simp [RequestUnit.answered, State.addReply, hr, e]
  · have a : keepsBut (requestBlocks ++ changed) s (s.requestArrives fields) := by simp [requestBlocks]
    have b : keepsBut (requestBlocks ++ changed) (s.requestArrives fields) u :=
      hf.mono (by simp [requestBlocks, List.subset_def]; tauto)
    have c : keepsBut (requestBlocks ++ changed) u (u.addReply ⟨tag, code, .done, contents⟩) := by
      simp [requestBlocks, State.addReply]
    exact (a.trans b).trans c

/-- A request whose meaning refuses is answered so, and changes nothing. -/
theorem refusedWith {i : Instr} {s : State} {tag code : Byte} {fields : List Byte} {k : State → Answer}
    {o : ReplyOutcome} (h : takesRequests s) (hp : requestParts i = some (tag, code, fields))
    (he : exec i s = whenPowered s fun s => s.takeRequest tag code fields k)
    (hk : k (s.requestArrives fields) = refuse (s.requestArrives fields) o) : RefusedWith i s o := by
  refine ⟨tag, code, fields, hp, ?_⟩
  rw [he, takeRequest_next h, hk]; rfl

/-! ### Fields -/

@[simp] theorem fieldAt_one (bytes : List Byte) (n : Nat) (h : n < bytes.length) :
    fieldAt bytes n 1 = (bytes[n]).toNat := by
  rw [fieldAt, natOf, List.drop_eq_getElem_cons h]
  simp [-List.getElem_cons_drop]

theorem fieldAt_one_byteAt (bytes : List Byte) (n : Nat) (h : n < bytes.length) :
    fieldAt bytes n 1 = (byteAt bytes n).toNat := by
  rw [fieldAt_one bytes n h]
  simp [byteAt, List.getD, List.getElem?_eq_getElem h]

/-- A number of a thing written as a byte reads back as itself. -/
theorem numberOf_ofNat {n : Nat} (i : Fin n) (h : n ≤ 256) : numberOf n (BitVec.ofNat 8 i.val).toNat = some i := by
  have : i.val < 256 := by omega
  simp [numberOf, Nat.mod_eq_of_lt this]

theorem numberOf_eq_none {n v : Nat} (h : n ≤ v) : numberOf n v = none := by
  simp [numberOf, Nat.not_lt.mpr h]

end Sys2Proof.Machine
end

