-- ==== Sys2Proof/Laws/Route.lean ====
section
/-!
SUPPORT. What the Route Unit's judging and the Slot Table's handing on of a slot's fitness can do (R12, R53): they read
the time, the settings, the slots, the routes, the route trace and the pins, change routes, trace and pins, and raise
ROUTE and GATE notices, whatever the notices and the rest of the state are.
-/

namespace Sys2Proof.Machine

open Sys2Proof

/-- The two states agree on all that the judging of a route reads. -/
def sameRead (s u : State) : Prop :=
  u.time = s.time ∧ u.settings = s.settings ∧ u.slots = s.slots ∧ u.routes = s.routes ∧ u.trace = s.trace ∧
    u.pins = s.pins

theorem sameRead.refl (s : State) : sameRead s s := ⟨rfl, rfl, rfl, rfl, rfl, rfl⟩

/-- The notices after notices that were raised one after another. -/
def raisedOnto (mask : Vector Bool 14) (raised : List (NoticeKind × Subject × Details)) (u : NoticeUnit) :
    NoticeUnit :=
  raised.foldl (fun u n => u.take mask[n.1.position] n.1 n.2.1 n.2.2) u

/-- What a change of the routing at a state is: new routes, trace and pins, and ROUTE and GATE notices, the same for
every state that agrees with it on what is read. -/
def Reroutes (s : State) (f : State → State) : Prop :=
  ∃ (routes : Vector Route 12) (trace : List TraceEntry) (pins : Pins)
    (raised : List (NoticeKind × Subject × Details)),
    (∀ n ∈ raised, n.1 = .route ∨ n.1 = .gate) ∧
      ∀ u, sameRead s u →
        f u =
          { u with
            routes := routes, trace := trace, pins := pins
            notices := raisedOnto u.settings.mask raised u.notices }

/-! ### How such changes combine -/

theorem Reroutes.id (s : State) : Reroutes s fun u => u := by
  refine ⟨s.routes, s.trace, s.pins, [], by simp, ?_⟩
  rintro u ⟨-, -, -, h4, h5, h6⟩
  rw [← h4, ← h5, ← h6]; rfl

theorem Reroutes.comp {s : State} {f g : State → State} (hf : Reroutes s f) (hg : Reroutes (f s) g) :
    Reroutes s fun u => g (f u) := by
  obtain ⟨r, t, p, l, hl, hf⟩ := hf
  obtain ⟨r', t', p', l', hl', hg⟩ := hg
  refine ⟨r', t', p', l ++ l', ?_, ?_⟩
  · intro n hn
    rcases List.mem_append.1 hn with h | h
    exacts [hl n h, hl' n h]
  · intro u hu
    have hs := hf s (sameRead.refl s)
    have : sameRead (f s) (f u) := by
      rw [hs, hf u hu]
      exact ⟨hu.1, hu.2.1, hu.2.2.1, rfl, rfl, rfl⟩
    beta_reduce
    rw [hg _ this, hf u hu]
    simp [raisedOnto, List.foldl_append]

/-- A change that is the same for every state that agrees on what is read. -/
theorem Reroutes.congr {s : State} {f g : State → State} (h : ∀ u, sameRead s u → g u = f u) (hf : Reroutes s f) :
    Reroutes s g := by
  obtain ⟨r, t, p, l, hl, hf⟩ := hf
  exact ⟨r, t, p, l, hl, fun u hu => (h u hu).trans (hf u hu)⟩

theorem Reroutes.ite {s : State} {p : State → Prop} [∀ u, Decidable (p u)] {f g : State → State}
    (h : ∀ u, sameRead s u → (p u ↔ p s)) (hf : Reroutes s f) (hg : Reroutes s g) :
    Reroutes s fun u => if p u then f u else g u := by
  by_cases c : p s
  · exact Reroutes.congr (fun u hu => by simp [(h u hu).2 c]) hf
  · exact Reroutes.congr (fun u hu => by simp [mt (h u hu).1 c]) hg

theorem Reroutes.foldl {α : Type} {f : State → α → State} (h : ∀ s a, Reroutes s fun u => f u a) (l : List α)
    (s : State) : Reroutes s fun u => l.foldl f u := by
  induction l generalizing s with
  | nil => exact Reroutes.id s
  | cons a l ih => exact Reroutes.comp (f := fun u => f u a) (h s a) (ih _)

/-! ### The parts -/

theorem Reroutes.putRoute {s : State} {c : Channel} {r : State → Route} (h : ∀ u, sameRead s u → r u = r s) :
    Reroutes s fun u => u.putRoute c (r u) := by
  refine ⟨s.routes.set c (r s), s.trace, s.pins, [], by simp, ?_⟩
  intro u hu
  beta_reduce
  rw [h u hu, State.putRoute, hu.2.2.2.1, ← hu.2.2.2.2.1, ← hu.2.2.2.2.2]; rfl

theorem Reroutes.raise {s : State} {k : NoticeKind} (hk : k = .route ∨ k = .gate) {u : Subject} {d : State → Details}
    (h : ∀ v, sameRead s v → d v = d s) : Reroutes s fun v => v.raise k u (d v) := by
  refine ⟨s.routes, s.trace, s.pins, [(k, u, d s)], by simpa using hk, ?_⟩
  intro v hv
  beta_reduce
  rw [h v hv, State.raise, ← hv.2.2.2.1, ← hv.2.2.2.2.1, ← hv.2.2.2.2.2]; rfl

theorem Reroutes.addTrace {s : State} {e : State → TraceEntry} (h : ∀ u, sameRead s u → e u = e s) :
    Reroutes s fun u => u.addTrace (e u) := by
  refine ⟨s.routes, traceAdds s.trace (e s), s.pins, [], by simp, ?_⟩
  intro u hu
  beta_reduce
  rw [h u hu, State.addTrace, traceAdds, ← hu.2.2.2.1, ← hu.2.2.2.2.1, ← hu.2.2.2.2.2]; rfl

/-- Two states that agree on what is read are one state but for the rest, and so read the same. -/
theorem sameRead.eq {s u : State} (h : sameRead s u) :
    u =
      { u with
        time := s.time, settings := s.settings, slots := s.slots, routes := s.routes, trace := s.trace
        pins := s.pins } := by
  obtain ⟨h1, h2, h3, h4, h5, h6⟩ := h
  rw [← h1, ← h2, ← h3, ← h4, ← h5, ← h6]

theorem sameRead.route {s u : State} (h : sameRead s u) (c : Channel) : u.route c = s.route c := by
  rw [h.eq]; rfl

theorem sameRead.routeCfg {s u : State} (h : sameRead s u) (c : Channel) : u.routeCfg c = s.routeCfg c := by
  rw [h.eq]; rfl

theorem sameRead.valveLevel {s u : State} (h : sameRead s u) (c : Channel) : u.valveLevel c = s.valveLevel c := by
  rw [h.eq]; rfl

theorem sameRead.noSupply {s u : State} (h : sameRead s u) (c : Channel) : u.noSupply c = s.noSupply c := by
  rw [h.eq]; rfl

theorem sameRead.alternateFit {s u : State} (h : sameRead s u) (c : Channel) : u.alternateFit c = s.alternateFit c := by
  rw [h.eq]; rfl

theorem sameRead.leaveDefault {s u : State} (h : sameRead s u) (c : Channel) : u.leaveDefault c = s.leaveDefault c := by
  rw [h.eq]; rfl

theorem sameRead.forcedReturn {s u : State} (h : sameRead s u) (c : Channel) : u.forcedReturn c = s.forcedReturn c := by
  rw [h.eq]; rfl

theorem sameRead.revertHolds {s u : State} (h : sameRead s u) (c : Channel) : u.revertHolds c = s.revertHolds c := by
  rw [h.eq]; rfl

theorem sameRead.fit {s u : State} (h : sameRead s u) (i : SlotNo) (c : Channel) : u.fit i c = s.fit i c := by
  rw [h.eq]; rfl

theorem sameRead.drawable {s u : State} (h : sameRead s u) (i : SlotNo) (c : Channel) : u.drawable i c = s.drawable i c := by
  rw [h.eq]; rfl

theorem sameRead.after {s u : State} (h : sameRead s u) (n : Nat) : u.after n = s.after n := by
  rw [h.eq]; rfl

theorem State.driveValve_reroutes (s : State) (c : Channel) : Reroutes s fun u => u.driveValve c := by
  refine ⟨s.routes, s.trace, { s.pins with valves := s.pins.valves.set c (s.valveLevel c) }, [], by simp, ?_⟩
  intro u hu
  beta_reduce
  rw [State.driveValve, hu.valveLevel c, hu.2.2.2.2.2, ← hu.2.2.2.1, ← hu.2.2.2.2.1]; rfl

theorem State.setGate_reroutes {s : State} {c : Channel} {g : State → Gate} (h : ∀ u, sameRead s u → g u = g s) :
    Reroutes s fun u => u.setGate c (g u) := by
  have hr : ∀ u, sameRead s u → u.route c = s.route c := fun u hu => hu.route c
  refine Reroutes.congr (f := fun u =>
    if (g s).primary = (s.route c).gate.primary then u.putRoute c { s.route c with gate := g s }
    else (u.putRoute c { s.route c with gate := g s }).raise .gate (.channel c)
      (.gate (g s).primary (s.route c).gate.primary (g s))) ?_ ?_
  · intro u hu
    simp only [State.setGate, h u hu, hr u hu]
  · refine Reroutes.ite (p := fun _ => _) (fun _ _ => Iff.rfl) (Reroutes.putRoute fun _ _ => rfl) ?_
    exact Reroutes.comp (Reroutes.putRoute fun _ _ => rfl)
      (g := fun v => v.raise .gate (.channel c) (.gate (g s).primary (s.route c).gate.primary (g s)))
      (Reroutes.raise (.inr rfl) fun _ _ => rfl)

theorem State.judgeSupply_reroutes (s : State) (c : Channel) : Reroutes s fun u => u.judgeSupply c :=
  State.setGate_reroutes fun u hu => by rw [hu.route c, hu.noSupply c]

theorem State.raiseRoute_reroutes (s : State) (c : Channel) (b : Bool) : Reroutes s fun u => u.raiseRoute c b :=
  Reroutes.raise (.inl rfl) fun u hu => by rw [hu.route c]

theorem State.switchTo_reroutes (s : State) (c : Channel) (k : SwitchCause) : Reroutes s fun u => u.switchTo c k := by
  refine Reroutes.congr (f := fun u =>
    ((((u.putRoute c ((s.route c).switched (s.routeCfg c) k)).driveValve c).addTrace
      { channel := c, fromSlot := (s.route c).active, toSlot := (s.routeCfg c).target k, cause := k,
        lastLine := (s.route c).lastLine, time := s.time }).raise .route (.channel c)
      (.switch (s.route c).active ((s.routeCfg c).target k) k ((s.route c).switched (s.routeCfg c) k).state)).setGate c
      { (s.route c).gate with
        settle := decide (0 < (s.routeCfg c).settleLines)
        noSupply := ((((u.putRoute c ((s.route c).switched (s.routeCfg c) k)).driveValve c).addTrace
          { channel := c, fromSlot := (s.route c).active, toSlot := (s.routeCfg c).target k, cause := k,
            lastLine := (s.route c).lastLine, time := s.time }).raise .route (.channel c)
          (.switch (s.route c).active ((s.routeCfg c).target k) k
            ((s.route c).switched (s.routeCfg c) k).state)).noSupply c }) ?_ ?_
  · intro u hu
    simp only [State.switchTo, hu.route c, hu.routeCfg c]
    have : ((u.putRoute c ((s.route c).switched (s.routeCfg c) k)).driveValve c).time = s.time := hu.1
    rw [this]
  · exact Reroutes.comp
      (Reroutes.comp
        (Reroutes.comp
          (Reroutes.comp (Reroutes.putRoute fun _ _ => rfl) (State.driveValve_reroutes _ c))
          (g := fun u => u.addTrace
            { channel := c, fromSlot := (s.route c).active, toSlot := (s.routeCfg c).target k, cause := k,
              lastLine := (s.route c).lastLine, time := s.time })
          (Reroutes.addTrace fun _ _ => rfl))
        (g := fun u => u.raise .route (.channel c)
          (.switch (s.route c).active ((s.routeCfg c).target k) k ((s.route c).switched (s.routeCfg c) k).state))
        (Reroutes.raise (.inl rfl) fun _ _ => rfl))
      (g := fun v => v.setGate c
        { (s.route c).gate with settle := decide (0 < (s.routeCfg c).settleLines), noSupply := v.noSupply c })
      (State.setGate_reroutes fun u hu => by rw [hu.noSupply c])

/-- The route record of the channel is replaced by one that is computed from what is read, and a ROUTE notice follows. -/
theorem State.putRoute_raiseRoute_reroutes {s : State} {c : Channel} {r : State → Route} (b : Bool)
    (h : ∀ u, sameRead s u → r u = r s) : Reroutes s fun u => (u.putRoute c (r u)).raiseRoute c b :=
  Reroutes.comp (Reroutes.putRoute h) (State.raiseRoute_reroutes _ c b)

/-- A truth value that is read. -/
theorem Reroutes.iteBool {s : State} {p : State → Bool} {f g : State → State} (h : ∀ u, sameRead s u → p u = p s)
    (hf : Reroutes s f) (hg : Reroutes s g) : Reroutes s fun u => if p u = true then f u else g u :=
  Reroutes.ite (p := fun u => p u = true) (fun u hu => by rw [h u hu]) hf hg

/-- A condition on the settings, which no change of the routing touches. -/
theorem Reroutes.iteCfg {s : State} {c : Channel} {p : RouteCfg → Prop} [DecidablePred p] {f g : State → State}
    (hf : Reroutes s f) (hg : Reroutes s g) : Reroutes s fun u => if p (u.routeCfg c) then f u else g u :=
  Reroutes.ite (p := fun u => p (u.routeCfg c)) (fun u hu => by rw [hu.routeCfg c]) hf hg

theorem State.expirePendingAlt_reroutes (s : State) (c : Channel) : Reroutes s fun u => u.expirePendingAlt c := by
  unfold State.expirePendingAlt
  refine Reroutes.iteBool (fun u hu => hu.alternateFit c) (State.switchTo_reroutes s c _) ?_
  exact State.putRoute_raiseRoute_reroutes true fun u hu => by rw [hu.route c]

/-- A switch timer that starts, with what follows at once when its delay is 0. -/
theorem Reroutes.thenAtOnce {s : State} {c : Channel} {f g : State → State} {p : RouteCfg → Prop} [DecidablePred p]
    (hf : Reroutes s f) (hg : Reroutes (f s) g) :
    Reroutes s fun u => if p (u.routeCfg c) then g (f u) else f u :=
  Reroutes.iteCfg (Reroutes.comp hf hg) hf

theorem State.enterPendingAlt_reroutes (s : State) (c : Channel) : Reroutes s fun u => u.enterPendingAlt c :=
  Reroutes.thenAtOnce (p := fun cfg => cfg.switchDelay = 0)
    (State.putRoute_raiseRoute_reroutes false (r := fun u =>
      { u.route c with state := .pendingAlt, switchTimer := .running (u.after (u.routeCfg c).switchDelay) })
      fun u hu => by rw [hu.route c, hu.routeCfg c, hu.after])
    (State.expirePendingAlt_reroutes _ c)

theorem State.judgeOnDefault_reroutes (s : State) (c : Channel) : Reroutes s fun u => u.judgeOnDefault c := by
  unfold State.judgeOnDefault
  exact Reroutes.iteBool (fun u hu => by rw [hu.routeCfg c, hu.leaveDefault c]) (State.enterPendingAlt_reroutes s c)
    (Reroutes.id s)

theorem State.expirePendingDefault_reroutes (s : State) (c : Channel) :
    Reroutes s fun u => u.expirePendingDefault c :=
  Reroutes.comp (State.switchTo_reroutes s c .forcedReturn) (State.judgeOnDefault_reroutes _ c)

theorem State.expireRevert_reroutes (s : State) (c : Channel) : Reroutes s fun u => u.expireRevert c :=
  Reroutes.comp (State.switchTo_reroutes s c .revert) (State.judgeOnDefault_reroutes _ c)

theorem State.enterPendingDefault_reroutes (s : State) (c : Channel) : Reroutes s fun u => u.enterPendingDefault c :=
  Reroutes.thenAtOnce (p := fun cfg => cfg.switchDelay = 0)
    (State.putRoute_raiseRoute_reroutes false (r := fun u =>
      { u.route c with
        state := .pendingDefault, switchTimer := .running (u.after (u.routeCfg c).switchDelay), revertTimer := none })
      fun u hu => by rw [hu.route c, hu.routeCfg c, hu.after])
    (State.expirePendingDefault_reroutes _ c)

theorem State.judgeRevert_reroutes (s : State) (c : Channel) : Reroutes s fun u => u.judgeRevert c := by
  unfold State.judgeRevert
  refine Reroutes.iteBool (fun u hu => hu.revertHolds c) ?_
    (Reroutes.putRoute fun u hu => by rw [hu.route c])
  refine Reroutes.iteBool (fun u hu => by rw [hu.route c]) (Reroutes.id s) ?_
  exact Reroutes.thenAtOnce (p := fun cfg => cfg.revertDelay = 0)
    (Reroutes.putRoute (r := fun u => { u.route c with revertTimer := some (u.after (u.routeCfg c).revertDelay) })
      fun u hu => by rw [hu.route c, hu.routeCfg c, hu.after])
    (State.expireRevert_reroutes _ c)

theorem State.judgeOnAlternate_reroutes (s : State) (c : Channel) : Reroutes s fun u => u.judgeOnAlternate c := by
  unfold State.judgeOnAlternate
  exact Reroutes.iteBool (fun u hu => hu.forcedReturn c) (State.enterPendingDefault_reroutes s c)
    (State.judgeRevert_reroutes s c)

theorem State.cancelPending_reroutes (s : State) (c : Channel) (r : RouteState) :
    Reroutes s fun u => u.cancelPending c r :=
  State.putRoute_raiseRoute_reroutes false fun u hu => by rw [hu.route c]

theorem State.judgePendingAlt_reroutes (s : State) (c : Channel) : Reroutes s fun u => u.judgePendingAlt c := by
  unfold State.judgePendingAlt
  refine Reroutes.iteBool (fun u hu => by rw [hu.leaveDefault c]) (State.cancelPending_reroutes s c _) ?_
  exact Reroutes.iteBool (fun u hu => by rw [hu.route c, hu.alternateFit c]) (State.switchTo_reroutes s c _)
    (Reroutes.id s)

theorem State.judgePendingDefault_reroutes (s : State) (c : Channel) :
    Reroutes s fun u => u.judgePendingDefault c := by
  unfold State.judgePendingDefault
  exact Reroutes.iteBool (fun u hu => hu.forcedReturn c) (Reroutes.id s)
    (Reroutes.comp (State.cancelPending_reroutes s c _) (State.judgeRevert_reroutes _ c))

/-! ### Judging a channel, and handing on fitness -/

theorem State.judgeRoute_reroutes (s : State) (c : Channel) : Reroutes s fun u => u.judgeRoute c := by
  cases h : (s.route c).state
  case unrouted =>
    exact (Reroutes.id s).congr fun u hu => by rw [State.judgeRoute, hu.route c, h]
  case onDefault =>
    exact (State.judgeOnDefault_reroutes s c).congr fun u hu => by rw [State.judgeRoute, hu.route c, h]
  case pendingAlt =>
    exact (State.judgePendingAlt_reroutes s c).congr fun u hu => by rw [State.judgeRoute, hu.route c, h]
  case onAlternate =>
    exact (State.judgeOnAlternate_reroutes s c).congr fun u hu => by rw [State.judgeRoute, hu.route c, h]
  case pendingDefault =>
    exact (State.judgePendingDefault_reroutes s c).congr fun u hu => by rw [State.judgeRoute, hu.route c, h]

theorem State.handFitness_reroutes (before : State) (i : SlotNo) (s : State) (c : Channel) :
    Reroutes s fun u => State.handFitness before i u c := by
  have first : ∀ s, Reroutes s fun u =>
      if ((before.fit i c != u.fit i c) &&
          (decide ((u.routeCfg c).defaultSlot = some i) || decide ((u.routeCfg c).alternate = some i))) = true then
        u.judgeRoute c
      else u := fun s =>
    Reroutes.iteBool (fun u hu => by rw [hu.routeCfg c, hu.fit i c]) (State.judgeRoute_reroutes s c)
      (Reroutes.id s)
  refine Reroutes.congr (f := fun u =>
    if (before.drawable i c != s.drawable i c) = true then
      (fun v : State => if decide ((v.route c).active = some i) = true then v.judgeSupply c else v)
        (if ((before.fit i c != u.fit i c) &&
            (decide ((u.routeCfg c).defaultSlot = some i) || decide ((u.routeCfg c).alternate = some i))) = true then
          u.judgeRoute c
        else u)
    else
      if ((before.fit i c != u.fit i c) &&
          (decide ((u.routeCfg c).defaultSlot = some i) || decide ((u.routeCfg c).alternate = some i))) = true then
        u.judgeRoute c
      else u) ?_ ?_
  · intro u hu
    rw [State.handFitness, hu.drawable i c]
    cases before.drawable i c != s.drawable i c <;> simp
  · exact Reroutes.iteBool (fun _ _ => rfl)
      (Reroutes.comp (first s)
        (g := fun v => if decide ((v.route c).active = some i) = true then v.judgeSupply c else v)
        (Reroutes.iteBool (fun u hu => by rw [hu.route c]) (State.judgeSupply_reroutes _ c) (Reroutes.id _)))
      (first s)

/-- All that the handing on of a slot's fitness and drawability can do (R12). -/
theorem State.judgeFitness_reroutes (before s : State) (i : SlotNo) : Reroutes s fun u => u.judgeFitness before i :=
  Reroutes.foldl (fun s c => State.handFitness_reroutes before i s c) channels s

/-- Of the state before, only the slot's fitness and drawability count. -/
theorem State.judgeFitness_before {b b' : State} {i : SlotNo} (hf : ∀ c, b.fit i c = b'.fit i c)
    (hd : ∀ c, b.drawable i c = b'.drawable i c) (s : State) : s.judgeFitness b i = s.judgeFitness b' i := by
  have : State.handFitness b i = State.handFitness b' i := by
    funext s c
    simp only [State.handFitness, hf, hd]
  rw [State.judgeFitness, State.judgeFitness, this]

/-- The judging of a slot whose fitness and drawability did not change hands nothing on. -/
theorem State.judgeFitness_unchanged {b s : State} {i : SlotNo} (hf : ∀ c, b.fit i c = s.fit i c)
    (hd : ∀ c, b.drawable i c = s.drawable i c) : s.judgeFitness b i = s := by
  have (cs : List Channel) : cs.foldl (State.handFitness b i) s = s := by
    induction cs with
    | nil => rfl
    | cons c cs ih =>
      have : State.handFitness b i s c = s := by simp [State.handFitness, hf, hd]
      rw [List.foldl_cons, this, ih]
  exact this _

/-! ### What is said of a hand-on in statements -/

theorem sameRouting.refl (s : State) : sameRouting s s := ⟨rfl, rfl, rfl⟩

theorem sameRouting.trans {s t u : State} (a : sameRouting s t) (b : sameRouting t u) : sameRouting s u :=
  ⟨b.1.trans a.1, b.2.1.trans a.2.1, b.2.2.trans a.2.2⟩

/-- Two states that agree on what is read, and on the notices, hand on the same. -/
theorem State.judgeFitness_same {b m w : State} (i : SlotNo) (h : sameRead m w) :
    sameRouting (m.judgeFitness b i) (w.judgeFitness b i) ∧
      (w.notices = m.notices → (w.judgeFitness b i).notices = (m.judgeFitness b i).notices) := by
  obtain ⟨r, t, p, l, -, hf⟩ := State.judgeFitness_reroutes b m i
  have hm := hf m (sameRead.refl m)
  have hw := hf w h
  beta_reduce at hm hw
  refine ⟨?_, fun e => ?_⟩
  · rw [hm, hw]; exact ⟨rfl, rfl, rfl⟩
  · rw [hm, hw]; simp only [h.2.1, e]

/-- The notices of a hand-on: ROUTE and GATE notices behind those that were raised before. -/
theorem State.judgeFitness_noticesWere {b m t : State} {i : SlotNo} {u : NoticeUnit} {kinds : List NoticeKind}
    {listed : List (NoticeKind × Subject × Details)} (hr : .route ∉ kinds) (hg : .gate ∉ kinds)
    (hm : m.notices = raisedOnto t.settings.mask listed u) (hk : ∀ n ∈ listed, n.1 ∈ kinds)
    (hs : m.settings = t.settings) (ht : t.notices = (m.judgeFitness b i).notices) :
    noticesWere kinds listed u t := by
  obtain ⟨r, tr, p, l, hl, hf⟩ := State.judgeFitness_reroutes b m i
  have hf := hf m (sameRead.refl m)
  beta_reduce at hf
  refine ⟨listed ++ l, ?_, ?_⟩
  · rw [List.filter_append, List.filter_eq_self.2 fun n hn => by simpa using hk n hn, List.filter_eq_nil_iff.2]
    · exact List.append_nil _
    · intro n hn
      rcases hl n hn with e | e <;> simp [e, hr, hg]
  · rw [ht, hf, hm, hs]
    simp [raisedOnto, List.foldl_append]

/-- A move of a slot: the record replaced, the SLOT notice, then the hand-on, in a state that agrees with the one the
slot moved in on what is read and on the notices. -/
theorem slotMoves_intro {s w t : State} {i : SlotNo} {x : Slot} {d : Details} (hw : sameRead (s.putSlot i x) w)
    (hn : w.notices = (s.raise .slot (.slot i) d).notices) (hr : sameRouting (w.judgeFitness s i) t)
    (ht : t.notices = (w.judgeFitness s i).notices) (hs : t.settings = s.settings) : slotMoves s t i x d := by
  have hm : sameRead ((s.putSlot i x).raise .slot (.slot i) d) w := hw
  obtain ⟨a, b⟩ := State.judgeFitness_same (b := s) i hm
  have e : t.notices = (((s.putSlot i x).raise .slot (.slot i) d).judgeFitness s i).notices := ht.trans (b hn)
  refine ⟨a.trans hr, e, State.judgeFitness_noticesWere (by decide) (by decide) ?_ (by simp) ?_ e⟩
  · rw [hs]; rfl
  · rw [hs]; rfl

/-! ### Moves of a slot and comparisons of its watches -/

theorem noticesWere.append {kinds : List NoticeKind} {l l' : List (NoticeKind × Subject × Details)} {u : NoticeUnit}
    {s t : State} (h : noticesWere kinds l u s) (h' : noticesWere kinds l' s.notices t) (e : t.settings = s.settings) :
    noticesWere kinds (l ++ l') u t := by
  obtain ⟨r, hr, hs⟩ := h
  obtain ⟨r', hr', ht⟩ := h'
  refine ⟨r ++ r', by rw [List.filter_append, hr, hr'], ?_⟩
  rw [ht, hs, e, List.foldl_append]

theorem noticesWere.refl (kinds : List NoticeKind) (s : State) : noticesWere kinds [] s.notices s := ⟨[], rfl, rfl⟩

/-- The state after the handing on of a slot's fitness agrees with another on what is read when the states before it
did. -/
theorem State.judgeFitness_sameRead {b m w : State} (i : SlotNo) (h : sameRead m w) :
    sameRead (m.judgeFitness b i) (w.judgeFitness b i) := by
  obtain ⟨r, t, p, l, -, hf⟩ := State.judgeFitness_reroutes b m i
  have hm := hf m (sameRead.refl m)
  have hw := hf w h
  beta_reduce at hm hw
  rw [hm, hw]
  exact ⟨h.1, h.2.1, h.2.2.1, rfl, rfl, rfl⟩

/-- The handing on of a slot's fitness leaves settings and slots. -/
theorem State.judgeFitness_keepsSlots (b s : State) (i : SlotNo) :
    (s.judgeFitness b i).slots = s.slots ∧ (s.judgeFitness b i).settings = s.settings := by
  obtain ⟨r, t, p, l, -, hf⟩ := State.judgeFitness_reroutes b s i
  have h := hf s (sameRead.refl s)
  beta_reduce at h
  rw [h]; exact ⟨rfl, rfl⟩

theorem State.putSlot_sameRead {s u : State} (i : SlotNo) (x : Slot) (h : sameRead s u) :
    sameRead (s.putSlot i x) (u.putSlot i x) :=
  ⟨h.1, h.2.1, by rw [State.putSlot, State.putSlot, h.2.2.1], h.2.2.2.1, h.2.2.2.2.1, h.2.2.2.2.2⟩

theorem State.putSlot_self (s : State) (i : SlotNo) : s.putSlot i (s.slot i) = s := by
  simp [State.putSlot, State.slot]

/-- A state in which the slot takes a record and its fitness and drawability are handed on (R12). -/
def State.stepOn (u : State) (i : SlotNo) (y : Slot) : State := (u.putSlot i y).judgeFitness u i

/-- The WATCH notice of one comparison. -/
def Slot.firing (x : Slot) (i : SlotNo) (n : WatchNo) : List (NoticeKind × Subject × Details) :=
  if (decide ((x.watch n).state = .armed) && (x.watch n).condition x) = true then
    [(.watch, .slot i, .watch n (x.watch n).kind (x.watch n).limit (x.watch n).action ((x.watch n).quantity x))]
  else []

/-- A comparison of a watch hands on what the record's change makes of its fitness, and raises its WATCH notice. -/
theorem State.compareWatch_handsOn {s u : State} (i : SlotNo) (n : WatchNo) (h : sameRead u s) {kinds : List NoticeKind}
    (hw : .watch ∈ kinds) (hr : .route ∉ kinds) (hg : .gate ∉ kinds) :
    let y := s.slot i
    sameRead (u.stepOn i (y.compared n)) (s.compareWatch i n) ∧ (s.compareWatch i n).slot i = y.compared n ∧
      (s.compareWatch i n).settings = s.settings ∧
      noticesWere kinds (y.firing i n) s.notices (s.compareWatch i n) := by
  intro y
  have hy : u.slot i = y := by simp [y, State.slot, h.2.2.1]
  by_cases c : (decide ((y.watch n).state = .armed) && (y.watch n).condition y) = true
  · have c' : (y.watch n).state = .armed ∧ (y.watch n).condition y = true := by simpa using c
    have e : y.compared n = y.putWatch n { y.watch n with state := .fired } := by simp [Slot.compared, c']
    have ec : s.compareWatch i n =
        State.judgeFitness
          ((s.putSlot i (y.compared n)).raise .watch (.slot i)
            (.watch n (y.watch n).kind (y.watch n).limit (y.watch n).action ((y.watch n).quantity y))) s i := by
      simp only [State.compareWatch]
      rw [if_pos c, e]
    have es := State.judgeFitness_keepsSlots s
      ((s.putSlot i (y.compared n)).raise .watch (.slot i)
        (.watch n (y.watch n).kind (y.watch n).limit (y.watch n).action ((y.watch n).quantity y))) i
    have hb : State.judgeFitness
          ((s.putSlot i (y.compared n)).raise .watch (.slot i)
            (.watch n (y.watch n).kind (y.watch n).limit (y.watch n).action ((y.watch n).quantity y))) s i =
        State.judgeFitness
          ((s.putSlot i (y.compared n)).raise .watch (.slot i)
            (.watch n (y.watch n).kind (y.watch n).limit (y.watch n).action ((y.watch n).quantity y))) u i :=
      State.judgeFitness_before (fun c => h.fit i c) (fun c => h.drawable i c) _
    rw [Slot.firing, if_pos c, ec]
    refine ⟨?_, ?_, es.2.trans rfl, ?_⟩
    · rw [hb]
      exact State.judgeFitness_sameRead i (State.putSlot_sameRead i (y.compared n) h)
    · simp only [State.slot, es.1]
      simp [State.putSlot, State.raise]
    · exact State.judgeFitness_noticesWere hr hg
        (by rw [es.2]; rfl) (by simpa using hw) (by rw [es.2]) rfl
  · have e : y.compared n = y := by
      have c' : ¬((y.watch n).state = .armed ∧ (y.watch n).condition y = true) := by simpa using c
      simp [Slot.compared, c']
    have ec : s.compareWatch i n = s := by
      simp only [State.compareWatch]
      rw [if_neg c]
    have eu : u.stepOn i y = u := by
      rw [State.stepOn, ← hy, State.putSlot_self]
      exact State.judgeFitness_unchanged (fun _ => rfl) fun _ => rfl
    rw [Slot.firing, if_neg c, ec, e, eu]
    exact ⟨h, rfl, rfl, noticesWere.refl _ _⟩

/-- A comparison of W0 leaves what W1 compares. -/
theorem Slot.firing_w1 (x : Slot) (i : SlotNo) : (x.compared .w0).firing i .w1 = x.firing i .w1 := by
  have h (w : Watch) : w.condition (x.compared .w0) = w.condition x ∧ w.quantity (x.compared .w0) = w.quantity x := by
    unfold Slot.compared
    split <;> exact ⟨by cases w with | mk k => cases k <;> rfl, by cases w with | mk k => cases k <;> rfl⟩
  have e : (x.compared .w0).watch .w1 = x.watch .w1 := by unfold Slot.compared; split <;> rfl
  simp only [Slot.firing, e, (h _).1, (h _).2]

theorem Slot.firings_eq (x : Slot) (i : SlotNo) : x.firings i = x.firing i .w0 ++ x.firing i .w1 := by
  simp only [Slot.firings, Slot.firing, List.filter_cons, List.filter_nil]
  cases decide ((x.watch .w0).state = .armed) && (x.watch .w0).condition x <;>
    cases decide ((x.watch .w1).state = .armed) && (x.watch .w1).condition x <;> rfl

/-- A comparison of both watches (R19): the record, the hand-on, and the WATCH notices of those that fire. -/
theorem State.compareWatches_handsOn {s u : State} (i : SlotNo) (h : sameRead u s) {kinds : List NoticeKind}
    (hw : .watch ∈ kinds) (hr : .route ∉ kinds) (hg : .gate ∉ kinds) :
    let x := s.slot i
    let t := s.compareWatches i
    sameRead ((u.stepOn i (x.compared .w0)).stepOn i ((x.compared .w0).compared .w1)) t ∧
      t.slot i = (x.compared .w0).compared .w1 ∧ t.settings = s.settings ∧
      noticesWere kinds (x.firings i) s.notices t := by
  intro x t
  obtain ⟨a1, a2, a3, a4⟩ := State.compareWatch_handsOn (s := s) i .w0 h hw hr hg
  obtain ⟨b1, b2, b3, b4⟩ := State.compareWatch_handsOn (s := s.compareWatch i .w0) i .w1 a1 hw hr hg
  rw [a2] at b1 b2 b4
  rw [Slot.firing_w1] at b4
  exact ⟨b1, b2, b3.trans a3, by rw [Slot.firings_eq]; exact a4.append b4 b3⟩

/-- All that a move of a slot with the comparison of its watches does to the slot, the routing and the notices (R10,
R12, R19, R20). -/
theorem State.moveSlot_handsOn (s : State) (i : SlotNo) (new : Slot) (failure : Option (TransKind × FailKind))
    {kinds : List NoticeKind} (hw : .watch ∈ kinds) (hr : .route ∉ kinds) (hg : .gate ∉ kinds) :
    let x := new.leaveChallenge
    let t := s.moveSlot i new failure
    t.slot i = (x.compared .w0).compared .w1 ∧ sameRouting (s.handedOn i x) t ∧
      noticesWere kinds (x.firings i) (s.raise .slot (.slot i) (slotDetails (s.slot i) x failure)).notices t := by
  intro x t
  let d := slotDetails (s.slot i) x failure
  let w := if ((s.slot i).state.supplies && !x.state.supplies) = true then (s.putSlot i x).dropCheckpoint i
    else s.putSlot i x
  have hw' : sameRead (s.putSlot i x) w ∧ w.notices = s.notices := by
    simp only [w]
    split <;> exact ⟨⟨rfl, rfl, rfl, rfl, rfl, rfl⟩, rfl⟩
  have ec : s.changeSlot i new failure = (w.raise .slot (.slot i) d).judgeFitness s i := rfl
  have hm : sameRead (s.putSlot i x) (w.raise .slot (.slot i) d) := hw'.1
  have hc : sameRead (s.stepOn i x) (s.changeSlot i new failure) := by
    rw [ec]; exact State.judgeFitness_sameRead i hm
  have ks := State.judgeFitness_keepsSlots s (w.raise .slot (.slot i) d) i
  have hx : (s.changeSlot i new failure).slot i = x := by
    rw [ec, State.slot, ks.1]
    simp only [State.raise, hw'.1.2.2.1]
    simp [State.putSlot]
  obtain ⟨a, b, e, n⟩ := State.compareWatches_handsOn (s := s.changeSlot i new failure) i hc hw hr hg
  rw [hx] at a b n
  have et : t = (s.changeSlot i new failure).compareWatches i := rfl
  have eh : s.handedOn i x =
      ((s.stepOn i x).stepOn i (x.compared .w0)).stepOn i ((x.compared .w0).compared .w1) := by
    simp only [State.handedOn, List.foldl_cons, List.foldl_nil, State.stepOn]
  rw [et, eh]
  refine ⟨b, ⟨a.2.2.2.1, a.2.2.2.2.1, a.2.2.2.2.2⟩, ?_⟩
  have hs : (s.changeSlot i new failure).settings = s.settings := by
    rw [ec, ks.2]
    exact hw'.1.2.1
  have first : noticesWere kinds [] (s.raise .slot (.slot i) d).notices (s.changeSlot i new failure) := by
    have hn : (w.raise .slot (.slot i) d).notices = (s.raise .slot (.slot i) d).notices := by
      simp only [State.raise, hw'.2, hw'.1.2.1]
      rfl
    exact State.judgeFitness_noticesWere hr hg (by rw [hn]; rfl) (by simp) (by rw [hs]; exact hw'.1.2.1) rfl
  exact List.nil_append (x.firings i) ▸ first.append n e

end Sys2Proof.Machine
end

