-- ==== Sys2Proof/Tests/Slice0.lean ====
section
/-!
SUPPORT. The model's own tests: ill-formed commands that the check refuses, the worked examples of the specification,
one step of each family on a small state, and a witness for the hypotheses of every statement.
-/

set_option maxRecDepth 20000

namespace Sys2Proof.Tests

open Sys2Proof Sys2Proof.Machine

/-! ### States for the tests -/

/-- The state after reset: it takes requests. -/
def base : State := State.reset

/-- At SERVICE. -/
def atService : State := { base with requests := { base.requests with access := .service } }

/-- A reply for a full reply list. -/
def someReply : Reply := { tag := 7, code := 1, outcome := .done, contents := [] }

/-- Sixteen places of the reply list in use. -/
def fullList : State := { base with requests := { base.requests with replies := List.replicate 16 someReply } }

/-- A slot in a state, with that ink, and a cartridge in its bay. -/
def someSlot (state : SlotState) : Slot :=
  { Slot.cold Watch.reset Watch.reset with
    state := state, present := true, serial := some 5, ink := some 3, nominal := some 1000, remaining := some 7
    reported := some ⟨7, 1, false⟩, writeCount := some 1, writtenRemaining := some 7 }

def withSlot (i : SlotNo) (x : Slot) : State := base.putSlot i x

def withLine (i : SlotNo) (l : LineCtl) : State := base.putLine i l

/-- The link is UP, and the receiver stands as given. -/
def receiving (rx : RxState) : State := { base with link := { base.link with up := true, timer := some 50, rx := rx } }

/-- A line of 64 nozzles in flight on channel 2. -/
def someFlight (upstream : Upstream) : Flight :=
  { channel := 2, lineNumber := 9, source := some (0, 0), volumes := ⟨1000, 1000, 1000⟩, head := 1, blanked := false
    nozzles := 64, n1 := 1, n2 := 2, n3 := 3, upstream := upstream }

def somePacket : ForwardPacket := { placed := lineHeaderBytes 2 9 0 64 22, total := 27, sent := 0, live := true }

/-- That line is the one being received. -/
def lineArriving : State :=
  { receiving .line with forward := { Forward.cold with buffer := [somePacket], flights := [someFlight .arriving] } }

/-! ### Ill-formed commands are refused -/

/-- Field bytes that no MGMT packet can carry: one more than 249. -/
def longFields : List Byte := List.replicate 250 0#8

theorem test_longest_fields_are_well_formed : (Instr.readPart 0 (List.replicate 249 0#8)).wellFormed = true := by
  decide +kernel

theorem test_long_fields_are_refused_first_half :
    (Instr.readPart 0 longFields).wellFormed = false ∧ (Instr.readStatus 0 longFields).wellFormed = false ∧
      (Instr.setNoticeMask 0 longFields).wellFormed = false ∧ (Instr.readChannel 0 longFields).wellFormed = false ∧
      (Instr.setRoute 0 longFields).wellFormed = false ∧ (Instr.holdChannel 0 longFields).wellFormed = false ∧
      (Instr.releaseChannel 0 longFields).wellFormed = false ∧ (Instr.readSlot 0 longFields).wellFormed = false ∧
      (Instr.rescanSlot 0 longFields).wellFormed = false ∧ (Instr.setWatch 0 longFields).wellFormed = false ∧
      (Instr.loadVolumeTable 0 longFields).wellFormed = false ∧
      (Instr.selectVolumeBank 0 longFields).wellFormed = false ∧
      (Instr.loadTemperatureTable 0 longFields).wellFormed = false ∧ (Instr.readLink 0 longFields).wellFormed = false ∧
      (Instr.readPins 0 longFields).wellFormed = false := by
  decide +kernel

theorem test_long_fields_are_refused_second_half :
    (Instr.setPins 0 longFields).wellFormed = false ∧ (Instr.readHistory 0 longFields).wellFormed = false ∧
      (Instr.readTrace 0 longFields).wellFormed = false ∧ (Instr.clearTrace 0 longFields).wellFormed = false ∧
      (Instr.setPolicy 0 longFields).wellFormed = false ∧ (Instr.grantGrace 0 longFields).wellFormed = false ∧
      (Instr.clearHistoryEntry 0 longFields).wellFormed = false ∧ (Instr.resetWaste 0 longFields).wellFormed = false ∧
      (Instr.getUnlockNonce 0 longFields).wellFormed = false ∧ (Instr.unlockService 0 longFields).wellFormed = false ∧
      (Instr.lockService 0 longFields).wellFormed = false ∧ (Instr.programRootKey 0 longFields).wellFormed = false ∧
      (Instr.saveSettings 0 longFields).wellFormed = false ∧ (Instr.restart 0 longFields).wellFormed = false ∧
      (Instr.unknownRequest 0 0xFF longFields).wellFormed = false := by
  decide +kernel

theorem test_known_code_is_no_unknown_request :
    (Instr.unknownRequest 0 0x01 []).wellFormed = false ∧ (Instr.unknownRequest 0 0x1D []).wellFormed = false ∧
      (Instr.unknownRequest 0 0x00 []).wellFormed = true ∧ (Instr.unknownRequest 0 0x1E []).wellFormed = true := by
  decide

theorem test_packet_sizes_are_checked :
    (Instr.mgmtCheckFailed ⟨List.replicate 252 0#8, 0⟩).wellFormed = false ∧ (Instr.mgmtWithoutTag 2).wellFormed = false ∧
      (Instr.headPacketEnd (List.replicate 252 0#8) 0).wellFormed = false ∧
      (Instr.unknownKindPacketEnd 65536).wellFormed = false ∧ (Instr.oversizePacketEnd 251).wellFormed = false ∧
      (Instr.oversizePacketEnd 65536).wellFormed = false ∧ (Instr.lineHeader 0 0 0 64 5).wellFormed = false ∧
      (Instr.lineHeader 0 0 0 64 519).wellFormed = false ∧ (Instr.refusedLineEnd (List.replicate 513 0#8) 0).wellFormed = false ∧
      (Instr.lineUpstreamEnd (List.replicate 513 0#8) 0).wellFormed = false ∧
      (Instr.headretCut (List.replicate 124 0#8)).wellFormed = false := by
  decide +kernel

theorem test_longer_than_any_packet_is_refused (arrived : List Byte) (h : arrived.length = 65540)
    (payload : List Byte) (hp : payload.length = 65536) :
    (Instr.packetCut .fill arrived).wellFormed = false ∧ (Instr.linkLost arrived).wellFormed = false ∧
      (Instr.filterTimerExpiry ⟨.powerFail, arrived⟩).wellFormed = false ∧
      (Instr.headretEnd payload 0).wellFormed = false := by
  simp [Instr.wellFormed, arrivedFits, largestLength, h, hp]

/-- A MGMT packet with the check its bytes have fails no check; only POWER_FAIL's expiry carries level bytes. -/
theorem test_operands_that_say_what_cannot_be_are_refused :
    (Instr.mgmtCheckFailed ⟨[0x31], crc16 [0x20, 0x00, 0x01, 0x31]⟩).wellFormed = false ∧
      (Instr.mgmtCheckFailed ⟨[0x31], crc16 [0x20, 0x00, 0x01, 0x31] + 1⟩).wellFormed = true ∧
      (Instr.filterTimerExpiry ⟨.aux 3, [0x00]⟩).wellFormed = false ∧
      (Instr.filterTimerExpiry ⟨.powerFail, [0x00]⟩).wellFormed = true := by
  decide

theorem test_a_record_is_named_once :
    (Instr.powerOn [(.waste, .one), (.waste, .several)]).wellFormed = false ∧
      (Instr.powerOn [(.waste, .one), (.cleanMark, .several)]).wellFormed = true := by
  decide

/-! ### Bytes: the worked examples of chapter 11 -/

/-- R194: the check of the bytes 0x31 to 0x39. -/
theorem test_check_of_the_digits :
    crc16 [0x31, 0x32, 0x33, 0x34, 0x35, 0x36, 0x37, 0x38, 0x39] = 0x29B1#16 := by decide +kernel

/-- R197: IDENTIFY and READ FILL, byte for byte. -/
theorem test_identify_and_read_fill :
    slotMessage 0x01 [] = [0x01, 0x00, 0xFF] ∧ slotMessage 0x02 [] = [0x02, 0x00, 0xFE] := by decide

/-- 11.3, example: the FILL of 420,000 with write count 17. -/
theorem test_fill_example :
    slotMessage 0x82 [0x00, 0x06, 0x68, 0xA0, 0x00, 0x00, 0x11, 0x00] =
        [0x82, 0x08, 0x00, 0x06, 0x68, 0xA0, 0x00, 0x00, 0x11, 0x00, 0x57] ∧
      fillOf [0x82, 0x08, 0x00, 0x06, 0x68, 0xA0, 0x00, 0x00, 0x11, 0x00, 0x57] = ⟨420000, 17, false⟩ ∧
      sumsToZero [0x82, 0x08, 0x00, 0x06, 0x68, 0xA0, 0x00, 0x00, 0x11, 0x00, 0x57] = true := by decide

/-- R93: odd parity over the data bits and the parity bit. -/
theorem test_frames :
    frameError 0x01 false true = none ∧ frameError 0x03 false true = some .parity ∧
      frameError 0x03 true true = none ∧ frameError 0x03 false false = some .framing := by decide

/-- R93: the frame of 0x13, written out: start, data least significant first, the parity bit of three 1s, stop. -/
theorem test_sent_frames :
    frameOf 0x13 = [false, true, true, false, false, true, false, false, false, false, true] ∧
      framesOf [0xFF, 0x00] =
        false :: List.replicate 8 true ++ [true, true] ++ (false :: List.replicate 8 false ++ [true, true]) := by
  decide

/-- R196: payloads written out from the table of requests. -/
theorem test_mgmt_payloads :
    decodeMgmt [0x05, 0x15, 0x09, 0x00, 0x00, 0x01, 0x00] = .grantGrace 5 [0x09, 0x00, 0x00, 0x01, 0x00] ∧
      decodeMgmt [0x06, 0x1D] = .restart 6 [] ∧ decodeMgmt [0x07, 0x01] = .readPart 7 [] ∧
      decodeMgmt [0x08, 0x1E, 0x00] = .unknownRequest 8 0x1E [0x00] ∧
      decodeMgmt [0x09, 0x00] = .unknownRequest 9 0x00 [] ∧ decodeMgmt [0x0A] = .mgmtWithoutTag 1 ∧
      decodeMgmt [] = .mgmtWithoutTag 0 := by decide

/-- R194: the packet of Read Part with tag 7, with its check and with another. -/
theorem test_mgmt_packets :
    let check := crc16 [0x20, 0x00, 0x02, 0x07, 0x01]
    decodeMgmtPacket [0x07, 0x01] check = .readPart 7 [] ∧
      decodeMgmtPacket [0x07, 0x01] (check + 1) = .mgmtCheckFailed ⟨[0x07, 0x01], check + 1⟩ := by
  decide

/-- No row of the table has bits. -/
theorem test_no_word_spells_a_command (n w : Nat) : decodeTableWord n w = none := rfl

/-- 11.2: a gate set, with POWER_SAVE bit 0 and SETTLE bit 4. -/
theorem test_gate_set : bitmap (Gate.members ⟨true, false, false, false, true⟩) = [0x11] := by decide

/-! ### One step on a small state: the worked sequences of the specification -/

/-- The state a command leaves; the state itself where it answers no next state. -/
def run (i : Instr) (s : State) : State :=
  match exec i s with
  | .next t => t
  | .fault _ => s
  | .refused _ => s

/-- 2.11: the state before line 1's end. -/
def twoLines : State :=
  let temp : TempTable :=
    { TempTable.reset with multipliers := (TempTable.reset.multipliers.set 3 1065).set 15 1180, base := 60, width := 6 }
  let meter : Meter := { Meter.cold with fine := 99800000, remainder := 700, metered := 51206 }
  let flight : Flight :=
    { channel := 4, lineNumber := 1, source := some (9, 3), volumes := ⟨320, 710, 1250⟩, head := 2, blanked := false
      nozzles := 1024, n1 := 300, n2 := 200, n3 := 100, upstream := .good }
  let s := base.putSlot 9 { someSlot .genuine with tenure := 3, remaining := some 4120 }
  let s := (s.putMeter 4 meter).putHead 2 { reading := some 82, readAt := 0, staleTimer := some 500 }
  { s with
    settings := { s.settings with temp := temp }
    forward := { Forward.cold with buffer := [{ somePacket with total := 267 }], flights := [flight] } }

/-- 2.11, line 1: the figures of its table. -/
theorem test_line_end_of_the_worked_case :
    let t := run .lineEnd twoLines
    (t.meter 4).fine = 177534 ∧ (t.meter 4).remainder = 884 ∧ (t.meter 4).run = 0 ∧ (t.meter 4).metered = 51207 ∧
      (t.meter 4).linesMetered = 1 ∧ (t.meter 4).lastCharge = some (9, 3) ∧ (t.meter 4).lastBand = some 3 ∧
      (t.slot 9).remaining = some 4119 ∧ t.waste = ⟨0, 0⟩ ∧ t.forward.flights = [] := by
  decide

/-- 2.11, line 2: a stale head, a full line, no debit. -/
theorem test_line_end_with_a_stale_head :
    let flight : Flight :=
      { channel := 4, lineNumber := 2, source := some (9, 3), volumes := ⟨320, 710, 1250⟩, head := 2, blanked := false
        nozzles := 1024, n1 := 0, n2 := 0, n3 := 1024, upstream := .good }
    let s := (twoLines.putMeter 4 { Meter.cold with fine := 177534, remainder := 884, metered := 51207 }).goStale 2
    let t := run .lineEnd { s with forward := { s.forward with flights := [flight] } }
    (t.meter 4).fine = 1652534 ∧ (t.meter 4).remainder = 884 ∧ (t.meter 4).run = 1 ∧
      (t.meter 4).classifier = .print ∧ (t.meter 4).metered = 51207 ∧ (t.meter 4).lastBand = some 15 := by
  decide

/-- The history entry of the serial 5. -/
def oldEntry : HistoryEntry :=
  { serial := 5, ink := 3, confirmed := 7, writeCount := 1, drawnSince := 0, depletedMark := false, refillMark := false
    stamp := 0 }

/-- Slot 15 with its last microlitre, and the entry of its serial. -/
def lastDrop : State := (withSlot 15 { someSlot .genuine with remaining := some 1 }).putEntry 63 (some oldEntry)

/-- 1.8: slot 7 before line B's end. -/
def overdrawing : State :=
  let slot : Slot :=
    { someSlot .genuine with
      ink := some 5, remaining := some 2, drawn := 998, writeCount := some 41, writtenRemaining := some 1000
      w0 := { kind := .overdrawAtOrAbove, limit := 2, action := .notify, state := .armed } }
  let cfg : RouteCfg := { RouteCfg.reset with ink := 5, defaultSlot := some 7, alternate := some 11 }
  let route : Route :=
    { Route.unrouted with state := .onDefault, active := some 7, gate := ⟨false, false, false, false, false⟩ }
  let flight : Flight :=
    { someFlight .good with source := some (7, 0), volumes := ⟨10, 10, 65535⟩, n1 := 0, n2 := 0, n3 := 1 }
  let s := (base.putSlot 7 slot).putRoute 2 route
  let s := s.putMeter 2 { Meter.cold with fine := 99999999 }
  { s with
    settings :=
      { s.settings with
        routes := s.settings.routes.set 2 cfg, policy := { s.settings.policy with overdrawLimit := 2 } }
    forward := { Forward.cold with buffer := [somePacket], flights := [flight] } }

/-- 1.8, steps 3 and 4, by debits one at a time: DEPLETED, the checkpoint taken at once, then overdraw. -/
theorem test_debits_of_the_worked_sequence :
    let t := ((overdrawing.applyDebit 7).applyDebit 7).applyDebit 7
    (t.slot 7).state = .depleted ∧ (t.slot 7).remaining = some 0 ∧ (t.slot 7).drawn = 1000 ∧
      (t.slot 7).overdraw = 1 ∧ (t.line 7).state = .tagWait ∧
      (t.line 7).trans.map Transaction.values = some ⟨0, 42, true⟩ ∧ (t.line 7).pendCheckpoint = false ∧
      (t.route 2).state = .pendingAlt ∧ (t.route 2).switchTimer = .running 500 ∧
      (t.route 2).gate = ⟨false, false, false, false, false⟩ := by
  decide +kernel

/-- 1.8, step 6: the overdraw limit closes the gate and fires W0. -/
theorem test_overdraw_limit_of_the_worked_sequence :
    let s := overdrawing.putSlot 7 { overdrawing.slot 7 with state := .depleted, remaining := some 0, overdraw := 1 }
    let t := s.applyDebit 7
    (t.slot 7).overdraw = 2 ∧ (t.slot 7).w0.state = .fired ∧ (t.slot 7).held = false ∧
      (t.route 2).gate = ⟨false, false, false, true, false⟩ ∧
      (t.notices.queue.map Notice.kind).drop 1 = [.slot, .gate, .watch] := by
  decide +kernel

/-- 3.9: channel 0 at 1500, with slot 0 beyond its overdraw limit. -/
def failover : State :=
  let cfg : RouteCfg :=
    { RouteCfg.reset with
      ink := 3, defaultSlot := some 0, alternate := some 1, revertEnable := true, settleLines := 2 }
  let route : Route :=
    { Route.unrouted with
      state := .pendingAlt, active := some 0, switchTimer := .running 1500, lastLine := some 811
      gate := ⟨false, false, false, true, false⟩ }
  let s := (base.putSlot 0 { someSlot .depleted with overdraw := 10 }).putSlot 1 (someSlot .genuine)
  let s := s.putRoute 0 route
  { s with
    settings :=
      { s.settings with
        routes := s.settings.routes.set 0 cfg, policy := { s.settings.policy with overdrawLimit := 10 } } }

/-- 3.9, 1500: the switch with cause CONDITION. -/
theorem test_switch_of_the_worked_sequence :
    let t := run (.switchTimerExpiry 0) failover
    t.time = 1500 ∧ (t.route 0).state = .onAlternate ∧ (t.route 0).active = some 1 ∧
      (t.route 0).switchTimer = .idle ∧ (t.route 0).settleCount = 2 ∧
      (t.route 0).gate = ⟨false, false, false, false, true⟩ ∧ t.pins.valves[0] = true ∧
      t.trace = [⟨0, some 0, some 1, .condition, some 811, 1500⟩] ∧
      (t.notices.queue.map Notice.kind).drop 1 = [.route, .gate] := by
  decide

/-- 3.9, 26,350: the switch with cause REVERT. -/
theorem test_revert_of_the_worked_sequence :
    let r : Route :=
      { Route.unrouted with
        state := .onAlternate, active := some 1, revertTimer := some 26350, lastLine := some 814
        gate := ⟨false, false, false, false, false⟩ }
    let t := run (.revertTimerExpiry 0) ((failover.putSlot 0 (someSlot .genuine)).putRoute 0 r)
    t.time = 26350 ∧ (t.route 0).state = .onDefault ∧ (t.route 0).active = some 0 ∧
      (t.route 0).revertTimer = none ∧ (t.route 0).settleCount = 2 ∧ t.pins.valves[0] = false ∧
      t.trace = [⟨0, some 1, some 0, .revert, some 814, 26350⟩] := by
  decide

/-- 5.9: slot 6 with the checkpoint that the chip has accepted, at the end of the turnaround. -/
def accepting : State :=
  let slot : Slot :=
    { someSlot .genuine with
      tenure := 4, nominal := some 100000, remaining := some 87997, writtenRemaining := some 89000
      writeCount := some 120, drawn := 1003 }
  let trans : Transaction :=
    { Transaction.start .checkpoint 4 with attempt := 2, values := ⟨88000, 121, false⟩, judged := some .good }
  { base with time := 7033 }.putSlot 6 slot |>.putLine 6
    { LineCtl.cold with
      state := .quiet, trans := some trans, timer := some 7034, received := [0x84#8, 0x01#8, 0xA5#8, 0xD6#8] }

/-- 5.9, 7034.7: the write is confirmed, and the line is IDLE. -/
theorem test_checkpoint_of_the_worked_transaction :
    let t := run (.turnaroundEnd 6) accepting
    t.time = 7034 ∧ (t.slot 6).writtenRemaining = some 88000 ∧ (t.slot 6).writeCount = some 121 ∧
      (t.slot 6).drawn = 3 ∧ (t.slot 6).remaining = some 87997 ∧ (t.slot 6).writeFailures = 0 ∧
      (t.line 6).state = .idle ∧ (t.line 6).trans = none ∧ (t.slot 6).historyIndex = some 0 ∧
      (t.entry 0).map HistoryEntry.confirmed = some 88000 ∧ (t.entry 0).map HistoryEntry.writeCount = some 121 := by
  decide

/-- 6.8, with one other entry locked in place of fifty-six: the rollback, up to its outcome update. -/
theorem test_rollback_of_the_worked_sequence :
    let entry : HistoryEntry :=
      { serial := 81, ink := 2, confirmed := 150000, writeCount := 64, drawnSince := 0, depletedMark := false
        refillMark := false, stamp := 8810 }
    let slot : Slot :=
      { someSlot .authenticating with
        tenure := 5, serial := some 81, ink := some 2, nominal := some 500000, remaining := none
        reported := some ⟨310000, 51, false⟩, writeCount := some 51, writtenRemaining := some 310000 }
    let s := (base.putSlot 10 slot).putEntry 23 (some entry)
    let s :=
      { s with
        history := { s.history with nextStamp := 9402 }
        settings := { s.settings with policy := { s.settings.policy with refill := .grace } } }
    let t := s.tagMatched 10 81 ⟨310000, 51, false⟩
    (t.slot 10).state = .grace ∧ (t.slot 10).remaining = some 150000 ∧ (t.slot 10).grace = 20000 ∧
      (t.slot 10).causes = ⟨true, false, true, false, false, false⟩ ∧ (t.slot 10).historyIndex = some 23 ∧
      t.entry 23 = some { entry with refillMark := true, stamp := 9403 } ∧ t.history.nextStamp = 9404 ∧
      (t.senseOf 10).proven = true ∧ (t.notices.queue.map Notice.kind).drop 1 = [.refill, .slot] := by
  decide +kernel

/-- 9.6: 5000 and 5080, a close and a bounce of PRESENCE6. -/
theorem test_bounce_of_the_worked_sequence :
    let s := { base with time := 5000 }
    let t := run (.pinRawChange (.presence 6) true) s
    t.filter (.presence 6) = ⟨true, false, some ⟨5000, 5200⟩, false⟩ ∧
      run (.pinRawChange (.presence 6) false) { t with time := 5080 } = { s with time := 5080 } := by
  decide

/-- 9.6, 5290: the filtered change starts the probe. -/
theorem test_seating_of_the_worked_sequence :
    let s := { base with time := 5090 }.putFilter (.presence 6) ⟨true, false, some ⟨5090, 5290⟩, false⟩
    let t := run (.filterTimerExpiry ⟨.presence 6, []⟩) s
    t.time = 5290 ∧ t.filter (.presence 6) = ⟨true, true, none, true⟩ ∧ (t.slot 6).state = .probing ∧
      (t.line 6).state = .break ∧ (t.line 6).request = [0x01#8, 0x00#8, 0xFF#8] := by
  decide +kernel

/-- 10.5: the state when POWER_FAIL's filter expires. -/
def powerFailing : State :=
  let slot : Slot := { someSlot .genuine with tenure := 9, remaining := some 12001, drawn := 640, historyIndex := some 17 }
  let entry : HistoryEntry :=
    { serial := 5, ink := 3, confirmed := 12641, writeCount := 1, drawnSince := 0, depletedMark := false
      refillMark := false, stamp := 1 }
  let s := (base.putSlot 4 slot).putEntry 17 (some entry)
  let s := s.putMeter 1 { Meter.cold with fine := 35000000, remainder := 12, lastCharge := some (4, 9) }
  let s := s.putFilter .powerFail ⟨true, false, some ⟨0, 0⟩, false⟩
  { s with
    forward :=
      { Forward.cold with
        buffer := [somePacket], flights := [{ someFlight .arriving with channel := 1, source := some (4, 9) }] }
    nvm := { s.nvm with inProgress := some (.history 40 none, .normal), queue := [.waste ⟨0, 0⟩] } }

/-- 10.5: the save begins. -/
theorem test_save_of_the_worked_sequence :
    let t := run (.filterTimerExpiry ⟨.powerFail, []⟩) powerFailing
    t.nvm.saveState = .saving ∧ (t.slot 4).remaining = some 11997 ∧ (t.slot 4).drawn = 644 ∧
      (t.meter 1).fine = 0 ∧ (t.meter 1).remainder = 0 ∧ (t.entry 17).map HistoryEntry.drawnSince = some 644 ∧
      t.nvm.inProgress = some (.history 40 none, .normal) ∧
      t.nvm.queue.map RecordWrite.record = [.waste, .history 17, .cleanMark] ∧ t.forward.flights = [] ∧
      (t.route 11).gate.powerSave = true := by
  decide +kernel

/-- R126, R118: the last microlitre of a slot marks the entry of its serial, which becomes the most recent. -/
theorem test_the_last_microlitre_marks_the_entry :
    let t := lastDrop.applyDebit 15
    t.entry 63 = some { oldEntry with depletedMark := true, stamp := 1 } ∧ t.history.nextStamp = 2 ∧
      (t.slot 15).historyIndex = some 63 ∧ RecordWrite.history 63 (t.entry 63) ∈ t.nvm.queue ∧
      t.line 15 = (lastDrop.line 15).checkpointing ((lastDrop.slot 15).debited lastDrop.policy.overdrawLimit) ∧
      (t.notices.queue.map Notice.kind).filter (fun k => decide (k = .slot)) = [.slot] := by
  decide +kernel

/-- R23, R24: at the step a checkpoint is due, one below it is not, and none while one is in flight; the depleted mark
that the cartridge has confirmed makes none due. -/
theorem test_a_debit_makes_a_checkpoint_due :
    let at_ (drawn : Nat) := withSlot 15 { someSlot .genuine with drawn := drawn }
    let flying : LineCtl := { LineCtl.cold with state := .quiet, trans := some (Transaction.start .checkpoint 0) }
    let step := base.policy.checkpointStep
    (at_ (step - 1)).debitMakesDue 15 = true ∧ ((at_ (step - 1)).line 15).takesCheckpoint = true ∧
      ((at_ (step - 1)).applyDebit 15).digest ≠ base.digest ∧ (at_ (step - 2)).debitMakesDue 15 = false ∧
      ((at_ (step - 1)).putLine 15 flying).debitMakesDue 15 = false ∧
      (((at_ (step - 1)).putLine 15 { flying with trans := none }).applyDebit 15).line 15 =
        { flying with trans := none, pendCheckpoint := true } ∧
      (withSlot 15
          { someSlot .genuine with
            remaining := some 1, writtenRemaining := some 0, reported := some ⟨0, 1, true⟩ }).debitMakesDue 15 = false := by
  decide +kernel

/-- R19, R20, R13: a debit compares both watches; the one that holds fires with its value, and the slot is held. -/
theorem test_a_debit_compares_the_watches :
    let low : Watch := { kind := .remainingAtOrBelow, limit := 6, action := .hold, state := .armed }
    let s := withSlot 15 { someSlot .genuine with w0 := { low with limit := 5 }, w1 := low }
    let z := (s.slot 15).debited s.policy.overdrawLimit
    z.firings 15 = [(.watch, .slot 15, .watch .w1 .remainingAtOrBelow 6 .hold 6)] ∧
      (s.applyDebit 15).slot 15 = { z with w1 := { low with state := .fired }, held := true } ∧
      ((s.applyDebit 15).notices.queue.map Notice.details).getLast? =
        some (.watch .w1 .remainingAtOrBelow 6 .hold 6) := by
  decide +kernel

/-- R15, R12: the debit that reaches the limit takes the supply of the channel that the slot feeds. -/
theorem test_witness_debit_at_the_limit :
    let s := overdrawing.putSlot 7 { overdrawing.slot 7 with state := .depleted, remaining := some 0, overdraw := 1 }
    (s.slot 7).state = .depleted ∧ (s.slot 7).overdraw + 1 = s.policy.overdrawLimit ∧ (s.route 2).active = some 7 ∧
      s.drawable 7 2 = true ∧ (s.route 2).gate.noSupply = s.noSupply 2 ∧
      ((s.slot 7).debitNotice s.policy.overdrawLimit 7).length = 1 ∧ (s.applyDebit 7).drawable 7 2 = false := by
  decide +kernel

/-- A serial that the table holds, one that it does not, and none; the last of a grace. -/
theorem test_witness_debit_marks :
    let limit := base.policy.overdrawLimit
    (lastDrop.slot 15).runsDry limit = true ∧ (lastDrop.slot 15).serial = some 5 ∧
      lastDrop.history.lookup 5 = some 63 ∧ (lastDrop.putEntry 63 none).history.lookup 5 = none ∧
      ((someSlot .genuine).runsDry limit && (someSlot .genuine).serial.isSome) = false ∧
      ({ someSlot .grace with grace := 1 } : Slot).debitNotice limit 15 =
        [(.slot, .slot 15, .slot .spent .grace 0 none none)] := by
  decide +kernel

/-- R44, R45: a service line that takes the waste counter to the near threshold, a multiple of 1000. -/
theorem test_a_service_line_reaches_the_near_threshold :
    let cfg : RouteCfg := { RouteCfg.reset with fullAllowance := 64, runLength := 1 }
    let flight : Flight := { someFlight .good with volumes := ⟨1000, 1000, 1000⟩ }
    let s : State :=
      { base with
        settings := { base.settings with routes := base.settings.routes.set 2 cfg }
        waste := ⟨99999999, 449999⟩
        forward := { Forward.cold with buffer := [somePacket], flights := [flight] } }
    let t := run .lineEnd s
    s.wasteNear = false ∧ t.wasteNear = true ∧ s.waste.counter / 1000 < t.waste.counter / 1000 ∧
      t.waste.counter = 450000 ∧ RecordWrite.waste t.waste ∈ t.nvm.queue ∧
      (t.notices.queue.map Notice.details).getLast? = some (.waste .near true 450000 450000 500000) := by
  decide +kernel

/-- R159, R44: a threshold that Set Policy brings down to the counter raises its WASTE notice. -/
theorem test_set_policy_changes_a_waste_flag :
    let s := { atService with waste := ⟨0, 5⟩ }
    let t := s.replacePolicy { s.policy with wasteNear := 5 }
    s.wasteNear = false ∧ t.wasteNear = true ∧ t.wasteFull = false ∧
      (t.notices.queue.map Notice.details).getLast? = some (.waste .near true 5 5 500000) := by
  decide +kernel

/-- R22, R10, R20: Grant Grace on a SPENT slot raises SLOT, and the WATCH notice of a watch that fires. -/
theorem test_grant_grace_raises_its_notices :
    let w : Watch := { kind := .graceAtOrBelow, limit := 9, action := .notify, state := .armed }
    let s := atService.putSlot 15 { someSlot .spent with w0 := w, tenure := 4 }
    let t := run (.grantGrace 1 [15, 0, 0, 0, 9]) s
    (t.slot 15).state = .grace ∧ (t.slot 15).w0.state = .fired ∧
      ((t.notices.queue.filter fun n => decide (n.kind = .slot ∨ n.kind = .watch)).map Notice.details) =
        [.slot .grace .spent 4 (some (s.slot 15).causes) none, .watch .w0 .graceAtOrBelow 9 .notify 9] := by
  decide +kernel

/-- R132: Read History from the last entry, and of eight. -/
theorem test_read_history_returns_its_records :
    let contents (f : List Byte) := (run (.readHistory 1 f) lastDrop).requests.replies.getLast?.map Reply.contents
    contents [63, 8] = some ([1, 1, 0] ++ lastDrop.historyRecord 63) ∧
      (contents [56, 9]).map List.length = some (3 + 8 * 27) := by
  decide +kernel

/-- R189, R128, R116: all 64 entries are valid; the save's write for slot 1, whose serial is new, replaces the least
recent entry, which was slot 0's. The writes of the others stand. -/
theorem test_a_save_with_a_full_table :
    let entries : Vector (Option HistoryEntry) 64 :=
      Vector.ofFn fun n => some { oldEntry with serial := BitVec.ofNat 64 (5 + n.val), stamp := n.val + 1 }
    let s := { (withSlot 0 { someSlot .genuine with drawn := 8 }).putSlot 1
                { someSlot .depleted with serial := some 99, drawn := 9 } with history := ⟨entries, 65⟩ }
    let t := s.beginSave .restart []
    (t.slot 0).historyIndex = none ∧ (t.slot 1).historyIndex = some 0 ∧
      (t.entry 0).map (fun e => (e.serial, e.drawnSince)) = some (99, 9) ∧
      RecordWrite.history 0 (t.entry 0) ∈ t.nvm.queue ∧ RecordWrite.waste t.waste ∈ t.nvm.queue := by
  decide +kernel

/-! ### Witnesses: a state and operands that meet the hypotheses of each statement -/

/-- Powered, and queue empty; without power; a request in front of the queue. -/
theorem test_witness_step_and_power :
    base.pending = [] ∧ base.powered = true ∧ State.manufactured.powered = false ∧
      (∀ e, Instr.readPart 0 [] ≠ .powerOn e) ∧ (∀ p a, Instr.readPart 0 [] ≠ .pinRawChange p a) := by
  refine ⟨rfl, rfl, rfl, ?_, ?_⟩ <;> simp

/-- The queue empty with power and without; an expiry that lies ahead, and one that has passed. -/
theorem test_witness_time :
    base.pending = [] ∧ base.powered = true ∧ State.manufactured.pending = [] ∧
      (((10 : Time) - { base with time := 5 }.time).toNat < 2147483648) ∧
      2147483648 ≤ ((9 : Time) - { base with time := 10 }.time).toNat := by
  decide

/-- Every place of the reply list is in use, every entry of the Notice Queue and of the trace. -/
def crowded : State :=
  { fullList with
    pending := [.clearTrace 1 []]
    notices :=
      { base.notices with queue := List.replicate 31 ⟨.pin, .none, 1, .pin true 0⟩ ++ base.notices.queue }
    trace := List.replicate 10 ⟨0, none, none, .operator, none, 0⟩ }

theorem test_witness_queues_bounded : QueuesBounded crowded ∧ ∃ t, step crowded = .next t :=
  ⟨by unfold QueuesBounded; decide, _, rfl⟩

/-- Each invariant of tier 3 holds in a state with a command in front that answers a next state. -/
theorem test_witness_invariants :
    let s := { twoLines with pending := [.lineEnd] }
    NoticesDistinct s ∧ MetersInRange s ∧ WriterOrderly s ∧ ∃ t, step s = .next t :=
  ⟨by unfold NoticesDistinct; decide, by unfold MetersInRange; decide,
    by unfold WriterOrderly; decide, _, rfl⟩

theorem test_witness_routes_and_presence :
    let s := { base with pending := [.readPart 0 []] }
    let u := { failover with pending := [.switchTimerExpiry 0] }
    (∀ c, ((s.route c).state = .unrouted ↔ (s.routeCfg c).ink = 0 ∨ (s.routeCfg c).defaultSlot = none)) ∧
      RoutesConsistent u ∧ PresenceFollows s ∧ (∃ t, step s = .next t) ∧ ∃ t, step u = .next t :=
  ⟨by decide, by unfold RoutesConsistent; decide, by unfold PresenceFollows; decide,
    ⟨_, rfl⟩, _, rfl⟩

/-- Fifteen places in use take a request, sixteen turn it away. -/
theorem test_witness_places :
    takesRequests base ∧ takesRequests atService ∧
      takesRequests { base with requests := { base.requests with replies := List.replicate 15 someReply } } ∧
      turnsAway fullList := by
  unfold takesRequests turnsAway; decide

theorem test_witness_mgmt_payloads :
    (Instr.readHistory 1 [0x3F, 0x08]).wellFormed = true ∧
      (requestParts (.readHistory 1 [0x3F, 0x08])).isSome = true ∧ 2 ≤ [0x09#8, 0x00#8].length := by decide

theorem test_witness_within_packet : withinPacket (receiving .receiving) := by unfold withinPacket; decide

/-- One field byte too few and one too many, for a code of the part. -/
theorem test_witness_bad_sizes :
    requestParts (.readSlot 7 []) = some (7, 0x08, []) ∧ (Instr.readSlot 7 []).wellFormed = true ∧
      unknownCode 0x08 = false ∧ ([] : List Byte).length ≠ fieldBytes 0x08 [] ∧
      requestParts (.readPart 7 [0]) = some (7, 0x01, [0]) ∧ (Instr.readPart 7 [0]).wellFormed = true ∧
      unknownCode 0x01 = false ∧ ([0] : List Byte).length ≠ fieldBytes 0x01 [0] := by
  decide

/-- The four requests of 8.2, whole, at OPERATE. -/
theorem test_witness_service_requests :
    base.requests.access = .operate ∧
      ∀ i ∈ [Instr.setPolicy 1 (List.replicate 27 0), .grantGrace 1 (List.replicate 5 0),
          .clearHistoryEntry 1 [63], .resetWaste 1 []],
        i.wellFormed = true ∧
          ∃ p, requestParts i = some p ∧ p.2.1 ∈ serviceCodes ∧ p.2.2.length = fieldBytes p.2.1 p.2.2 := by
  refine ⟨rfl, ?_⟩
  intro i hi
  fin_cases hi <;> exact ⟨by decide, _, rfl, by decide, by decide⟩

theorem test_witness_numbers_out_of_range :
    takesRequests base ∧ 11 < (12#8).toNat ∧ 15 < (16#8).toNat ∧ 63 < (64#8).toNat :=
  ⟨by unfold takesRequests; decide, by decide⟩

/-- The longest list of kinds; a mode, a count and a kind just outside. -/
theorem test_witness_notice_mask :
    (List.finRange 14).length ≤ 14 ∧ 1 < (2#8).toNat ∧ 14 < (List.replicate 15 0#8).length ∧
      (List.replicate 15 0#8).length ≤ 247 ∧ ∃ k ∈ [14#8], 13 < k.toNat := by
  decide

/-- A raise meets no entry, an entry behind another one, and the entry that is being sent; enabled, masked, and with
the queue full; a count that stands at its largest. -/
theorem test_witness_notice_is_raised :
    let n (k : SlotNo) (count : Nat) : Notice := ⟨.slot, .slot k, count, .pin true 0⟩
    let u (queue : List Notice) (merged : Option Nat) : NoticeUnit :=
      { NoticeUnit.cold with queue := queue, merged := merged }
    let raised (u : NoticeUnit) (enabled : Bool) := u.take enabled .slot (.slot 2) (.pin false 5)
    (raised (u [n 1 1, n 2 255] (some 4)) true).queue = [n 1 1, { n 2 255 with details := .pin false 5 }] ∧
      (raised (u [n 1 1, n 2 255] (some 4)) true).merged = some 4 ∧
      (raised (u [n 2 1, n 1 1] (some 4)) false).queue = [{ n 2 2 with details := .pin false 5 }, n 1 1] ∧
      (raised (u [n 2 1, n 1 1] (some 4)) false).merged = some 5 ∧
      (raised (u [n 1 1] none) true).queue = [n 1 1, { n 2 1 with details := .pin false 5 }] ∧
      (raised (u [n 1 1] none) false).queue = [n 1 1] ∧
      (raised (u (List.replicate 32 (n 1 1)) none) true).overflow = true ∧
      (raised (u (List.replicate 32 (n 1 1)) none) true).dropped = 1 := by
  decide

/-- The fields of Set Route for channel 2: ink 3, head 1, 1024 nozzles, default 4, alternate 5, a condition source. -/
def routeBytes (ink dflt alternate source delay : Byte) : List Byte :=
  [2, ink, 1, 0x04, 0x00, dflt, alternate, source, 0, delay, 0, 0, 0, 1, 0, 2, 4]

theorem test_witness_route_checks :
    (12#8 :: (routeBytes 3 4 5 0 0).drop 1).length = 17 ∧
      setRouteOperand (12#8 :: (routeBytes 3 4 5 0 0).drop 1) = .error .badSubject ∧
      setRouteOperand (routeBytes 32 4 5 0 0) = .error .badValue ∧
      setRouteOperand (routeBytes 3 4 4 0 0) = .error .badValue := by
  decide

/-- R69: head 8, a default and an alternate of 16 and of 254, and with a bad ink beside it; condition source 8, revert
enable 2 and valve invert 2; the last good value of each. -/
theorem test_witness_route_fields_at_their_ends :
    let f := routeBytes 31 15 254 0 0
    (∀ g ∈ [(routeBytes 3 4 5 0 0).set 2 8, routeBytes 3 16 5 0 0, routeBytes 3 254 5 0 0, routeBytes 3 4 16 0 0, f,
        routeBytes 32 4 254 0 0], setRouteOperand g = .error .badSubject) ∧
      (∀ g ∈ [routeBytes 3 4 5 8 0, (routeBytes 3 4 5 0 0).set 10 2, (routeBytes 3 4 5 0 0).set 14 2],
        setRouteOperand g = .error .badValue) ∧
      ∃ x, setRouteOperand ((((routeBytes 31 15 255 7 0).set 2 7).set 10 1).set 14 1) = .ok x := by
  refine ⟨by decide, by decide, _, rfl⟩

/-- R64, R67: a hold of an open channel and its release change the highest-ranked reason; one beneath NO_ROUTE does
not. -/
theorem test_a_hold_raises_a_gate_notice :
    let openGate : State :=
      base.putRoute 11 { Route.unrouted with state := .onDefault, gate := ⟨false, false, false, false, false⟩ }
    let held := run (.holdChannel 1 [11]) openGate
    takesRequests openGate ∧ held.notices.queue.getLast? =
        some ⟨.gate, .channel 11, 1, .gate (some .operatorHold) none ⟨false, false, true, false, false⟩⟩ ∧
      (run (.releaseChannel 1 [11]) held).notices.queue.getLast? =
        some ⟨.gate, .channel 11, 2, .gate none (some .operatorHold) ⟨false, false, false, false, false⟩⟩ ∧
      (run (.holdChannel 1 [11]) base).notices = (base.requestArrives [0]).notices := by
  unfold takesRequests; decide

/-- Set Route to no ink, to no default; to a default that stays, that is left after a delay, and at once. -/
theorem test_witness_set_route :
    (∃ cfg, setRouteOperand (routeBytes 0 4 5 0 0) = .ok (2, cfg) ∧ cfg.ink = 0) ∧
      (∃ cfg, setRouteOperand (routeBytes 31 255 5 0 0) = .ok (2, cfg) ∧ cfg.defaultSlot = none) ∧
      (∃ cfg, setRouteOperand (routeBytes 31 4 255 6 0) = .ok (2, cfg) ∧ cfg.ink ≠ 0 ∧
        cfg.defaultSlot = some 4 ∧ cfg.alternate = none) ∧
      (∃ cfg, setRouteOperand (routeBytes 3 4 5 7 0) = .ok (2, cfg) ∧ cfg.defaultSlot = some 4 ∧
        (run (.setRoute 1 (routeBytes 3 4 5 7 0)) base).leaveDefault 2 = false) ∧
      (∃ cfg, setRouteOperand (routeBytes 3 4 5 6 1) = .ok (2, cfg) ∧ cfg.alternate ≠ none ∧
        0 < cfg.switchDelay ∧ (run (.setRoute 1 (routeBytes 3 4 5 6 1)) base).leaveDefault 2 = true) ∧
      ∃ cfg, setRouteOperand (routeBytes 3 4 5 6 0) = .ok (2, cfg) ∧ cfg.alternate ≠ none ∧
        cfg.switchDelay = 0 ∧ (run (.setRoute 1 (routeBytes 3 4 5 6 0)) base).leaveDefault 2 = true ∧
        (run (.setRoute 1 (routeBytes 3 4 5 6 0)) base).alternateFit 2 = false ∧
        (run (.setRoute 1 (routeBytes 3 4 5 6 0)) (base.putSlot 5 (someSlot .genuine))).alternateFit 2 = true := by
  refine ⟨⟨_, rfl, ?_⟩, ⟨_, rfl, ?_⟩, ⟨_, rfl, ?_⟩, ⟨_, rfl, ?_⟩, ⟨_, rfl, ?_⟩, ⟨_, rfl, ?_⟩⟩ <;> decide

/-- R70, R60, R72: Set Route on a channel without an active slot, with D true and no delay, writes the entry of the
request and that of the switch behind it, the oldest of ten going; taking the route away writes one more. -/
theorem test_set_route_writes_the_trace :
    let old : TraceEntry := ⟨7, none, some 1, .operator, none, 0⟩
    let s := { withSlot 5 (someSlot .genuine) with trace := List.replicate 10 old }
    let t := run (.setRoute 1 (routeBytes 3 4 5 6 0)) s
    let u := run (.setRoute 2 (routeBytes 0 4 5 6 0)) t
    takesRequests s ∧ t.trace =
        List.replicate 8 old ++ [⟨2, none, some 4, .operator, none, 0⟩, ⟨2, some 4, some 5, .condition, none, 0⟩] ∧
      t.pins.valves[2] = !(t.routeCfg 2).valveInvert ∧ (t.route 2).settleCount = 1 ∧
      u.trace = t.trace.drop 1 ++ [⟨2, some 5, none, .operator, none, 0⟩] ∧ u.pins.valves[2] = false ∧
      (u.route 2).settleCount = 1 ∧ (run (.setRoute 2 (routeBytes 0 4 5 6 0)) s).trace = s.trace := by
  unfold takesRequests; decide +kernel

theorem test_witness_rescan :
    takesRequests (withSlot 15 (someSlot .mute)) ∧ (base.slot 15).state = .empty ∧
      ((withSlot 15 (someSlot .mute)).slot 15).state ≠ .empty ∧ ((withSlot 15 (someSlot .mute)).line 15).state = .idle ∧
      takesRequests ((withSlot 15 (someSlot .mute)).putLine 15 { LineCtl.cold with state := .quiet }) ∧
      (((withSlot 15 (someSlot .mute)).putLine 15 { LineCtl.cold with state := .quiet }).line 15).state ≠ .idle := by
  unfold takesRequests; decide

/-- Nine bytes: a slot just outside; a watch, mode, kind and action just outside. -/
theorem test_witness_set_watch :
    15 < (byteAt [16, 0, 0, 0, 0, 0, 0, 0, 0] 0).toNat ∧ (byteAt [15, 2, 0, 0, 0, 0, 0, 0, 0] 0).toNat ≤ 15 ∧
      1 < (byteAt [15, 2, 0, 0, 0, 0, 0, 0, 0] 1).toNat ∧ 1 < (byteAt [15, 1, 2, 0, 0, 0, 0, 0, 0] 2).toNat ∧
      2 < (byteAt [15, 1, 1, 3, 0, 0, 0, 0, 0] 3).toNat ∧ 1 < (byteAt [15, 1, 1, 2, 0, 0, 0, 0, 2] 8).toNat ∧
      ([15, 1, 1, 2, 0, 0, 0, 0, 2] : List Byte).length = 9 := by
  decide

/-- R20, R21: a watch whose condition is true at its limit fires at once, and one a microlitre lower does not. -/
theorem test_a_set_watch_fires :
    let s := withSlot 15 (someSlot .genuine)
    let set (limit : Byte) := run (.setWatch 1 [15, 1, 0, 0, 0, 0, 0, limit, 1]) s
    takesRequests s ∧ ((set 7).slot 15).w1 = ⟨.remainingAtOrBelow, 7, .hold, .fired⟩ ∧ ((set 7).slot 15).held = true ∧
      (set 7).notices.queue.getLast? =
        some ⟨.watch, .slot 15, 1, .watch .w1 .remainingAtOrBelow 7 .hold 7⟩ ∧
      ((set 6).slot 15).w1 = ⟨.remainingAtOrBelow, 6, .hold, .armed⟩ ∧ ((set 6).slot 15).held = false := by
  unfold takesRequests; decide

theorem test_witness_grant_grace :
    let at_ (x : SlotState) : State := { withSlot 15 (someSlot x) with requests := atService.requests }
    takesRequests (at_ .grace) ∧ base.requests.access = .operate ∧ (at_ .grace).requests.access = .service ∧
      ((at_ .grace).slot 15).state = .grace ∧ takesRequests (at_ .spent) ∧ ((at_ .spent).slot 15).state = .spent ∧
      takesRequests (at_ .genuine) ∧ ((at_ .genuine).slot 15).state ≠ .grace ∧
      ((at_ .genuine).slot 15).state ≠ .spent ∧ 15 < (16#8).toNat ∧ (List.replicate 4 0#8).length = 4 := by
  unfold takesRequests; decide

/-- The fields of Load Volume Table, with that many entries for a channel and a waveform set. -/
def volumeBytes (bank count channel waveform : Byte) : List Byte :=
  [bank, count] ++ (List.replicate count.toNat [channel, waveform, 0, 9, 0, 10, 255, 255]).flatten

/-- A bank of the two's successor; lists of none, one, twelve and thirteen; channels 11 and 12; sets 3 and 4. -/
theorem test_witness_load_volume_table :
    (∀ f ∈ [volumeBytes 2 1 11 3, volumeBytes 1 0 11 3, volumeBytes 1 13 11 3, volumeBytes 1 12 12 3,
        volumeBytes 1 1 11 4, volumeBytes 0 1 11 3, volumeBytes 1 12 11 3],
      f.length = 2 + 8 * (byteAt f 1).toNat) ∧
      1 < (byteAt (volumeBytes 2 1 11 3) 0).toNat ∧ (volumeFields (volumeBytes 1 0 11 3)).length = 0 ∧
      12 < (volumeFields (volumeBytes 1 13 11 3)).length ∧
      (∃ v ∈ volumeFields (volumeBytes 1 12 12 3), 11 < v.channel) ∧
      (∀ v ∈ volumeFields (volumeBytes 1 1 11 4), v.channel ≤ 11) ∧
      (∃ v ∈ volumeFields (volumeBytes 1 1 11 4), 3 < v.waveform) ∧
      (∀ v ∈ volumeFields (volumeBytes 1 12 11 3), v.channel ≤ 11 ∧ v.waveform ≤ 3) ∧
      (volumeFields (volumeBytes 1 12 11 3)).length = 12 ∧ BankName.a = base.settings.active ∧
      BankName.b ≠ base.settings.active ∧ 1 < (2#8).toNat := by
  decide

/-- A fresh head whose reading is 500 ms old or just older than the new stale time of 10 ms; a stale head. -/
theorem test_witness_temperature_table :
    let f : List Byte := List.replicate 37 0
    let s (t : Time) : State := { base.putHead 7 { reading := some 0, readAt := 0, staleTimer := some 500 } with time := t }
    takesRequests (s 10) ∧ f.length = 37 ∧ (tempTableOperand f).staleTime = 10 ∧
      (tempTableOperand f).staleTime ≠ (s 10).settings.temp.staleTime ∧ ((s 10).head 7).staleTimer ≠ none ∧
      ¬(tempTableOperand f).staleTime < ((s 10).time - ((s 10).head 7).readAt).toNat ∧
      (tempTableOperand f).staleTime < ((s 11).time - ((s 11).head 7).readAt).toNat ∧
      ((s 11).head 6).staleTimer = none := by
  unfold takesRequests; decide

/-- R36: a head whose reading is older than the new stale time becomes stale with its TEMP notice, in ascending number;
one at the new stale time stays fresh, and one that is stale stays stale though the time grows (logs 45, 100). -/
theorem test_a_shorter_stale_time_raises_temp_notices :
    let h (age : Nat) : Head := { reading := some 9, readAt := BitVec.ofNat 32 (20 - age), staleTimer := some 500 }
    let s : State := { ((base.putHead 7 (h 11)).putHead 3 (h 11)).putHead 4 (h 10) with time := 20 }
    let t := run (.loadTemperatureTable 1 (List.replicate 37 0)) s
    let long := run (.loadTemperatureTable 2 (List.replicate 35 0 ++ [0x13, 0x88])) t
    takesRequests s ∧ (t.head 7).staleTimer = none ∧ (t.head 4).staleTimer = some 20 ∧
      (t.notices.queue.filter fun n => decide (n.kind = .temp)) =
        [⟨.temp, .head 3, 1, .temp false (some 9)⟩, ⟨.temp, .head 7, 1, .temp false (some 9)⟩] ∧
      long.settings.temp.staleTime = 5000 ∧ (long.head 7).staleTimer = none ∧ long.notices.queue = t.notices.queue := by
  unfold takesRequests; decide +kernel

/-- The fields of Set Pins, with one byte replaced. -/
def pinBytes (at_ : Nat) (b : Byte) : List Byte := (List.replicate 40 0#8).set at_ b

/-- PRESENCE15 with a filter timer that has run for that many milliseconds towards asserted, LEVEL4 LOW, and channel 2
watching it. -/
def settingPins (elapsed : Nat) (enabled : Bool) : State :=
  let s := base.putFilter (.presence 15) ⟨true, false, some ⟨0, 200⟩, false⟩
  let s := (s.putFilter (.level 4) ⟨true, true, none, false⟩).putSlot 4 (someSlot .genuine)
  let cfg : RouteCfg := { RouteCfg.reset with ink := 3, defaultSlot := some 4, source := .levelLow }
  { s with
    time := BitVec.ofNat 32 elapsed
    settings :=
      { s.settings with
        routes := s.settings.routes.set 2 cfg
        pins := { s.settings.pins with levelEnable := s.settings.pins.levelEnable.set 4 enabled } } }

/-- A timer under delays of 0 that has run past them and not; an enable that is turned on, turned off, and kept, with
LEVEL4 LOW; a lamp source that names a slot just outside. -/
theorem test_witness_set_pins_judged_again :
    let on := pinBytes 16 1
    takesRequests (settingPins 1 false) ∧ takesRequests (settingPins 0 true) ∧ takesRequests (settingPins 0 false) ∧
      (∃ cfg, setPinsOperand on = .ok cfg ∧
        cfg.groupDelays (.presence 15) ≠ (settingPins 1 false).settings.pins.groupDelays (.presence 15) ∧
        (cfg.groupDelays (.presence 15)).1 < ((settingPins 1 false).time - 0).toNat ∧
        ¬(cfg.groupDelays (.presence 15)).1 < ((settingPins 0 false).time - 0).toNat ∧
        cfg.levelEnable[4] ≠ (settingPins 1 false).settings.pins.levelEnable[4] ∧
        cfg.levelEnable = (settingPins 1 true).settings.pins.levelEnable) ∧
      (∃ cfg, setPinsOperand (pinBytes 0 0) = .ok cfg ∧
        cfg.levelEnable[4] ≠ (settingPins 1 true).settings.pins.levelEnable[4]) ∧
      ((settingPins 1 true).filter (.presence 15)).timer = some ⟨0, 200⟩ ∧
      ((settingPins 1 true).filter (.level 4)).filtered = true ∧
      ((settingPins 1 true).routeCfg 2).source = .levelLow ∧ ((settingPins 1 true).routeCfg 2).defaultSlot = some 4 ∧
      byteAt ((pinBytes 37 9).set 38 16) (28 + 3 * (3 : Fin 4).val) = 9#8 ∧
      15 < (byteAt ((pinBytes 37 9).set 38 16) (29 + 3 * (3 : Fin 4).val)).toNat := by
  unfold takesRequests
  refine ⟨by decide, by decide, by decide, ⟨_, rfl, by decide, by decide, by decide, by decide, by decide⟩,
    ⟨_, rfl, by decide⟩, ?_⟩
  decide

theorem test_witness_set_pins :
    (pinBytes 0 0).length = 40 ∧ (∃ cfg, setPinsOperand (pinBytes 0 0) = .ok cfg ∧
        cfg.levelEnable = base.settings.pins.levelEnable) ∧
      (∀ p ∈ inputs, (base.filter p).timer = none) ∧
      1 < (byteAt (pinBytes 27 2) (12 + (15 : SlotNo).val)).toNat ∧
      9 < (byteAt (pinBytes 37 10) (28 + 3 * (3 : Fin 4).val)).toNat ∧
      1 < (byteAt (pinBytes 39 2) (30 + 3 * (3 : Fin 4).val)).toNat ∧
      setPinsOperand ((pinBytes 37 9).set 38 16) = .error .badSubject ∧
      (∃ cfg, setPinsOperand ((pinBytes 37 9).set 38 15) = .ok cfg) := by
  refine ⟨by decide, ⟨_, rfl, by decide⟩, by decide, by decide, by decide, by decide,
    by decide, _, rfl⟩

/-- R175, R182: LEVEL4's timer has run past delays of 0, towards LOW, while its enable is turned on and off; delays that
are set as they were leave a running timer alone. -/
theorem test_set_pins_with_a_running_timer :
    let s (enabled : Bool) := (settingPins 1 enabled).putFilter (.level 4) ⟨true, false, some ⟨0, 200⟩, false⟩
    let set (enabled : Bool) (enable : Byte) := run (.setPins 1 (pinBytes 16 enable)) (s enabled)
    takesRequests (s true) ∧ (set false 1).filter (.level 4) = ⟨true, true, none, true⟩ ∧
      ((set false 1).senseOf 4).lowSeen = true ∧ ((set true 0).senseOf 4).lowSeen = false ∧
      ((set true 1).senseOf 4).lowSeen = true ∧ ((set false 0).senseOf 4).lowSeen = false ∧
      setPinsOperand (s true).settings.pins.bytes = .ok (s true).settings.pins ∧
      (s true).settings.pins.bytes.length = 40 ∧
      (run (.setPins 1 (s true).settings.pins.bytes) (s true)).filter (.level 4) = (s true).filter (.level 4) := by
  unfold takesRequests; decide +kernel

/-- R180: of the 36 inputs the fields come first; the LEVEL enables and reported levels follow them. -/
theorem test_pins_are_read_in_order :
    let s := settingPins 1 true
    ((s.pinContents.drop (inputs.flatMap s.inputBytes).length).take 10 = [0, 0, 0, 0, 0, 0, 0, 0, 1, 1]) ∧
      (s.pinContents.take (inputs.flatMap s.inputBytes).length = inputs.flatMap s.inputBytes) := by
  decide +kernel

/-- Set Policy at SERVICE, with each enumeration at its last member and just outside. -/
theorem test_witness_set_policy :
    let f : List Byte := [1, 2, 3] ++ List.replicate 24 0
    takesRequests atService ∧ atService.requests.access = .service ∧ f.length = 27 ∧ (byteAt f 0).toNat ≤ 1 ∧
      (byteAt f 1).toNat ≤ 2 ∧ (byteAt f 2).toNat ≤ 3 ∧ 1 < (byteAt (f.set 0 2) 0).toNat ∧
      2 < (byteAt (f.set 1 3) 1).toNat ∧ 3 < (byteAt (f.set 2 4) 2).toNat ∧
      fieldAt ((f.set 9 0x07).set 10 0xD0) 7 4 = atService.policy.overdrawLimit := by
  unfold takesRequests; decide

def someEntry : HistoryEntry :=
  { serial := 5, ink := 3, confirmed := 100, writeCount := 1, drawnSince := 0, depletedMark := false
    refillMark := false, stamp := 1 }

theorem test_witness_clear_history_entry :
    takesRequests (atService.putEntry 63 (some someEntry)) ∧ atService.entry 63 = none ∧
      (atService.putEntry 63 (some someEntry)).entry 63 ≠ none ∧ 63 < (64#8).toNat := by
  unfold takesRequests; decide

theorem test_witness_reset_waste :
    takesRequests atService ∧ 0 < atService.policy.wasteNear ∧ 0 < atService.policy.wasteFull ∧
      base.requests.access = .operate ∧ atService.requests.access = .service := by
  unfold takesRequests; decide

/-- The Request Unit with a lockout, with a nonce, and with an attempt. -/
def unlocking (lockout : Option Time) (nonce : Option Nonce) (attempt : Option Attempt) : State :=
  { base with requests := { base.requests with lockout := lockout, nonce := nonce, attempt := attempt } }

theorem test_witness_unlock :
    takesRequests (unlocking (some 9) none none) ∧ (unlocking (some 9) none none).requests.lockout ≠ none ∧
      takesRequests (unlocking none (some 1) none) ∧ (unlocking none (some 1) none).requests.lockout = none ∧
      (unlocking none (some 1) none).requests.nonce = some 1 ∧ base.requests.nonce = none ∧
      takesRequests (unlocking none (some 1) (some ⟨0, 0, false⟩)) ∧
      (unlocking none (some 1) (some ⟨0, 0, false⟩)).requests.attempt ≠ none ∧ (List.replicate 8 0#8).length = 8 := by
  unfold takesRequests; decide

theorem test_witness_lockout :
    (unlocking (some 9) none none).powered = true ∧ (unlocking (some 9) none none).requests.lockout = some 9 ∧
      (∃ t, exec (.linkLost []) (receiving .idle) = .next t) ∧ ∃ t, exec (.lockService 1 []) base = .next t :=
  ⟨rfl, rfl, ⟨_, rfl⟩, _, rfl⟩

def withIdentity (programmed damaged : Bool) : State :=
  { base with
    nvm := { base.nvm with identity := { base.nvm.identity with programmed := programmed }, damaged := damaged } }

theorem test_witness_program_root_key :
    takesRequests (withIdentity true false) ∧ (withIdentity true false).nvm.identity.programmed = true ∧
      takesRequests (withIdentity false true) ∧ (withIdentity false true).nvm.damaged = true ∧
      base.nvm.identity.programmed = false ∧ base.nvm.damaged = false ∧ (List.replicate 16 0#8).length = 16 := by
  unfold takesRequests; decide

/-- The writer with a write in progress, those pending, and a save state. -/
def writer (inProgress : Option RecordWrite) (queue : List RecordWrite) (saveState : SaveState)
    (cause : Option SaveCause) : State :=
  { base with
    nvm :=
      { base.nvm with
        inProgress := inProgress.map fun w => (w, .normal), queue := queue, saveState := saveState
        saveCause := cause } }

/-- A free writer; a pending write of another record and of the same one; the clean mark of a save, and another write.
-/
theorem test_witness_writer :
    (writer none [] .running none).nvm.inProgress = none ∧ base.nvm.inProgress ≠ none ∧
      (∀ p ∈ [RecordWrite.waste ⟨0, 0⟩], p.record ≠ (RecordWrite.cleanMark true).record) ∧
      (RecordWrite.waste ⟨0, 0⟩).record = (RecordWrite.waste ⟨1, 1⟩).record ∧
      (∀ q ∈ [RecordWrite.history 63 none], q.record ≠ (RecordWrite.waste ⟨1, 1⟩).record) ∧
      (writer (some (.waste ⟨0, 0⟩)) [] .saving none).nvm.inProgress = some (.waste ⟨0, 0⟩, .normal) ∧
      RecordWrite.waste ⟨0, 0⟩ ≠ .cleanMark true ∧
      (writer (some (.cleanMark true)) [] .saving none).nvm.saveState = .saving ∧
      (writer (some (.cleanMark true)) [] .saving none).pins.powerFail.filtered = false ∧
      ((writer (some (.cleanMark true)) [] .saving none).putFilter .powerFail ⟨true, true, none, false⟩).pins.powerFail.filtered
        = true := by
  decide

/-- A Restart whose reply waits, and one without. -/
theorem test_witness_restart :
    let s := writer (some (.cleanMark true)) [] .saving (some .restart)
    let waits := { s with requests := { s.requests with replies := [⟨1, 0x1D, .done, []⟩] } }
    waits.nvm.saveCause = some .restart ∧ waits.requests.restartWaits = true ∧ s.requests.restartWaits = false ∧
      takesRequests s ∧ s.nvm.saveState ≠ .running ∧ takesRequests base ∧ base.nvm.saveState = .running := by
  unfold takesRequests; decide

/-- The debits of a save: 3 for the line in flight and 1 for the residue, on the slot whose tenure is the latched one,
and on none once that has ended. -/
theorem test_witness_save_debits :
    let ended := powerFailing.putSlot 4 { someSlot .probing with tenure := 10 }
    takesRequests powerFailing ∧ powerFailing.nvm.saveState = .running ∧
      (powerFailing.saveDebits.filter fun d => decide (d.1 = 1)).length = 4 ∧
      (powerFailing.saveDebits.filter fun d => powerFailing.chargesSlot 4 d.2).length = 4 ∧
      (ended.saveDebits.filter fun d => ended.chargesSlot 4 d.2).length = 0 := by
  unfold takesRequests; decide

/-! The upstream forward lane -/

theorem test_witness_forward_receiver :
    let refused : RxState := .refusedLine [0x10, 0x00, 0x07, 12, 0, 9, 0, 0, 4] 3
    withinPacket (receiving .receiving) ∧ (receiving refused).link.rx = refused ∧
      (receiving refused).powered = true ∧ (receiving refused).link.up = true ∧ [0x1B#8].length + 2 = 3 ∧
      crc16 [0x20, 0x00, 0x01, 0x31] ≠ crc16 [0x20, 0x00, 0x01, 0x31] + 1 ∧
      (receiving .idle).link.rx = .idle ∧ base.link.rx = .idle ∧ base.link.up = false ∧
      (receiving .abandonedLine).link.rx = .abandonedLine := by
  unfold withinPacket; decide

/-- Data symbols of no packet: in LOST after a refused line, and between packets, at the least length. -/
theorem test_witness_stray_data :
    base.powered = true ∧ (receiving .lostRest).link.rx = .lostRest ∧ (receiving .idle).link.rx = .idle ∧
      (receiving .idle).powered = true ∧ 6 ≤ (List.replicate 6 0x00#8).length ∧
      ({ base with link := { base.link with rx := .lostRest } } : State).link.up = false := by
  decide

/-- R149, R150: a header is refused, the link is lost, and the rest of the line arrives, short or long: the link stays
LOST, nothing is counted and no notice raised. The next start symbol restores it. -/
theorem test_rest_of_a_refused_line_does_not_restore_the_link :
    let lost := (receiving (.refusedLine [0x10, 0x00, 0x0A, 12, 0, 9, 0, 0, 4] 6)).linkExpires []
    let ended (n : Nat) := lost.refusedEnds (List.replicate n 0x00#8) 0
    lost.link.rx = .lostRest ∧ (ended 4).link = { lost.link with rx := .idle } ∧ (ended 4).notices = lost.notices ∧
      (ended 16).link = { lost.link with rx := .idle } ∧ ((ended 4).symbolArrives .start []).link.up = true := by
  decide +kernel

/-- The leak count just below its limit, and a rise from 0 and from 255. -/
theorem test_witness_grades :
    Grade.cold.leak + 1 < 1000 ∧ 1000 ≤ ({ Grade.cold with leak := 999 } : Grade).leak + 1 ∧
      (({ Grade.cold with counter := 255 } : Grade).rise 5).counter = 255 ∧ (Grade.cold.rise 5).timer = some 5 ∧
      (({ counter := 1, leak := 999, asserted := true, timer := none } : Grade).leaks 1000 5).timer = some 5 := by
  decide

theorem test_witness_packet_cut :
    lineArriving.powered = true ∧ lineArriving.link.up = true ∧ lineArriving.link.rx = .line ∧
      lineArriving.forward.flights = [] ++ [someFlight .arriving] ∧
      lineArriving.forward.buffer = [] ++ [somePacket] ∧ 2 ≤ somePacket.total := by
  decide

/-- A forward buffer with that many bytes not yet sent. -/
def buffered (backlog : Nat) : State :=
  { receiving .receiving with
    forward :=
      { Forward.cold with
        buffer := [{ placed := List.replicate backlog 0, total := backlog, sent := 0, live := false }] } }

/-- Six bytes free for a packet of six once its own symbols have passed, and one byte too few: the latter needs more than
1024 bytes and start symbols to be sent before it (log 15); the check of its bytes, and another. -/
theorem test_witness_head_packet :
    let body : List Byte := [0x30, 0x00, 0x01, 0x55]
    withinPacket (buffered 1023) ∧ 1 + 5 ≤ ((buffered 1023).forward.send 6).free ∧ withinPacket (buffered 1024) ∧
      ((buffered 1024).forward.send 6).free < 1 + 5 ∧ crc16 body ≠ crc16 body + 1 ∧
      0x30#8 :: (word16 (BitVec.ofNat 16 [0x55#8].length) ++ [0x55#8]) = body := by
  unfold withinPacket; decide +kernel

/-- Headers at the ends of each test: channel 12, a count not configured, the two lengths around the right one, and a
buffer one byte too small; the shortest and longest length. -/
theorem test_witness_line_header_refused :
    11 < (12#8).toNat ∧ (11#8).toNat = (11 : Channel).val ∧ (1023#16).toNat ≠ (base.routeCfg 11).nozzles ∧
      (1024#16).toNat = (base.routeCfg 11).nozzles ∧ (261#16).toNat ≠ 6 + (1024#16).toNat / 4 ∧
      (262#16).toNat = 6 + (1024#16).toNat / 4 ∧ ((buffered 766).forward.send 9).free < (262#16).toNat + 5 ∧
      withinPacket (buffered 766) ∧ 6 ≤ (6#16).toNat ∧ (518#16).toNat ≤ 518 := by
  unfold withinPacket; decide +kernel

/-- A header with exactly its bytes free, for an open channel with a settle count of 1, and for a gated one. -/
theorem test_witness_line_header_opens :
    let r : Route := { Route.unrouted with settleCount := 1, gate := ⟨false, false, false, false, true⟩ }
    withinPacket (buffered 765) ∧ (1024#16).toNat = ((buffered 765).routeCfg 11).nozzles ∧
      (262#16).toNat = 6 + (1024#16).toNat / 4 ∧ (262#16).toNat ≤ 518 ∧
      (262#16).toNat + 5 ≤ ((buffered 765).forward.send 9).free ∧
      ((buffered 765).route 11).settleCount ≠ 1 ∧ withinPacket ((buffered 765).putRoute 11 r) ∧
      (((buffered 765).putRoute 11 r).route 11).settleCount = 1 := by
  unfold withinPacket; decide +kernel

theorem test_witness_line_upstream_end :
    lineArriving.powered = true ∧ lineArriving.link.up = true ∧ lineArriving.link.rx = .line ∧
      lineArriving.forward.flights = [] ++ [someFlight .arriving] ∧ lineArriving.forward.buffer = [] ++ [somePacket] ∧
      (List.replicate 16 0x1B#8).length = (someFlight .arriving).nozzles / 4 := by
  decide

/-- R143, R144: a line that has arrived whole keeps its check and what follows until its line end; abandoned, it ends
with a poisoned check. -/
theorem test_check_of_a_line_waits_for_its_end :
    let p : ForwardPacket := { somePacket with placed := somePacket.placed ++ List.replicate 18 0#8 }
    let q : ForwardPacket := { placed := [1, 2], total := 2, sent := 0, live := false }
    sendSymbols 99 [p, q] = [{ p with sent := 26 }, q] ∧
      sendSymbols 99 [{ p with live := false }, q] = [{ p with sent := 28, live := false }, { q with sent := 3 }] ∧
      ({ p with sent := 26 } : ForwardPacket).abandon =
        { p with sent := 26, live := false, placed := p.placed.take 25 ++ poisonedCheck (p.placed.take 25) } := by
  decide +kernel

/-- R138, 7.4: line 41 has arrived whole behind a HEAD, and line 42's header is taken. The line end of 41 may be taken
before or after 42's upstream end: in either order the rest of line 42 adds nothing to what is to be sent. -/
theorem test_a_line_adds_nothing_to_the_backlog :
    let p (n sent : Nat) : ForwardPacket := { somePacket with placed := List.replicate n 0, sent := sent }
    let s : State :=
      { receiving .line with
        forward :=
          { Forward.cold with buffer := [p 27 16, p 9 0], flights := [someFlight .good, someFlight .arriving] } }
    let upstreamEnd : Instr := .lineUpstreamEnd (List.replicate 16 0) 7
    let ended := run .lineEnd s
    let arrived := run upstreamEnd s
    (∀ q ∈ s.forward.buffer, q.placed.length ≤ q.total) ∧ s.forward.buffer = [] ++ p 27 16 :: [p 9 0] ∧
      (p 27 16).live = true ∧ s.forward.toSend = 22 ∧ s.forward.backlog = 21 ∧ ended.forward.early = 12 ∧
      (run upstreamEnd ended).forward.toSend = 22 ∧ (run upstreamEnd ended).forward.backlog = 22 ∧
      arrived.forward.toSend = 22 ∧ arrived.forward.backlog = 22 ∧ arrived.forward.held = 8 ∧
      (run .lineEnd arrived).forward.toSend = 22 ∧
      (run upstreamEnd ended).forward.send 1 = (run .lineEnd arrived).forward.send 1 := by
  decide +kernel

/-- A line of 267 bytes passes through, start symbol, header, and the rest. -/
def lineThrough (f : Forward) : Forward :=
  let opened := (f.send 1).send 9
  let p (n : Nat) : ForwardPacket := { placed := List.replicate n 0, total := 267, sent := 0, live := true }
  let arriving := { opened with buffer := opened.buffer ++ [p 9] }
  Forward.send
    { arriving with buffer := onNewest (fun q => { q with placed := List.replicate 267 0 }) arriving.buffer } 258

/-- R138, 7.4: the backlog of the sequence, 200 behind but for a start symbol in transit, with the line end of line 41
before or after line 42 passes, and the fill symbols that follow. -/
theorem test_the_backlog_of_the_worked_sequence :
    let head : ForwardPacket := { placed := List.replicate 200 0, total := 200, sent := 0, live := false }
    let held : Forward := { Forward.cold with buffer := [head] }
    let line41 := lineThrough held
    let before := lineThrough (line41.endLine [])
    let after := (lineThrough line41).endLine []
    held.backlog = 200 ∧ held.sends = .start ∧ (held.send 1).sends = .data 0 ∧ line41.backlog = 201 ∧
      line41.toSend = held.toSend ∧ before.backlog = 201 ∧ (lineThrough line41).backlog = 201 ∧ after.backlog = 201 ∧
      before.send 1 = after.send 1 ∧ (after.send 201).backlog = 0 ∧ (after.send 200).sends = .data 0 ∧
      (after.send 201).sends = .fill := by
  decide +kernel

/-- R138: of the symbols of a packet the start symbol leaves the backlog as it is, and each byte takes one off it. -/
theorem test_a_start_symbol_takes_its_symbol_time :
    let p : ForwardPacket := { placed := [0xA5, 0x5A], total := 2, sent := 0, live := false }
    let f : Forward := { Forward.cold with buffer := [p, p] }
    f.early = 0 ∧ (∀ q ∈ f.buffer, q.placed.length ≤ q.total) ∧
      (List.range 7).map (fun n => ((f.send n).sends, (f.send n).backlog)) =
        [(.start, 4), (.data 0xA5, 4), (.data 0x5A, 3), (.start, 2), (.data 0xA5, 2), (.data 0x5A, 1), (.fill, 0)] := by
  decide +kernel

/-- A line's packet at its header, and a buffer with enough to send while its start symbol and header arrive. -/
theorem test_witness_line_through :
    somePacket.sent = 0 ∧ somePacket.placed.length = 9 ∧ somePacket.total = (somePacket.placed ++ List.replicate 18 0).length ∧
      (buffered 9).forward.early = 0 ∧ (buffered 9).forward.toSend = 10 ∧
      ∀ q ∈ (buffered 9).forward.buffer, q.placed.length ≤ q.total := by
  decide +kernel

/-- R141, R142: an open line that is cut has counted the levels that arrived. -/
theorem test_a_cut_line_has_counted :
    let s := run (.packetCut .fill [0x1B#8, 0x40#8]) lineArriving
    s.forward.flights = [{ someFlight .failed with n1 := 2, n2 := 1, n3 := 1 }] := by
  decide +kernel

/-- The oldest line in each of the three ways it may end; no debit, and no source. -/
theorem test_witness_line_end :
    let s (l : Flight) : State := { base with forward := { Forward.cold with buffer := [somePacket], flights := [l] } }
    (s (someFlight .good)).powered = true ∧ (s (someFlight .good)).forward.flights = someFlight .good :: [] ∧
      (someFlight .good).blanked = false ∧ (someFlight .good).upstream = .good ∧
      (someFlight .failed).upstream = .failed ∧
      ({ someFlight .good with blanked := true } : Flight).upstream ≠ .arriving ∧
      (1 * 1000 + 2 * 1000 + 3 * 1000) * 1024 / 1024 / 100000000 = 0 ∧
      ({ someFlight .good with source := none } : Flight).source = none ∧
      ((s (someFlight .good)).meter 2).orphan ≤ u32Max := by
  decide

/-- Debits above 0 for the slot latched at the header, and for one whose tenure has ended since. -/
theorem test_witness_line_debits :
    let ended := twoLines.putSlot 9 { someSlot .probing with tenure := 4 }
    (1 * 320 + 2 * 710 + 100 * 1250) * 1024 ≠ 0 ∧ twoLines.powered = true ∧
      (∀ l ∈ twoLines.forward.flights, l.blanked = false ∧ l.upstream = .good ∧ l.source = some (9, 3)) ∧
      (twoLines.slot 9).tenure = 3 ∧ (ended.slot 9).tenure ≠ 3 ∧
      (run .lineEnd twoLines).slot 9 ≠ twoLines.slot 9 ∧
      ((run .lineEnd ended).meter 4).orphan = (ended.meter 4).orphan + 1 := by
  decide

/-- A debit in each of the four ways: the last microlitre, the overdraw limit and one below it, the last of a grace. -/
theorem test_witness_debits :
    let limit := base.policy.overdrawLimit
    ((withSlot 15 { someSlot .genuine with remaining := some 1 }).slot 15).remaining.getD 0 = 1 ∧
      ((withSlot 15 { someSlot .depleted with overdraw := limit - 1 }).slot 15).overdraw < limit ∧
      limit ≤ ((withSlot 15 { someSlot .depleted with overdraw := limit }).slot 15).overdraw ∧
      ((withSlot 15 { someSlot .grace with grace := 1 }).slot 15).grace = 1 ∧
      ((withSlot 15 (someSlot .fault)).slot 15).state ∉ [.genuine, .depleted, .grace] := by
  decide

/-- A slot with nothing drawn, and one with a microlitre drawn on a busy line. -/
theorem test_witness_link_loss :
    let s := ((receiving .idle).putSlot 0 { someSlot .genuine with drawn := 1 }).putLine 0
      { LineCtl.cold with state := .quiet }
    s.powered = true ∧ s.link.up = true ∧ s.link.timer = some 50 ∧
      ((s.slot 0).state.supplies && decide (0 < (s.slot 0).drawn)) = true ∧ (s.line 0).state ≠ .idle ∧
      ((s.slot 1).state.supplies && decide (0 < (s.slot 1).drawn)) = false := by
  decide

/-- A checkpoint due on an idle line, while a line of sixteen level bytes arrives: one of them has. -/
theorem test_witness_link_loss_on_an_idle_line :
    let s := lineArriving.putSlot 0 { someSlot .genuine with drawn := 1 }
    let t := run (.linkLost [0x1B]) s
    s.powered = true ∧ s.link.up = true ∧ s.link.timer = some 50 ∧ s.link.rx = .line ∧
      (s.slot 0).state.supplies = true ∧ (s.line 0).state = .idle ∧ (s.line 0).pendProbe.isNone = true ∧
      (s.line 0).pendChallenge.isNone = true ∧ (t.line 0).state = .tagWait ∧
      (s.forward.levelsPlaced [0x1B]).buffer = [{ somePacket with placed := somePacket.placed ++ [0x1B] }] := by
  decide

/-! The return lanes -/

/-- A HEADRET of a payload of nine bytes that still arrives. -/
def headret : HeadReturn := { bytes := [0x31, 0x00, 0x09], total := 14, arriving := true }

def returning : State := { base with returns := { buffer := [headret], rx := .headret, grant := .fill } }

/-- A return of 128 bytes on the lane and of 129; a HEAD STATUS with its check, and two payloads that are none. -/
theorem test_witness_head_returns :
    base.returns.rx ≠ .headret ∧ (123#16).toNat ≤ 123 ∧ 123 < (124#16).toNat ∧ returning.returns.rx = .headret ∧
      returning.returns.buffer = [] ++ [headret] ∧ ([0x01#8] ++ List.replicate 8 0xFF#8).length + 5 = headret.total ∧
      (let payload := [0x01#8] ++ List.replicate 7 0xFF#8 ++ [0x00#8]
       let check := crc16 (0x31#8 :: (word16 (BitVec.ofNat 16 payload.length) ++ payload))
       byteAt payload 0 = 0x01#8 ∧ 9 ≤ payload.length ∧
        crc16 (0x31#8 :: (word16 (BitVec.ofNat 16 payload.length) ++ payload)) = check ∧
        (byteAt payload (1 + (0 : HeadNo).val)).toNat = 255 ∧ (byteAt payload (1 + (7 : HeadNo).val)).toNat ≠ 255) ∧
      byteAt (List.replicate 9 0x02#8) 0 ≠ 0x01#8 ∧ ¬9 ≤ (List.replicate 8 0x01#8).length := by
  decide +kernel

/-- R36, R146: of two heads with a reading in a HEAD STATUS the stale one becomes fresh with a TEMP notice, the fresh one
without. -/
theorem test_a_stale_head_becomes_fresh :
    let s := returning.putHead 7 { reading := some 1, readAt := 0, staleTimer := some 500 }
    let payload : List Byte := [0x01#8, 82] ++ List.replicate 6 0xFF#8 ++ [0x00#8]
    let t := run (.headretEnd payload (crc16 (0x31#8 :: (word16 9 ++ payload)))) s
    (s.head 0).staleTimer = none ∧ (s.head 7).staleTimer ≠ none ∧ (t.head 0).reading = some 82 ∧
      (t.head 7).reading = some 0 ∧
      (t.notices.queue.map fun n => (n.kind, n.subject)).drop 1 = [(.temp, .head 0)] := by
  decide +kernel

/-- The return lane with a grant. -/
def granted (g : Grant) (buffer : List HeadReturn) (replies : List Reply) (held : Bool) : State :=
  { base with
    returns := { buffer := buffer, rx := .idle, grant := g }
    requests := { base.requests with replies := replies }
    nvm := { base.nvm with startUpHeld := held } }

/-- Each grant with what it sends, and the Restart's reply as the last one. -/
theorem test_witness_return_packet_end :
    returning.returns.grant = .fill ∧ returning.nvm.startUpHeld = false ∧ base.returns.buffer = [] ∧
      base.requests.replies = [] ∧ (∃ n rest, base.notices.queue = n :: rest) ∧
      (granted .fill [] [someReply] false).requests.replies = someReply :: [] ∧
      (granted (.reply []) [] [someReply] false).returns.grant = .reply [] ∧
      (granted (.notice []) [] [] false).returns.grant = .notice [] ∧
      ({ headret with arriving := false } : HeadReturn).arriving = false ∧
      (granted (.reply []) [] [⟨1, 0x1D, .done, []⟩, someReply] true).nvm.startUpHeld = true ∧
      (∀ x ∈ [someReply, ⟨2, 0x1D, .badState, []⟩], x.code ≠ 0x1D#8 ∨ x.outcome ≠ .done) := by
  refine ⟨by decide, by decide, by decide, by decide, ⟨_, _, rfl⟩, ?_⟩; decide

/-- R147, R148: what ends leaves more of its kind behind: a reply, a HEADRET, a notice with and without merges since its
grant; a HEADRET that still arrives has not ended. -/
theorem test_witness_packets_behind_the_granted_one :
    let whole : HeadReturn := { headret with arriving := false }
    let n (k : SlotNo) : Notice := ⟨.slot, .slot k, 1, .pin true 0⟩
    let noticed (merged : Option Nat) : State :=
      { granted (.notice []) [] [] false with
        notices := { NoticeUnit.cold with queue := [n 1, n 2], merged := merged } }
    (run .returnPacketEnd (granted (.reply []) [whole] [someReply, someReply] false)).returns.grant = .headret ∧
      (run .returnPacketEnd (granted (.reply []) [] [someReply, someReply] false)).requests.replies = [someReply] ∧
      (run .returnPacketEnd (granted .headret [whole, headret] [] false)).returns.buffer = [headret] ∧
      (granted .headret [headret] [] false).returns.buffer = headret :: [] ∧ headret.arriving = true ∧
      run .returnPacketEnd (granted .headret [headret] [] false) = granted .headret [headret] [] false ∧
      (run .returnPacketEnd (noticed (some 0))).notices.queue = [n 2] ∧
      (run .returnPacketEnd (noticed (some 300))).notices.queue = [{ n 1 with count := 255 }, n 2] ∧
      (noticed none).notices.queue = n 1 :: [n 2] := by
  decide

theorem test_witness_no_notice_waits :
    let s : State := { base with notices := NoticeUnit.cold }
    s.powered = true ∧ s.returns.grant = .fill ∧ s.notices.queue = [] := by decide

theorem test_witness_grade_and_stale_timers :
    let g : Grade := { counter := 1, leak := 0, asserted := false, timer := some 9 }
    let s : State := { base.putHead 7 { reading := some 1, readAt := 0, staleTimer := some 500 } with
                       link := { (receiving .idle).link with minor := g, major := g } }
    s.powered = true ∧ s.link.minor.timer = some 9 ∧ s.link.major.timer = some 9 ∧
      (s.head 7).staleTimer = some 500 := by
  decide

/-! Routes and pins -/

/-- The two pending states with a running timer, a fit alternate and an unfit one; a running revert timer; D false. -/
theorem test_witness_route_timers :
    let route (x : RouteState) (revert : Option Time) : Route :=
      { Route.unrouted with
        state := x, active := some 1, switchTimer := .running 1500, revertTimer := revert
        gate := ⟨false, false, false, false, false⟩ }
    let back := (failover.putSlot 0 (someSlot .genuine)).putRoute 0 (route .pendingDefault none)
    let revert := (failover.putSlot 0 (someSlot .genuine)).putRoute 0 (route .onAlternate (some 26350))
    failover.powered = true ∧ (failover.route 0).switchTimer = .running 1500 ∧ (failover.route 0).state = .pendingAlt ∧
      failover.alternateFit 0 = true ∧ (failover.putSlot 1 (someSlot .mute)).alternateFit 0 = false ∧
      (back.route 0).state = .pendingDefault ∧ (back.route 0).switchTimer = .running 1500 ∧
      back.leaveDefault 0 = false ∧ (revert.route 0).revertTimer = some 26350 ∧ revert.leaveDefault 0 = false := by
  decide

/-- D true on arrival with an alternate, after a delay and at once, for a fit alternate and an unfit one. -/
theorem test_witness_condition_on_arrival :
    let s (delay : Nat) (alternate : SlotState) : State :=
      let cfg : RouteCfg :=
        { RouteCfg.reset with
          ink := 3, defaultSlot := some 0, alternate := some 1, source := .always, switchDelay := delay }
      let route : Route := { Route.unrouted with state := .onAlternate, active := some 1, revertTimer := some 26350 }
      let s := (base.putSlot 1 (someSlot alternate)).putRoute 0 route
      { s with settings := { s.settings with routes := s.settings.routes.set 0 cfg } }
    (s 1 .genuine).powered = true ∧ ((s 1 .genuine).route 0).revertTimer = some 26350 ∧
      (s 1 .genuine).leaveDefault 0 = true ∧ ((s 1 .genuine).routeCfg 0).alternate ≠ none ∧
      0 < ((s 1 .genuine).routeCfg 0).switchDelay ∧ ((s 0 .genuine).routeCfg 0).switchDelay = 0 ∧
      (s 0 .genuine).alternateFit 0 = true ∧ (s 0 .mute).alternateFit 0 = false := by
  decide

/-- Channel 0 in a route state with a switch timer, slots 0 and 1 in a state each, a condition source and both delays. -/
def routing (x : RouteState) (timer : SwitchTimer) (slots : SlotState × SlotState) (source : CondSource)
    (switchDelay revertDelay : Nat) : State :=
  let cfg : RouteCfg :=
    { RouteCfg.reset with
      ink := 3, defaultSlot := some 0, alternate := some 1, source := source, switchDelay := switchDelay
      revertEnable := true, revertDelay := revertDelay }
  let away := decide (x = .onAlternate) || decide (x = .pendingDefault)
  let route : Route :=
    { Route.unrouted with
      state := x, active := some (if away then 1 else 0), switchTimer := timer
      gate := ⟨false, false, false, false, false⟩ }
  let s := ((base.putSlot 0 (someSlot slots.1)).putSlot 1 (someSlot slots.2)).putRoute 0 route
  { s with settings := { s.settings with routes := s.settings.routes.set 0 cfg } }

/-- ON_DEFAULT with D true: with a delay, and without one for a fit alternate and an unfit one; D false. PENDING_ALT
with the timer running, D true and false. -/
theorem test_witness_judging_towards_the_alternate :
    let s (delay : Nat) (slots : SlotState × SlotState) := routing .onDefault .idle slots .activeUnfit delay 0
    let p (source : CondSource) := routing .pendingAlt (.running 9) (.genuine, .genuine) source 5 0
    (s 5 (.mute, .genuine)).leaveDefault 0 = true ∧ ((s 5 (.mute, .genuine)).routeCfg 0).alternate ≠ none ∧
      0 < ((s 5 (.mute, .genuine)).routeCfg 0).switchDelay ∧ ((s 0 (.mute, .mute)).routeCfg 0).switchDelay = 0 ∧
      (s 0 (.mute, .mute)).leaveDefault 0 = true ∧ (s 0 (.mute, .mute)).alternateFit 0 = false ∧
      (s 0 (.mute, .genuine)).alternateFit 0 = true ∧ (s 5 (.genuine, .genuine)).leaveDefault 0 = false ∧
      ((p .always).route 0).state = .pendingAlt ∧ ((p .always).route 0).switchTimer = .running 9 ∧
      (p .always).leaveDefault 0 = true ∧ (p .never).leaveDefault 0 = false ∧
      (base.route 0).state = .unrouted := by
  decide

/-- PENDING_ALT WAITING: D false with a fit alternate and an unfit one, D true with each. -/
theorem test_witness_waiting_switch :
    let s (slots : SlotState × SlotState) := routing .pendingAlt .waiting slots .activeUnfit 5 0
    ((s (.genuine, .genuine)).route 0).state = .pendingAlt ∧ ((s (.genuine, .mute)).route 0).switchTimer = .waiting ∧
      (s (.genuine, .genuine)).leaveDefault 0 = false ∧ (s (.genuine, .genuine)).alternateFit 0 = true ∧
      (s (.genuine, .mute)).leaveDefault 0 = false ∧ (s (.genuine, .mute)).alternateFit 0 = false ∧
      (s (.mute, .genuine)).leaveDefault 0 = true ∧ (s (.mute, .genuine)).alternateFit 0 = true ∧
      (s (.mute, .mute)).leaveDefault 0 = true ∧ (s (.mute, .mute)).alternateFit 0 = false := by
  decide

/-- ON_ALTERNATE with an unfit alternate and a fit default: with a delay, and without one for D false and for D true. -/
theorem test_witness_forced_return :
    let s (source : CondSource) (delay : Nat) := routing .onAlternate .idle (.genuine, .mute) source delay 0
    ((s .never 5).route 0).state = .onAlternate ∧ (s .never 5).alternateFit 0 = false ∧
      (s .never 5).defaultFit 0 = true ∧ 0 < ((s .never 5).routeCfg 0).switchDelay ∧
      ((s .never 0).routeCfg 0).switchDelay = 0 ∧ (s .never 0).leaveDefault 0 = false ∧
      (s .always 0).leaveDefault 0 = true ∧ ((s .always 0).routeCfg 0).alternate ≠ none := by
  decide

/-- ON_ALTERNATE without forced return: revert holding with a delay and without one, and not holding; the timer running.
PENDING_DEFAULT with forced return and at its end. -/
theorem test_witness_revert_and_forced_returns_end :
    let s (source : CondSource) (revert : Nat) := routing .onAlternate .idle (.genuine, .genuine) source 5 revert
    let d (alternate : SlotState) := routing .pendingDefault (.running 9) (.genuine, alternate) .never 5 7
    (s .never 7).forcedReturn 0 = false ∧ (s .never 7).revertHolds 0 = true ∧ (s .never 0).revertHolds 0 = true ∧
      ((s .never 7).route 0).revertTimer = none ∧ 0 < ((s .never 7).routeCfg 0).revertDelay ∧
      ((s .never 0).routeCfg 0).revertDelay = 0 ∧ (s .always 7).revertHolds 0 = false ∧
      (((s .never 7).judgeRoute 0).route 0).revertTimer = some 7 ∧ ((d .mute).route 0).state = .pendingDefault ∧
      (d .mute).forcedReturn 0 = true ∧ (d .genuine).forcedReturn 0 = false ∧ (d .genuine).revertHolds 0 = true := by
  decide

/-- R12: slot 0, which channel 0 names and draws from, loses fitness and drawability; it loses fitness alone, as
DEPLETED; slot 2, which it does not name, changes nothing. -/
theorem test_witness_fitness_handed_on :
    let s (x : SlotState) := routing .onDefault .idle (x, .genuine) .activeUnfit 5 0
    ((s .genuine).fit 0 0 ≠ (s .mute).fit 0 0 ∧ ((s .mute).routeCfg 0).defaultSlot = some 0) ∧
      (s .genuine).drawable 0 0 ≠ (s .mute).drawable 0 0 ∧ (((s .mute).judgeRoute 0).route 0).active = some 0 ∧
      (s .genuine).fit 0 0 ≠ (s .depleted).fit 0 0 ∧ (s .genuine).drawable 0 0 = (s .depleted).drawable 0 0 ∧
      (s .depleted).drawable 0 0 ≠ (s .mute).drawable 0 0 ∧ (s .depleted).fit 0 0 = (s .mute).fit 0 0 ∧
      (s .genuine).fit 2 0 = (s .mute).fit 2 0 := by
  decide

/-- R12, R20, R21: a watch with action HOLD that fires on the active slot makes it unfit: the WATCH notice, then the
ROUTE and GATE notices of its channel. With action NOTIFY nothing is handed on. -/
theorem test_a_fired_watch_hands_on :
    let s := routing .onDefault .idle (.genuine, .genuine) .activeUnfit 5 0
    let t (action : Byte) := run (.setWatch 1 [0, 1, 0, 0, 0, 0, 0, 7, action]) s
    takesRequests s ∧ ((t 1).route 0).state = .pendingAlt ∧ ((t 1).route 0).gate.noSupply = true ∧
      ((t 1).notices.queue.filter fun n => decide (n.kind ∈ [.slot, .watch, .route, .gate])).map Notice.kind =
        [.watch, .route, .gate] ∧
      (t 0).routes = s.routes ∧ ((t 0).slot 0).w1.state = .fired ∧ ((t 0).slot 0).held = false := by
  unfold takesRequests; decide +kernel

/-- R6, R7, R10, R12: Rescan Slot and presence lost on the active slot: the SLOT notice, then the ROUTE and GATE notices
of its channel. -/
theorem test_a_slot_that_leaves_hands_on :
    let s := routing .onDefault .idle (.genuine, .genuine) .activeUnfit 5 0
    let going := s.putFilter (.presence 0) ⟨false, true, some ⟨0, 50⟩, false⟩
    let kinds (t : State) :=
      (t.notices.queue.filter fun n => decide (n.kind ∈ [.slot, .watch, .route, .gate])).map Notice.kind
    ∀ t ∈ [run (.rescanSlot 1 [0]) s, run (.filterTimerExpiry ⟨.presence 0, []⟩) going],
      kinds t = [.slot, .route, .gate] ∧ (t.route 0).state = .pendingAlt ∧ (t.route 0).gate.noSupply = true ∧
        t.trace = s.trace := by
  decide +kernel

/-- A level that stays, that returns, and that changes with a delay, without one, and on POWER_FAIL. -/
theorem test_witness_raw_levels :
    let s := base.putFilter (.aux 3) ⟨true, false, some ⟨0, 20⟩, false⟩
    let zero : State :=
      { base with settings := { base.settings with pins := { base.settings.pins with auxAssert := 0 } } }
    (s.filter (.aux 3)).raw = true ∧ (s.filter (.aux 3)).raw ≠ false ∧ (s.filter (.aux 3)).filtered = false ∧
      (base.filter (.aux 3)).raw ≠ true ∧ (base.filter (.aux 3)).filtered ≠ true ∧
      0 < base.settings.pins.auxAssert ∧ zero.settings.pins.auxAssert = 0 ∧ (Pin.aux 3) ≠ .powerFail ∧
      (zero.filter (.aux 3)).raw ≠ true ∧ (base.filter .powerFail).raw ≠ true := by
  decide

/-- R174, R176: with a delay of 0 PRESENCE15 follows its raw level at once, and its probe begins. -/
theorem test_a_raw_change_without_delay :
    let zero : State :=
      { base with settings := { base.settings with pins := { base.settings.pins with presenceAssert := 0 } } }
    let t := run (.pinRawChange (.presence 15) true) zero
    (zero.filter (.presence 15)).raw ≠ true ∧ (zero.filter (.presence 15)).filtered ≠ true ∧
      t.filter (.presence 15) = ⟨true, true, none, true⟩ ∧ (t.slot 15).state = .probing ∧
      (t.line 15).state = .break := by
  decide

theorem test_witness_presence :
    let coming := base.putFilter (.presence 15) ⟨true, false, some ⟨0, 200⟩, false⟩
    let going := ((withSlot 15 (someSlot .probing)).putFilter (.presence 15) ⟨false, true, some ⟨0, 50⟩, false⟩).putLine
      15 { LineCtl.cold with state := .break, trans := some (Transaction.start .identify 0) }
    coming.powered = true ∧ (coming.filter (.presence 15)).timer = some ⟨0, 200⟩ ∧
      (coming.filter (.presence 15)).raw = true ∧ (coming.slot 15).state = .empty ∧ (coming.line 15).state = .idle ∧
      ((coming.putLine 15 { LineCtl.cold with state := .quiet }).line 15).state ≠ .idle ∧
      (going.filter (.presence 15)).timer = some ⟨0, 50⟩ ∧ (going.filter (.presence 15)).raw = false ∧
      (going.slot 15).state ≠ .empty ∧ (going.line 15).trans ≠ none := by
  decide

/-- LEVEL not enabled and enabled; AUX that no channel names; POWER_FAIL in each save state. -/
theorem test_witness_filters :
    let level := ((withSlot 15 (someSlot .genuine)).putFilter (.level 15) ⟨true, false, some ⟨0, 2000⟩, false⟩)
    let enabled : State :=
      { level with
        settings :=
          { level.settings with
            pins := { level.settings.pins with levelEnable := level.settings.pins.levelEnable.set 15 true } } }
    let fail (raw : Bool) (x : SaveState) : State :=
      (writer none [] x none).putFilter .powerFail ⟨raw, !raw, some ⟨0, 0⟩, false⟩
    (level.filter (.level 15)).timer = some ⟨0, 2000⟩ ∧ level.settings.pins.levelEnable[15] = false ∧
      enabled.settings.pins.levelEnable[15] = true ∧ (enabled.filter (.level 15)).raw = true ∧
      (enabled.slot 15).state ≠ .empty ∧ (∀ c : Channel, (base.routeCfg c).source.aux ≠ some 3) ∧
      ((fail true .running).filter .powerFail).timer = some ⟨0, 0⟩ ∧ (fail true .running).nvm.saveState = .running ∧
      (fail true .saved).nvm.saveState ≠ .running ∧ (fail false .saved).nvm.saveState = .saved ∧
      ((fail false .saving).filter .powerFail).raw = false ∧ (fail false .saving).nvm.saveState ≠ .saved := by
  decide

/-- LEVEL15, enabled, settling as given, with low seen or not, its slot in a state and its serial proven or not. -/
def sensing (raw lowSeen proven : Bool) (state : SlotState) : State :=
  let s := ((withSlot 15 (someSlot state)).putFilter (.level 15) ⟨raw, !raw, some ⟨0, 2000⟩, false⟩).putSense 15
    ⟨lowSeen, proven⟩
  { s with
    settings :=
      { s.settings with
        pins := { s.settings.pins with levelEnable := s.settings.pins.levelEnable.set 15 true }
        policy := { s.settings.policy with refill := .grace } } }

/-- LEVEL turns WET with a finding, for a serial that is proven and one that is not, and without one: low not seen, and
a slot in AUTHENTICATING. -/
theorem test_witness_level_turns_wet :
    let s := sensing false true true .depleted
    s.powered = true ∧ (s.filter (.level 15)).timer = some ⟨0, 2000⟩ ∧ (s.filter (.level 15)).raw = false ∧
      s.settings.pins.levelEnable[15] = true ∧ (s.senseOf 15).lowSeen = true ∧
      (s.slot 15).state ∉ [.empty, .probing, .authenticating] ∧ (s.senseOf 15).proven = true ∧
      (s.slot 15).serial = some 5 ∧ ((sensing false true false .genuine).senseOf 15).proven = false ∧
      ((sensing false false true .genuine).senseOf 15).lowSeen = false ∧
      ((sensing false true false .authenticating).slot 15).state = .authenticating ∧
      ((run (.filterTimerExpiry ⟨.level 15, []⟩) s).slot 15).state = .grace := by
  decide

/-- R16: under GRACE with a volume of 0 a finding on a SPENT slot leaves its grace at the volume. -/
theorem test_finding_on_a_spent_slot :
    let s := (sensing false true false .spent).putSlot 15 { someSlot .spent with grace := 5 }
    let none_ : State :=
      { s with settings := { s.settings with policy := { s.settings.policy with graceVolume := 0 } } }
    let t := run (.filterTimerExpiry ⟨.level 15, []⟩) none_
    (t.slot 15).state = .spent ∧ (t.slot 15).grace = 0 ∧ (t.slot 15).causes.levelSenseRise = true := by
  decide

/-- AUX3 settles, and channel 11 names it; POWER_FAIL settles while a line arrives, with level bytes and without. -/
theorem test_witness_named_input_and_arriving_line :
    let cfg : RouteCfg := { RouteCfg.reset with ink := 3, defaultSlot := some 4, source := .aux3 }
    let s := base.putFilter (.aux 3) ⟨true, false, some ⟨0, 20⟩, false⟩
    let named := { s with settings := { s.settings with routes := s.settings.routes.set 11 cfg } }
    let failing := lineArriving.putFilter .powerFail ⟨true, false, some ⟨0, 0⟩, false⟩
    (named.filter (.aux 3)).timer = some ⟨0, 20⟩ ∧ (named.routeCfg 11).source.aux = some 3 ∧
      failing.nvm.saveState = .running ∧ failing.link.rx = .line ∧ [0x1B#8] ≠ [] ∧
      (failing.filter .powerFail).raw = true := by
  decide

/-! Slot lines, the Digest Engine and power -/

/-- A line in a state, in an attempt of READ FILL at a tenure of 0, and what it has received. -/
def attempting (state : LineState) (received : List Byte) : State :=
  withLine 15
    { LineCtl.cold with
      state := state, trans := some (Transaction.start .readFill 0), timer := some 3, received := received }

theorem test_witness_attempts :
    (attempting .break []).powered = true ∧ ((attempting .break []).line 15).state = .break ∧
      ((attempting .sending []).line 15).state = .sending ∧ ((attempting .awaiting []).line 15).state = .awaiting ∧
      ((attempting .receiving [0x82]).line 15).state = .receiving ∧ replyEnded [0x82] = false ∧
      replyEnded [0x82, 0x00, 0x7E] = true ∧ ((attempting .break []).line 15).trans = some (Transaction.start .readFill 0) ∧
      40 < (byteAt [0x82, 41] 1).toNat ∧ (byteAt [0x82, 40] 1).toNat ≤ 40 ∧ ReplyEnd.gap ≠ .noReply := by
  decide

/-- R101: a reply of its kind byte alone; one byte short of its length and with it; the longest length, and 43 bytes of
a longer one. -/
theorem test_a_reply_ends_with_its_length :
    let reply (length : Byte) (n : Nat) : List Byte := [0x82, length] ++ List.replicate (n - 2) 0
    replyEnded [] = false ∧ replyEnded [0x82] = false ∧ replyEnded (reply 0 2) = false ∧ replyEnded (reply 0 3) = true ∧
      replyEnded (reply 40 42) = false ∧ replyEnded (reply 40 43) = true ∧ replyEnded (reply 41 42) = false ∧
      replyEnded (reply 41 43) = true ∧ replyEnded (reply 255 43) = true := by
  decide

/-- R101: the gap timer ends a reply of its kind byte alone and one with bytes missing, GAP; a reply longer than a message
is LENGTH; an error that was noted before stands. R94: a break is a space for 2 ms and then a mark for 1 ms. -/
theorem test_witness_gap_and_break_levels :
    let gap (received : List Byte) (noted : Option FailKind) : State :=
      withLine 15
        { LineCtl.cold with
          state := .receiving, timer := some 3, received := received
          trans := some { Transaction.start .readFill 0 with noted := noted } }
    let judged (s : State) := ((run (.gapTimeout 15) s).line 15).trans.bind Transaction.judged
    judged (gap [0x82] none) = some (.failed .gap) ∧ judged (gap [0x82, 2, 0] none) = some (.failed .gap) ∧
      judged (gap [0x82, 41, 0] none) = some (.failed .length) ∧
      judged (gap [0x82, 2, 0] (some .parity)) = some (.failed .parity) ∧
      (∀ ms : Fin 4, State.breakLevel { withLine 15 { LineCtl.cold with state := .break, timer := some 3 } with
        time := BitVec.ofNat 32 ms.val } 15 = decide (2 ≤ ms.val)) := by
  decide

/-- The end of a turnaround of an attempt judged so, for a slot in a state. -/
def turning (kind : TransKind) (state : SlotState) (attempt : Nat) (j : Judgement) (received : List Byte) : State :=
  (withSlot 15 (someSlot state)).putLine 15
    { LineCtl.cold with
      state := .quiet, timer := some 1, received := received, probeHold := some ⟨5, 3, 1000⟩
      trans := some { Transaction.start kind 0 with attempt := attempt, judged := some j } }

theorem test_witness_turnaround :
    let probe := turning .readFill .probing 1 .good []
    let l := probe.line 15
    probe.powered = true ∧ l.state = .quiet ∧ l.pendProbe = none ∧ l.pendChallenge = none ∧
      l.pendCheckpoint = false ∧ ((withLine 15 { LineCtl.cold with state := .quiet }).line 15).trans = none ∧
      (∀ t ∈ l.trans, t.ignoreResult = false ∧ t.tenure = (probe.slot 15).tenure ∧ t.judged = some .good) ∧
      (probe.slot 15).state = .probing ∧ l.probeHold = some ⟨5, 3, 1000⟩ ∧
      ((turning .challenge .authenticating 1 .good []).slot 15).state = .authenticating ∧
      (∀ t ∈ ((turning .challenge .authenticating 2 (.failed .check) []).line 15).trans,
        t.judged = some (.failed .check) ∧ t.attempt = 2) ∧
      (∀ t ∈ ((turning .identify .probing 1 (.failed .check) []).line 15).trans,
        t.judged = some (.failed .check) ∧ t.attempt = 1) ∧
      byteAt ((turning .checkpoint .genuine 1 .good [0x84, 0x01, 0xA5, 0xD6]).line 15).received 2 = 0xA5#8 ∧
      byteAt ((turning .checkpoint .genuine 1 .good [0x84, 0x01, 0x5A, 0x21]).line 15).received 2 ≠ 0xA5#8 := by
  decide

/-- A result that is ignored, one of a tenure that has ended, and one the slot no longer waits for. -/
theorem test_witness_ignored_results :
    let s := turning .readFill .probing 1 .good []
    let ignored := s.putLine 15 { s.line 15 with trans := (s.line 15).trans.map fun t => { t with ignoreResult := true } }
    (∀ t ∈ (ignored.line 15).trans, t.ignoreResult = true ∧ t.kind ≠ .checkpoint ∧ t.judged = some .good) ∧
      (∀ t ∈ (s.line 15).trans, t.tenure ≠ ((s.putSlot 15 { s.slot 15 with tenure := 1 }).slot 15).tenure) ∧
      ((turning .challenge .genuine 1 .good []).slot 15).state ≠ .authenticating ∧
      ((turning .identify .genuine 1 .good []).slot 15).state ≠ .probing := by
  decide

/-- A checkpoint's end, with that many microlitres drawn and writes failed. -/
def checkpointing (state : SlotState) (attempt : Nat) (j : Judgement) (received : List Byte) (drawn failures : Nat) :
    State :=
  let s := turning .checkpoint state attempt j received
  s.putSlot 15 { s.slot 15 with drawn := drawn, writeFailures := failures }

/-- A checkpoint that is accepted with the step still reached and without, refused, and failed twice: as the third
failure of a slot that supplies, as an earlier one, and for a slot that does not supply. -/
theorem test_witness_checkpoint_ends :
    let accepted (drawn : Nat) := checkpointing .genuine 1 .good [0x84, 0x01, 0xA5, 0xD6] drawn 0
    let failed (x : SlotState) (n : Nat) := checkpointing x 2 (.failed .check) [] 0 n
    (accepted 1007).policy.checkpointStep ≤ 1007 - (7 - 0) ∧ ¬(accepted 1006).policy.checkpointStep ≤ 1006 - (7 - 0) ∧
      ((accepted 1007).slot 15).writtenRemaining = some 7 ∧ ((accepted 1007).slot 15).serial = some 5 ∧
      ((accepted 1007).slot 15).state.supplies = true ∧
      (∀ t ∈ ((accepted 1007).line 15).trans,
        t.ignoreResult = false ∧ t.tenure = ((accepted 1007).slot 15).tenure ∧ t.kind = .checkpoint ∧
          t.values.remaining = 0 ∧ t.judged = some .good) ∧
      ((failed .genuine 2).slot 15).state.supplies = true ∧ 2 ≤ ((failed .genuine 2).slot 15).writeFailures ∧
      ¬2 ≤ ((failed .genuine 1).slot 15).writeFailures ∧ ((failed .grace 2).slot 15).state.supplies = false ∧
      (∀ t ∈ ((failed .genuine 2).line 15).trans, t.judged = some (.failed .check) ∧ t.attempt = 2) := by
  decide

/-- R10, R109: the third failed write of a slot that supplies: the CHECKPOINT notice, then the SLOT notice of FAULT. An
earlier one raises the first alone. -/
theorem test_a_third_failed_write_is_a_fault :
    let notices (n : Nat) :=
      ((run (.turnaroundEnd 15) (checkpointing .genuine 2 (.failed .check) [] 0 n)).notices.queue.filter fun n =>
        decide (n.kind ∈ [.slot, .checkpoint])).map Notice.details
    let values := (Transaction.start .checkpoint 0).values
    notices 2 = [.checkpoint values (.failed .check) 3, .slot .fault .genuine 0 none none] ∧
      notices 1 = [.checkpoint values (.failed .check) 2] := by
  decide +kernel

/-- R24, R105, R108, R109: a checkpoint ends while another is pending. Accepted or refused, the pending one follows at
once; at the third failure it goes with the slot's FAULT. After a good IDENTIFY the READ FILL comes before it. -/
theorem test_a_pending_checkpoint_follows_its_predecessor :
    let pend (s : State) : State := s.putLine 15 { s.line 15 with pendCheckpoint := true }
    let accepted := pend (checkpointing .genuine 1 .good [0x84, 0x01, 0xA5, 0xD6] 0 0)
    let refused (n : Nat) := pend (checkpointing .genuine 1 .good [0x84, 0x01, 0x5A, 0x21] 0 n)
    let ended (s : State) := (run (.turnaroundEnd 15) s).line 15
    (accepted.line 15).pendCheckpoint = true ∧ (ended accepted).state = .tagWait ∧
      (ended accepted).pendCheckpoint = false ∧ (ended (refused 0)).state = .tagWait ∧
      (ended (refused 2)).state = .idle ∧ (ended (refused 2)).pendCheckpoint = false ∧
      (ended (pend (turning .identify .probing 1 .good []))).state = .sending ∧
      (ended (pend (turning .identify .probing 1 .good []))).pendCheckpoint = true := by
  decide

/-- A line with each pending entry, idle and at its turnaround's end. -/
theorem test_witness_pending_entries :
    let l (state : LineState) (p : Option ProbeStep) (c : Option Nonce) : LineCtl :=
      { LineCtl.cold with state := state, pendProbe := p, pendChallenge := c, pendCheckpoint := true }
    ((withLine 15 (l .idle (some .identify) none)).line 15).state = .idle ∧
      (l .idle (some .identify) none).pendProbe = some .identify ∧
      (l .idle (some .readFill) none).pendProbe = some .readFill ∧
      (l .idle none (some 9)).pendProbe = none ∧ (l .idle none (some 9)).pendChallenge = some 9 ∧
      (l .idle none none).pendChallenge = none ∧ (l .idle none none).pendCheckpoint = true ∧
      ((withLine 15 (l .quiet none none)).line 15).trans = none := by
  decide

/-- The engine with a pass for slot 15 in flight, the slot in a state with that tag and a key that is void or not. -/
def passing (kind : PassKind) (state : SlotState) (tag : Option Tag) (void abandoned : Bool) : State :=
  let slot : Slot := { someSlot state with remaining := none, tag := tag, derivedKey := some ⟨9, void⟩ }
  { withSlot 15 slot with
    digest :=
      { Digest.cold with
        inFlight :=
          some
            { requester := slotRequester 15, kind := kind, tenure := 0, abandoned := abandoned, message := [], key := 9
              keyGood := true } } }

theorem test_witness_digest_pass :
    let s := passing .derive .authenticating none false false
    s.powered = true ∧ (∀ p ∈ s.digest.inFlight, p.requester = slotRequester 15 ∧ p.kind = .derive ∧
        p.abandoned = false ∧ (s.slot 15).tenure = p.tenure) ∧
      (s.slot 15).state = .authenticating ∧ (s.line 15).state = .idle ∧ (s.line 15).pendProbe = none ∧
      ((passing .expect .authenticating none false true).slot 15).tag = none ∧
      ((passing .expect .probing none false false).slot 15).state ≠ .authenticating ∧
      (∀ k, ((passing .expect .authenticating none true false).slot 15).derivedKey = some k → k.void = true) := by
  refine ⟨rfl, by decide, by decide, by decide, by decide, by decide,
    by decide, ?_⟩
  intro k hk
  have e : ((passing .expect .authenticating none true false).slot 15).derivedKey = some ⟨9, true⟩ := by decide
  rw [e] at hk
  exact (Option.some.inj hk) ▸ rfl

/-- R5, R10, R80, R83: a void key under the policy GRACE: GRACE with the grace volume loaded and a watch that fires at
it, and SPENT with a volume of 0, each with its SLOT notice. -/
theorem test_a_void_key_enters_grace :
    let s := passing .expect .authenticating none true false
    let w : Watch := { kind := .graceAtOrBelow, limit := 9, action := .hold, state := .armed }
    let t (volume : Nat) :=
      State.expectDelivered
        { s.putSlot 15 { s.slot 15 with w0 := w } with
          settings :=
            { s.settings with policy := { s.settings.policy with nonGenuine := .grace, graceVolume := volume } } } 15 0
    let notices (t : State) :=
      (t.notices.queue.filter fun n => decide (n.kind ∈ [.slot, .watch])).map Notice.details
    ((t 9).slot 15).state = .grace ∧ ((t 9).slot 15).grace = 9 ∧ ((t 9).slot 15).held = true ∧
      notices (t 9) =
        [.slot .grace .authenticating 0 (some Causes.none) none, .watch .w0 .graceAtOrBelow 9 .hold 9] ∧
      ((t 0).slot 15).state = .spent ∧ ((t 0).slot 15).grace = 0 ∧ ((t 10).slot 15).w0.state = .armed ∧
      (t 9).history = s.history := by
  decide +kernel

/-- The engine with a WRITE_TAG in flight for the checkpoint of slot 15, whose line is in a state with a transaction. -/
def tagging (line : LineState) (kind : TransKind) : State :=
  (passing .writeTag .genuine none false false).putLine 15
    { LineCtl.cold with state := line, trans := some (Transaction.start kind 0) }

/-- A DERIVE for a busy line; a WRITE_TAG whose checkpoint waits, that nothing waits for, and for another transaction.
-/
theorem test_witness_derive_and_write_tag :
    let busy := (passing .derive .authenticating none false false).putLine 15 { LineCtl.cold with state := .quiet }
    (busy.line 15).state ≠ .idle ∧ (busy.slot 15).state = .authenticating ∧
      (∀ p ∈ (tagging .tagWait .checkpoint).digest.inFlight,
        p.kind = .writeTag ∧ p.abandoned = false ∧ p.requester = slotRequester 15 ∧
          ((tagging .tagWait .checkpoint).slot 15).tenure = p.tenure) ∧
      ((tagging .tagWait .checkpoint).line 15).state = .tagWait ∧
      ((tagging .tagWait .checkpoint).line 15).trans = some (Transaction.start .checkpoint 0) ∧
      ((tagging .quiet .checkpoint).line 15).state ≠ .tagWait ∧
      (Transaction.start .identify 0).kind ≠ .checkpoint ∧ base.digest.inFlight = none ∧
      (withLine 15 { LineCtl.cold with state := .tagWait }).line 15 = { LineCtl.cold with state := .tagWait } := by
  decide

/-- The engine with an UNLOCK in flight, after that many failed unlocks, for an attempt. -/
def judging (failures : Nat) (keyGood : Bool) (attempt : Option Attempt) : State :=
  { unlocking none none attempt with
    requests := { (unlocking none none attempt).requests with failedUnlocks := failures }
    digest :=
      { Digest.cold with
        inFlight :=
          some
            { requester := 16, kind := .unlock, tenure := 0, abandoned := false, message := [], key := 9
              keyGood := keyGood } } }

/-- An attempt that is withdrawn, granted, and denied: with a key that is not good, as the third and as the fourth
failure. -/
theorem test_witness_unlock_result :
    let a (withdrawn : Bool) : Attempt := ⟨Config.kd 9 [], 0, withdrawn⟩
    (judging 0 true none).requests.attempt = none ∧ (judging 0 true (some (a true))).requests.attempt = some (a true) ∧
      (a true).withdrawn = true ∧ (a false).withdrawn = false ∧ (a false).tag = Config.kd 9 [] ∧
      (∀ p ∈ (judging 0 true (some (a false))).digest.inFlight,
        p.kind = .unlock ∧ p.keyGood = true ∧ p.key = 9 ∧ p.message = []) ∧
      (∀ p ∈ (judging 3 false (some (a false))).digest.inFlight, p.keyGood = false) ∧
      (judging 2 false (some (a false))).requests.failedUnlocks < 3 ∧
      ¬(judging 3 false (some (a false))).requests.failedUnlocks < 3 ∧
      (judging 0 true (some (a false))).requests.access = .operate ∧
      (judging 0 true (some (a false))).powered = true :=
  ⟨rfl, rfl, rfl, rfl, rfl, by intro p h; simp [judging] at h; subst h; simp, by intro p h; simp [judging] at h; subst h; rfl,
    by decide, by decide, rfl, rfl⟩

/-- R163: the results of an unlock, in the order of their names: WITHDRAWN 0, GRANTED 1, DENIED 2. -/
theorem test_results_of_an_unlock :
    UnlockResult.withdrawn.ctorIdx = 0 ∧ UnlockResult.granted.ctorIdx = 1 ∧ UnlockResult.denied.ctorIdx = 2 ∧
      (∀ p a, (judging 0 false (some ⟨0, 7, false⟩)).digest.inFlight = some p →
        (judging 0 false (some ⟨0, 7, false⟩)).requests.attempt = some a → ¬(a.tag = Config.kd p.key p.message ∧ p.keyGood = true)) :=
  ⟨rfl, rfl, rfl, by intro p a h _; simp [judging] at h; subst h; simp⟩

/-- SERVICE from OPERATE: the attempt whose tag is right. -/
theorem test_witness_service_is_entered :
    let s := judging 0 true (some ⟨Config.kd 9 [], 0, false⟩)
    s.requests.access = .operate ∧ ∃ t, exec .digestPassComplete s = .next t ∧ t.requests.access = .service := by
  refine ⟨rfl, _, rfl, ?_⟩
  have good : (decide (Config.kd 9 [] = Config.kd 9 []) && true) = true := by simp
  change (State.digestGrant
    { State.judgeUnlock _ _ (decide (Config.kd 9 [] = Config.kd 9 []) && true) with digest := _ }).requests.access = _
  rw [good]
  rfl

/-- The choice among the waiting requesters: the next one up, and the last one round. -/
theorem test_witness_digest_grant :
    let q : DigestRequest := { kind := .unlock, tenure := 0, message := [], slotKey := none }
    let d (r : Requester) : Digest := { Digest.cold with waiting := Digest.cold.waiting.set r (some q), lastGranted := 3 }
    (∀ r : Requester, Digest.cold.waiting[r] = none) ∧ (d 4).waiting[(d 4).lastGranted + 1 + 0] = some q ∧
      (d 3).waiting[(d 3).lastGranted + 1 + 16] = some q ∧
      ∀ j : Fin 17, j < 16 → (d 3).waiting[(d 3).lastGranted + 1 + j] = none := by
  decide

theorem test_witness_tag_match :
    let s := passing .expect .authenticating (some (Config.kd 9 [])) false false
    (s.slot 15).tag = some (Config.kd 9 []) ∧ (s.slot 15).tenure = 0 ∧ (s.slot 15).state = .authenticating ∧
      (s.slot 15).ink ≠ some 0 ∧ (s.slot 15).derivedKey = some ⟨9, false⟩ ∧ (s.slot 15).serial = some 5 ∧
      (s.slot 15).reported = some ⟨7, 1, false⟩ ∧
      findingsOf ⟨7, 1, false⟩ ((s.slot 15).nominal.getD 0) ((s.history.lookup 5).bind s.entry) = Causes.none ∧
      (s.slot 15).causes = Causes.none :=
  ⟨rfl, rfl, rfl, by decide, rfl, rfl, rfl, by decide, rfl⟩

/-- A tag match with a fill, under a refill policy, for a serial with an entry that holds drawn-since or without one,
on a line. -/
def matching (fill : Fill) (policy : RefillPolicy) (entry : Option HistoryEntry) (line : LineCtl) : State :=
  let s := (passing .expect .authenticating (some (Config.kd 9 [])) false false).putLine 15 line
  let s := (s.putSlot 15 { s.slot 15 with reported := some fill, writtenRemaining := some fill.remaining }).putEntry 63 entry
  { s with settings := { s.settings with policy := { s.settings.policy with refill := policy } } }

/-- A match with the finding LEVEL_RISE under each policy; one with drawn-since saved; one that ends in DEPLETED with
its checkpoint due and with none; an idle line and a busy one. -/
theorem test_witness_tag_match_with_findings :
    let e : HistoryEntry := { someEntry with drawnSince := 1 }
    let s (p : RefillPolicy) := matching ⟨101, 1, false⟩ p (some e) LineCtl.cold
    (s .grace).history.lookup 5 = some 63 ∧ (s .grace).entry 63 = some e ∧ e.confirmed < 101 ∧ 0 < e.drawnSince ∧
      findingsOf ⟨101, 1, false⟩ 1000 (some e) ≠ Causes.none ∧
      (∀ p : RefillPolicy,
        (s p).settings.policy.refill = p ∧ ((s p).slot 15).state = .authenticating ∧ ((s p).slot 15).ink ≠ some 0 ∧
          ((s p).slot 15).reported = some ⟨101, 1, false⟩) ∧
      (matching ⟨0, 1, true⟩ .acceptLow none LineCtl.cold).history.lookup 5 = none ∧
      ((matching ⟨0, 1, true⟩ .acceptLow none LineCtl.cold).slot 15).writtenRemaining = some 0 ∧
      ((matching ⟨0, 1, false⟩ .acceptLow none LineCtl.cold).slot 15).reported = some ⟨0, 1, false⟩ ∧
      ((matching ⟨0, 1, false⟩ .acceptLow none { LineCtl.cold with state := .quiet }).line 15).state ≠ .idle :=
  ⟨by decide, rfl, by decide, by decide, by decide, by intro p; cases p <;> exact ⟨rfl, rfl, by decide, rfl⟩, by decide, rfl, rfl,
    by decide⟩

/-- R82, step 4: the saved drawn-since and the depletion make one checkpoint, on an idle line. -/
theorem test_one_checkpoint_at_a_tag_match :
    let e : HistoryEntry := { someEntry with drawnSince := 100 }
    let s := (matching ⟨100, 1, false⟩ .acceptLow (some e) LineCtl.cold)
    let t := s.tagMatched 15 5 ⟨100, 1, false⟩
    (t.slot 15).state = .depleted ∧ (t.line 15).state = .tagWait ∧ (t.line 15).pendCheckpoint = false ∧
      (t.line 15).trans.map Transaction.values = some ⟨0, 2, true⟩ := by
  decide

/-- R10, R19, R80: a tag match with a finding, and a watch armed for what it leaves: REFILL, SLOT, WATCH. -/
theorem test_a_tag_match_raises_its_notices :
    let m := matching ⟨101, 1, false⟩ .acceptLow (some someEntry) LineCtl.cold
    let w : Watch := { kind := .remainingAtOrBelow, limit := 100, action := .notify, state := .armed }
    let t := (m.putSlot 15 { m.slot 15 with w1 := w }).tagMatched 15 5 ⟨101, 1, false⟩
    (t.slot 15).remaining = some 100 ∧ (t.slot 15).w1.state = .fired ∧
      (t.notices.queue.filter fun n => decide (n.kind ∈ [.refill, .slot, .watch])).map Notice.kind =
        [.refill, .slot, .watch] := by
  decide +kernel

theorem test_witness_power :
    base.powered = true ∧ (writer none [] .running none).nvm.inProgress = none ∧
      (writer (some (.history 63 none)) [] .running none).nvm.inProgress = some (.history 63 none, .normal) ∧
      (0 : EntryNo) ≠ 63 ∧ State.manufactured.powered = false ∧ ∀ p ∈ inputs, (State.manufactured.filter p).raw = false := by
  decide

/-- R183, R185: a write of the settings, the waste, the clean mark and the identity record that power cuts short, and what
it leaves of a record with old contents and of one without (log 9). -/
theorem test_witness_torn_writes :
    let image : Image := { settings := Settings.reset, watches := Image.watchesReset }
    let cut (w : RecordWrite) (torn : Torn) : State := run (.powerLoss torn) (writer (some w) [] .running none)
    let store := base.nvm.store
    (∀ w ∈ [RecordWrite.settings image, .waste ⟨7, 9⟩, .cleanMark true, .identity base.nvm.identity],
        (writer (some w) [] .running none).nvm.inProgress = some (w, .normal)) ∧
      (cut (.waste ⟨7, 9⟩) .goodOld).nvm.store = { store with waste := ⟨some ⟨7, 9⟩, .good⟩ } ∧
      (cut (.cleanMark true) .correctedNew).nvm.store = { store with cleanMark := ⟨some true, .corrected⟩ } ∧
      (cut (.identity { base.nvm.identity with revision := 3 }) .goodOld).nvm.store.identity = store.identity ∧
      (cut (.identity { base.nvm.identity with revision := 3 }) .correctedNew).nvm.store.identity =
        ⟨some { base.nvm.identity with revision := 3 }, .corrected⟩ ∧
      (cut (.settings image) .uncorrectable).nvm.store.settings.result = .uncorrectable := by
  decide +kernel

/-- A part without power whose waste record reads CORRECTED and whose entries 0 and 63 name one serial. -/
theorem test_witness_power_on :
    let m := State.manufactured
    let store :=
      { m.nvm.store with
        waste := Stored.write ⟨7, 9⟩
        history := (m.nvm.store.history.set 0 (Stored.write (some someEntry))).set 63
          (Stored.write (some { someEntry with stamp := 2 })) }
    let s := { m with nvm := { m.nvm with store := store } }
    let t := run (.powerOn [(.waste, .one)]) s
    s.powered = false ∧ s.nvm.inProgress = none ∧
      (store.err (.waste, .one)).waste = { contents := some ⟨7, 9⟩, condition := .corrected } ∧
      (s.nvm.store.history[63].loaded).getD none = some { someEntry with stamp := 2 } ∧
      t.entry 0 = none ∧ t.entry 63 = some { someEntry with stamp := 2 } ∧ t.waste = ⟨7, 9⟩ ∧
      t.nvm.queue.map RecordWrite.record = [.waste, .history 0] := by
  decide +kernel

/-- R173, R192: start-up with PRESENCE15 and POWER_FAIL asserted: under the default delays both filters run; under a
stored delay of 0 PRESENCE15 has settled, and its probe begins. -/
theorem test_witness_power_on_with_asserted_pins :
    let m := State.manufactured
    let pins := (m.putFilter (.presence 15) (Filter.cold true)).putFilter .powerFail (Filter.cold true)
    let image : Image :=
      { settings := { Settings.reset with pins := { Settings.reset.pins with presenceAssert := 0 } }
        watches := Image.watchesReset }
    let stored : State :=
      { pins with nvm := { pins.nvm with store := { pins.nvm.store with settings := Stored.write image } } }
    let t := run (.powerOn []) pins
    let u := run (.powerOn []) stored
    (∀ p ∈ inputs ++ [.powerFail], (pins.filter p).raw = true → p = .powerFail ∨ 0 < (Settings.reset.pins.groupDelays p).1) ∧
      pins.powered = false ∧ (pins.filter (.presence 15)).raw = true ∧
      t.filter (.presence 15) = ⟨true, false, some ⟨0, 200⟩, false⟩ ∧ (t.slot 15).state = .empty ∧
      t.filter .powerFail = ⟨true, false, some ⟨0, 0⟩, false⟩ ∧
      u.filter (.presence 15) = ⟨true, true, none, true⟩ ∧ (u.slot 15).state = .probing ∧
      (u.line 15).state = .break := by
  decide +kernel

/-- A part without power with a locked entry in every place. -/
def lockedStore : State :=
  let m := State.manufactured
  let entries : Vector (Stored (Option HistoryEntry)) 64 :=
    Vector.ofFn fun n : Fin 64 =>
      Stored.write (some { someEntry with serial := BitVec.ofNat 64 n.val, depletedMark := true, stamp := n.val + 1 })
  { m with nvm := { m.nvm with store := { m.nvm.store with history := entries } } }

/-- R119, R192: more than 56 locked entries are stored, and 56 are loaded. -/
theorem test_witness_locked_entries :
    lockedStore.powered = false ∧
      56 < ((List.finRange 64).filter fun n => ((lockedStore.nvm.store.history[n].loaded).getD none).any HistoryEntry.locked).length ∧
      (run (.powerOn []) lockedStore).entry 7 = none ∧ ((run (.powerOn []) lockedStore).entry 8).isSome = true := by
  decide +kernel

end Sys2Proof.Tests
end

/-!
PROOFS. The Route Unit's judging (03_supply_routing_and_channel_gating.md): what its updates and switches leave in the
channel's record, the conditions they do not touch, and the statements of R56 and R57.
-/

namespace Sys2Proof.Machine

/-! ### The records of the other channels -/

theorem otherRoutes.refl (c : Channel) (s : State) : otherRoutes c s s := fun _ _ => rfl

@[simp] theorem otherRoutes_putRoute (c : Channel) (s t : State) (x : Route) :
    otherRoutes c s (t.putRoute c x) ↔ otherRoutes c s t :=
  forall₂_congr fun _ h => by rw [State.putRoute_other t x h]

@[simp] theorem otherRoutes_raise (c : Channel) (s t : State) (k : NoticeKind) (u : Subject) (d : Details) :
    otherRoutes c s (t.raise k u d) ↔ otherRoutes c s t := Iff.rfl

@[simp] theorem otherRoutes_ite {c : Channel} {s a b : State} {p : Prop} [Decidable p] :
    otherRoutes c s (if p then a else b) ↔ if p then otherRoutes c s a else otherRoutes c s b := by
  split <;> rfl

@[simp] theorem otherRoutes_setGate (c : Channel) (s t : State) (g : Gate) :
    otherRoutes c s (t.setGate c g) ↔ otherRoutes c s t := by
  simp [State.setGate]

@[simp] theorem otherRoutes_raiseRoute (c : Channel) (s t : State) (b : Bool) :
    otherRoutes c s (t.raiseRoute c b) ↔ otherRoutes c s t := Iff.rfl

/-- The valve and the trace entry of a switch stand in no route record. -/
@[simp] theorem otherRoutes_driveValve_addTrace (c : Channel) (s t : State) (e : TraceEntry) :
    otherRoutes c s ((t.driveValve c).addTrace e) ↔ otherRoutes c s t := Iff.rfl

@[simp] theorem otherRoutes_switchTo (c : Channel) (s t : State) (k : SwitchCause) :
    otherRoutes c s (t.switchTo c k) ↔ otherRoutes c s t := by
  simp [State.switchTo]

@[simp] theorem otherRoutes_judgeOnDefault (c : Channel) (s t : State) :
    otherRoutes c s (t.judgeOnDefault c) ↔ otherRoutes c s t := by
  simp [State.judgeOnDefault, State.enterPendingAlt, State.expirePendingAlt]

@[simp] theorem otherRoutes_cancelPending (c : Channel) (s t : State) (back : RouteState) :
    otherRoutes c s (t.cancelPending c back) ↔ otherRoutes c s t := by
  simp [State.cancelPending]

@[simp] theorem otherRoutes_judgePendingAlt (c : Channel) (s t : State) :
    otherRoutes c s (t.judgePendingAlt c) ↔ otherRoutes c s t := by
  simp [State.judgePendingAlt]

@[simp] theorem otherRoutes_enterPendingDefault (c : Channel) (s t : State) :
    otherRoutes c s (t.enterPendingDefault c) ↔ otherRoutes c s t := by
  simp [State.enterPendingDefault, State.expirePendingDefault]

@[simp] theorem otherRoutes_judgeRevert (c : Channel) (s t : State) :
    otherRoutes c s (t.judgeRevert c) ↔ otherRoutes c s t := by
  simp [State.judgeRevert, State.expireRevert]

/-- A judging changes the record of its own channel only, whatever its route state (R53). -/
@[simp] theorem otherRoutes_judgeRoute (c : Channel) (s t : State) :
    otherRoutes c s (t.judgeRoute c) ↔ otherRoutes c s t := by
  rw [State.judgeRoute]
  cases (t.route c).state with
  | unrouted => rfl
  | onDefault => exact otherRoutes_judgeOnDefault c s t
  | pendingAlt => exact otherRoutes_judgePendingAlt c s t
  | onAlternate => simp [State.judgeOnAlternate]
  | pendingDefault => simp [State.judgePendingDefault]

/-! ### The conditions of a channel -/

/-- The two states agree on all that the conditions of a channel are computed from (R52, R53, R63). -/
def sameConditions (s t : State) : Prop :=
  t.settings = s.settings ∧ t.slots = s.slots ∧ ∀ p : Pin, t.filter p = s.filter p

theorem sameConditions.trans {s t u : State} (h : sameConditions s t) (k : sameConditions t u) :
    sameConditions s u :=
  ⟨k.1.trans h.1, k.2.1.trans h.2.1, fun p => (k.2.2 p).trans (h.2.2 p)⟩

section
variable {s t : State} (h : sameConditions s t) (c : Channel)
include h

theorem sameConditions.routeCfg : t.routeCfg c = s.routeCfg c := by
  rw [State.routeCfg, h.1, State.routeCfg]

theorem sameConditions.fit (i : SlotNo) : t.fit i c = s.fit i c := by
  simp only [State.fit, State.slot, h.2.1, h.routeCfg c]

theorem sameConditions.drawable (i : SlotNo) : t.drawable i c = s.drawable i c := by
  simp only [State.drawable, State.slot, State.policy, h.1, h.2.1, h.routeCfg c]

theorem sameConditions.defaultFit : t.defaultFit c = s.defaultFit c := by
  simp only [State.defaultFit, h.routeCfg c, h.fit c]

theorem sameConditions.alternateFit : t.alternateFit c = s.alternateFit c := by
  simp only [State.alternateFit, h.routeCfg c, h.fit c]

theorem sameConditions.leaveDefault : t.leaveDefault c = s.leaveDefault c := by
  simp only [State.leaveDefault, State.reportedLow, h.1, h.2.2, h.routeCfg c, h.defaultFit c]

end

theorem State.putRoute_sameConditions (s : State) (c : Channel) (x : Route) : sameConditions s (s.putRoute c x) :=
  ⟨rfl, rfl, fun p => by cases p <;> rfl⟩

theorem State.raise_sameConditions (s : State) (k : NoticeKind) (u : Subject) (d : Details) :
    sameConditions s (s.raise k u d) :=
  ⟨rfl, rfl, fun p => by cases p <;> rfl⟩

theorem State.putRoute_raiseRoute_sameConditions (s : State) (c : Channel) (x : Route) (b : Bool) :
    sameConditions s ((s.putRoute c x).raiseRoute c b) :=
  (State.putRoute_sameConditions s c x).trans (State.raise_sameConditions _ _ _ _)

/-! ### Supply -/

/-- R63, for the slot that feeds the channel. -/
theorem State.noSupply_eq (s : State) (c : Channel) :
    s.noSupply c = (s.route c).active.all fun i => !s.drawable i c := by
  unfold State.noSupply
  cases (s.route c).active <;> rfl

/-- R11: a fit slot is drawable. -/
theorem State.drawable_of_fit {s : State} {i : SlotNo} {c : Channel} (h : s.fit i c = true) :
    s.drawable i c = true := by
  have h' : (s.slot i).fitFor (s.routeCfg c).ink = true := h
  simp [State.drawable, Slot.drawableFor, h']

/-- A slot that is none is not fit (R53). -/
theorem State.alternateFit_eq (s : State) (c : Channel) :
    s.alternateFit c = (s.routeCfg c).alternate.any fun i => s.fit i c := by
  unfold State.alternateFit
  cases (s.routeCfg c).alternate <;> rfl

theorem State.defaultFit_eq (s : State) (c : Channel) :
    s.defaultFit c = (s.routeCfg c).defaultSlot.any fun i => s.fit i c := by
  unfold State.defaultFit
  cases (s.routeCfg c).defaultSlot <;> rfl

/-- A fit slot leaves the channel it feeds no NO_SUPPLY (R63). -/
theorem State.supplied_of_fit {s : State} {c : Channel} {slot : Option SlotNo}
    (h : (slot.any fun i => s.fit i c) = true) : (slot.all fun i => !s.drawable i c) = false := by
  cases slot with
  | none => simp at h
  | some i =>
    have fit : s.fit i c = true := by simpa using h
    simp [State.drawable_of_fit fit]

/-! ### What a switch leaves -/

/-- R64: the new gate reasons, and at most a GATE notice. -/
theorem State.setGate_cases (s : State) (c : Channel) (g : Gate) :
    s.setGate c g = s.putRoute c { s.route c with gate := g } ∨
      ∃ d, s.setGate c g = (s.putRoute c { s.route c with gate := g }).raise .gate (.channel c) d := by
  by_cases h : g.primary = (s.route c).gate.primary
  · exact .inl (if_pos h)
  · exact .inr ⟨_, if_neg h⟩

theorem State.setGate_sameConditions (s : State) (c : Channel) (g : Gate) : sameConditions s (s.setGate c g) := by
  rcases s.setGate_cases c g with e | ⟨d, e⟩ <;> rw [e]
  · exact State.putRoute_sameConditions s c _
  · exact (State.putRoute_sameConditions s c _).trans (State.raise_sameConditions _ _ _ _)

theorem State.setGate_route (s : State) (c : Channel) (g : Gate) :
    (s.setGate c g).route c = { s.route c with gate := g } := by
  rcases s.setGate_cases c g with e | ⟨d, e⟩ <;> rw [e]
  · exact State.putRoute_same s c _
  · exact State.putRoute_same s c _

theorem State.setGate_trace_pins (s : State) (c : Channel) (g : Gate) :
    (s.setGate c g).trace = s.trace ∧ (s.setGate c g).pins = s.pins := by
  rcases s.setGate_cases c g with e | ⟨d, e⟩ <;> rw [e] <;> exact ⟨rfl, rfl⟩

/-- R60: a switch before its gate reasons are judged: the slot, the valve, the trace entry and the ROUTE notice. -/
def State.moveTo (s : State) (c : Channel) (k : SwitchCause) : State :=
  let r := s.route c
  let target := (s.routeCfg c).target k
  let x := r.switched (s.routeCfg c) k
  (((s.putRoute c x).driveValve c).addTrace ⟨c, r.active, target, k, r.lastLine, s.time⟩).raise .route (.channel c)
    (.switch r.active target k x.state)

theorem State.switchTo_eq_moveTo (s : State) (c : Channel) (k : SwitchCause) :
    s.switchTo c k =
      (s.moveTo c k).setGate c
        { (s.route c).gate with
          settle := decide (0 < (s.routeCfg c).settleLines)
          noSupply := (s.moveTo c k).noSupply c } := rfl

theorem State.moveTo_route (s : State) (c : Channel) (k : SwitchCause) :
    (s.moveTo c k).route c = (s.route c).switched (s.routeCfg c) k :=
  State.putRoute_same s c _

theorem State.moveTo_sameConditions (s : State) (c : Channel) (k : SwitchCause) :
    sameConditions s (s.moveTo c k) :=
  ⟨rfl, rfl, fun p => by cases p <;> rfl⟩

/-- A switch moves the channel, and no condition depends on where the channel stands (R52, R53). -/
theorem State.switchTo_sameConditions (s : State) (c : Channel) (k : SwitchCause) :
    sameConditions s (s.switchTo c k) :=
  (s.moveTo_sameConditions c k).trans (State.setGate_sameConditions _ c _)

/-- R60, R63: the channel's record after a switch: settle follows the settle count, NO_SUPPLY the new slot. -/
theorem State.switchTo_route (s : State) (c : Channel) (k : SwitchCause) :
    (s.switchTo c k).route c =
      { (s.route c).switched (s.routeCfg c) k with
        gate :=
          { (s.route c).gate with
            settle := decide (0 < (s.routeCfg c).settleLines)
            noSupply := ((s.routeCfg c).target k).all fun i => !s.drawable i c } } := by
  rw [State.switchTo_eq_moveTo, State.setGate_route, State.noSupply_eq, State.moveTo_route]
  simp only [(s.moveTo_sameConditions c k).drawable c, Route.switched]

/-- R60, R72: a switch writes one trace entry. -/
theorem State.switchTo_trace (s : State) (c : Channel) (k : SwitchCause) :
    (s.switchTo c k).trace =
      traceAdds s.trace
        ⟨c, (s.route c).active, (s.routeCfg c).target k, k, (s.route c).lastLine, s.time⟩ :=
  (State.setGate_trace_pins _ c _).1

/-- R62: a switch to the alternate drives the valve against its invert setting, one to the default along it. -/
theorem State.switchTo_pins (s : State) (c : Channel) (k : SwitchCause) :
    (s.switchTo c k).pins =
      { s.pins with
        valves := s.pins.valves.set c
          (if k = .condition then !(s.routeCfg c).valveInvert else (s.routeCfg c).valveInvert) } := by
  have level (x : Route) : ((s.putRoute c x).driveValve c).pins =
      { s.pins with valves := s.pins.valves.set c ((s.putRoute c x).valveLevel c) } := rfl
  have driven : (s.switchTo c k).pins = ((s.putRoute c ((s.route c).switched (s.routeCfg c) k)).driveValve c).pins :=
    (State.setGate_trace_pins _ c _).2
  rw [driven, level, State.valveLevel, State.putRoute_same]
  cases k <;> rfl

/-- R60, R63: the channel's record after a switch to a fit slot, which supplies the channel. -/
theorem State.switchTo_route_of_fit {s : State} {c : Channel} {k : SwitchCause}
    (fit : (((s.routeCfg c).target k).any fun i => s.fit i c) = true) :
    (s.switchTo c k).route c =
      { (s.route c).switched (s.routeCfg c) k with
        gate :=
          { (s.route c).gate with settle := decide (0 < (s.routeCfg c).settleLines), noSupply := false } } := by
  rw [State.switchTo_route, State.supplied_of_fit fit]

/-! ### Judging in each route state -/

theorem State.judgeRoute_onDefault {s : State} {c : Channel} (h : (s.route c).state = .onDefault) :
    s.judgeRoute c = s.judgeOnDefault c := by
  rw [State.judgeRoute, h]

theorem State.judgeRoute_pendingAlt {s : State} {c : Channel} (h : (s.route c).state = .pendingAlt) :
    s.judgeRoute c = s.judgePendingAlt c := by
  rw [State.judgeRoute, h]

/-- R57: forced return decides, whatever D is. -/
theorem State.judgeRoute_forcedReturn {s : State} {c : Channel} (h : (s.route c).state = .onAlternate)
    (unfit : s.alternateFit c = false) (fit : s.defaultFit c = true) :
    s.judgeRoute c = s.enterPendingDefault c := by
  have forced : s.forcedReturn c = true := by simp [State.forcedReturn, unfit, fit]
  rw [State.judgeRoute, h]
  exact if_pos forced

/-- R54: nothing takes the channel away from its default. -/
theorem State.judgeOnDefault_stays {s : State} {c : Channel}
    (h : s.leaveDefault c = false ∨ (s.routeCfg c).alternate = none) : s.judgeOnDefault c = s := by
  rcases h with h | h <;> simp [State.judgeOnDefault, h]

/-- R54: D true and an alternate configured take the channel to PENDING_ALT. -/
theorem State.judgeOnDefault_leaves {s : State} {c : Channel} (d : s.leaveDefault c = true)
    (alternate : (s.routeCfg c).alternate ≠ none) : s.judgeOnDefault c = s.enterPendingAlt c := by
  simp [State.judgeOnDefault, d, Option.isSome_iff_ne_none, alternate]

theorem State.raiseRoute_route (s : State) (c : Channel) (b : Bool) (d : Channel) :
    (s.raiseRoute c b).route d = s.route d := rfl

/-- R61: a new route state other than by a switch, with its ROUTE notice. -/
theorem State.putRoute_raiseRoute_notices (s : State) (c : Channel) (x : Route) (b : Bool) :
    ((s.putRoute c x).raiseRoute c b).notices = s.routeRaised s.notices c (.route x.state b) := by
  rw [State.raiseRoute, State.putRoute_same]
  rfl

/-- R54, R55: with a switch delay of 0 and an alternate that is not fit, the channel waits in PENDING_ALT at once. -/
theorem State.enterPendingAlt_waits {s : State} {c : Channel} (delay : (s.routeCfg c).switchDelay = 0)
    (unfit : s.alternateFit c = false) :
    (s.enterPendingAlt c).route c = { s.route c with state := .pendingAlt, switchTimer := .waiting } ∧
      keepsBut [.routes, .notices] s (s.enterPendingAlt c) := by
  let x : Route :=
    { s.route c with state := .pendingAlt, switchTimer := .running (s.after (s.routeCfg c).switchDelay) }
  let t := (s.putRoute c x).raiseRoute c false
  have still_unfit : t.alternateFit c = false :=
    ((s.putRoute_raiseRoute_sameConditions c x false).alternateFit c).trans unfit
  have expires_at_once : s.enterPendingAlt c = t.expirePendingAlt c := if_pos delay
  have waits : t.expirePendingAlt c = (t.putRoute c { t.route c with switchTimer := .waiting }).raiseRoute c true :=
    if_neg (by simp [still_unfit])
  rw [expires_at_once, waits]
  refine ⟨?_, by simp [t]⟩
  simp only [t, State.raiseRoute_route, State.putRoute_same, x]

/-- R54, on arrival with a switch delay of 0 and an alternate that is not fit: the channel waits in PENDING_ALT where D
is true and an alternate is configured, and else stays. -/
theorem State.judgeOnDefault_of_unfit {s : State} {c : Channel} (delay : (s.routeCfg c).switchDelay = 0)
    (unfit : s.alternateFit c = false) :
    let leaves := s.leaveDefault c = true ∧ (s.routeCfg c).alternate ≠ none
    (s.judgeOnDefault c).route c =
        { s.route c with
          state := if leaves then .pendingAlt else (s.route c).state
          switchTimer := if leaves then .waiting else (s.route c).switchTimer } ∧
      keepsBut [.routes, .notices] s (s.judgeOnDefault c) := by
  intro leaves
  by_cases h : leaves
  · simp only [State.judgeOnDefault_leaves h.1 h.2, h, if_true]
    exact State.enterPendingAlt_waits delay unfit
  · have stays : s.leaveDefault c = false ∨ (s.routeCfg c).alternate = none := by
      simpa [leaves, -not_and, not_and_or] using h
    simp [State.judgeOnDefault_stays stays, h]

/-! ### The waiting switch (R56) -/

/-- Settles O49: D decides first, then the alternate's fitness. -/
theorem waitingSwitchFollowsTheAlternate : Obligations.WaitingSwitchFollowsTheAlternate := by
  refine ⟨fun s c pending waiting => ⟨?_, fun d => ?_, fun d fit => ?_, fun d unfit => ?_⟩, fun s c on d => ?_⟩
  · exact (otherRoutes_judgeRoute c s s).2 (otherRoutes.refl c s)
  · have cancelled : s.judgeRoute c = s.cancelPending c .onDefault := by
      rw [State.judgeRoute_pendingAlt pending]
      simp [State.judgePendingAlt, d]
    rw [cancelled]
    exact ⟨by simp [State.cancelPending], State.putRoute_same s c _, State.putRoute_raiseRoute_notices s c _ false⟩
  · have taken : s.judgeRoute c = s.switchTo c .condition := by
      rw [State.judgeRoute_pendingAlt pending]
      simp [State.judgePendingAlt, d, waiting, fit]
    rw [taken]
    rw [State.alternateFit_eq] at fit
    exact ⟨by simp, State.switchTo_route_of_fit fit, s.switchTo_trace c .condition, s.switchTo_pins c .condition⟩
  · rw [State.judgeRoute_pendingAlt pending]
    simp [State.judgePendingAlt, d, unfit]
  · rw [State.judgeRoute_onDefault on]
    exact State.judgeOnDefault_stays (.inl d)

/-! ### Forced return (R57) -/

/-- R57: the entry into PENDING_DEFAULT, with its ROUTE notice. -/
def State.startReturn (s : State) (c : Channel) : State :=
  (s.putRoute c
    { s.route c with
      state := .pendingDefault, switchTimer := .running (s.after (s.routeCfg c).switchDelay)
      revertTimer := none }).raiseRoute c false

theorem State.enterPendingDefault_eq (s : State) (c : Channel) :
    s.enterPendingDefault c =
      if (s.routeCfg c).switchDelay = 0 then ((s.startReturn c).switchTo c .forcedReturn).judgeOnDefault c
      else s.startReturn c := rfl

theorem State.startReturn_route (s : State) (c : Channel) :
    (s.startReturn c).route c =
      { s.route c with
        state := .pendingDefault, switchTimer := .running (s.after (s.routeCfg c).switchDelay)
        revertTimer := none } :=
  State.putRoute_same s c _

theorem State.startReturn_sameConditions (s : State) (c : Channel) : sameConditions s (s.startReturn c) :=
  s.putRoute_raiseRoute_sameConditions c _ false

theorem State.startReturn_keeps (s : State) (c : Channel) : keepsBut [.routes, .notices] s (s.startReturn c) := by
  simp [State.startReturn]

/-- R57, R58: the channel's record when a forced return with a switch delay of 0 arrives at the default. -/
theorem State.startReturn_switchTo_route {s : State} {c : Channel} (fit : s.defaultFit c = true) :
    ((s.startReturn c).switchTo c .forcedReturn).route c =
      { s.route c with
        state := .onDefault, active := (s.routeCfg c).defaultSlot, switchTimer := .idle, revertTimer := none
        settleCount := (s.routeCfg c).settleLines
        gate :=
          { (s.route c).gate with settle := decide (0 < (s.routeCfg c).settleLines), noSupply := false } } := by
  have same := s.startReturn_sameConditions c
  have still_fit : (s.startReturn c).defaultFit c = true := (same.defaultFit c).trans fit
  rw [State.defaultFit_eq] at still_fit
  rw [State.switchTo_route_of_fit still_fit, same.routeCfg, State.startReturn_route]
  rfl

/-- R57, R54: a forced return with a switch delay of 0: the switch to the fit default, and D judged on arrival, where
the alternate that is not fit makes the channel wait. -/
theorem State.enterPendingDefault_at_once {s : State} {c : Channel} (delay : (s.routeCfg c).switchDelay = 0)
    (unfit : s.alternateFit c = false) (fit : s.defaultFit c = true) :
    let r := s.route c
    let cfg := s.routeCfg c
    let t := s.enterPendingDefault c
    let leaves := s.leaveDefault c = true ∧ cfg.alternate ≠ none
    t.route c =
        { r with
          state := if leaves then .pendingAlt else .onDefault
          active := cfg.defaultSlot
          switchTimer := if leaves then .waiting else .idle
          revertTimer := none, settleCount := cfg.settleLines
          gate := { r.gate with settle := decide (0 < cfg.settleLines), noSupply := false } } ∧
      t.trace = traceAdds s.trace ⟨c, r.active, cfg.defaultSlot, .forcedReturn, r.lastLine, s.time⟩ ∧
      t.pins = { s.pins with valves := s.pins.valves.set c cfg.valveInvert } := by
  intro r cfg t leaves
  let u := (s.startReturn c).switchTo c .forcedReturn
  have arrived : t = u.judgeOnDefault c := (s.enterPendingDefault_eq c).trans (if_pos delay)
  have same : sameConditions s u := (s.startReturn_sameConditions c).trans (State.switchTo_sameConditions _ c _)
  have delay_u : (u.routeCfg c).switchDelay = 0 := by rw [same.routeCfg, delay]
  have unfit_u : u.alternateFit c = false := (same.alternateFit c).trans unfit
  obtain ⟨route, keeps⟩ := State.judgeOnDefault_of_unfit delay_u unfit_u
  rw [same.routeCfg, same.leaveDefault, State.startReturn_switchTo_route fit, ← arrived] at route
  rw [← arrived] at keeps
  refine ⟨route, ?_, ?_⟩
  · calc
      t.trace = u.trace := keeps.2.2 .trace (by decide)
      _ = _ := State.switchTo_trace _ c .forcedReturn
      _ = _ := by rw [State.startReturn_route]; rfl
  · calc
      t.pins = u.pins := keeps.2.2 .pins (by decide)
      _ = _ := State.switchTo_pins _ c .forcedReturn

/-- Settles O50: the entry into PENDING_DEFAULT, and with a delay of 0 the switch and the judging on arrival. -/
theorem forcedReturnLeavesTheAlternate : Obligations.ForcedReturnLeavesTheAlternate := by
  intro s c on unfit fit r cfg t
  have forced : t = s.enterPendingDefault c := State.judgeRoute_forcedReturn on unfit fit
  refine ⟨(otherRoutes_judgeRoute c s s).2 (otherRoutes.refl c s), fun delay => ?_, fun delay => ?_⟩
  · have pending : t = s.startReturn c := by
      rw [forced, State.enterPendingDefault_eq, if_neg (Nat.ne_of_gt delay)]
    rw [pending]
    exact ⟨s.startReturn_keeps c, s.startReturn_route c, State.putRoute_raiseRoute_notices s c _ false⟩
  · obtain ⟨route, trace, pins⟩ := State.enterPendingDefault_at_once delay unfit fit
    rw [forced, route, trace, pins]
    refine ⟨by simp, rfl, rfl, rfl, rfl, rfl, rfl, fun stays => ?_, fun d alternate => ?_⟩
    · have stays : ¬(s.leaveDefault c = true ∧ (s.routeCfg c).alternate ≠ none) := by
        rintro ⟨d, alternate⟩
        rcases stays with never | missing
        · simp [d] at never
        · exact alternate missing
      exact ⟨if_neg stays, if_neg stays⟩
    · exact ⟨if_pos ⟨d, alternate⟩, if_pos ⟨d, alternate⟩⟩

end Sys2Proof.Machine

/-!
PROOFS. The invariants of the part, kept by every step (R2, R28, R39, R50, R51, R72, R154, R166, R176, R185). One relation
says that a change of the state keeps them all; each operation of the model is shown once to be such a change.
-/

namespace Sys2Proof.Machine

/-! ### The invariants of one record -/

/-- R50, R51: the route record of one channel follows its configured fields. -/
def Route.follows (r : Route) (cfg : RouteCfg) : Prop :=
  (r.active = none ∨ r.active = cfg.defaultSlot ∨ r.active = cfg.alternate) ∧
    (r.state = .unrouted ↔ cfg.ink = 0 ∨ cfg.defaultSlot = none) ∧
    (r.state = .unrouted →
      r.active = none ∧ r.switchTimer = .idle ∧ r.revertTimer = none ∧ r.gate.noRoute = true ∧
        r.gate.noSupply = true)

theorem routesConsistent_iff (s : State) : RoutesConsistent s ↔ ∀ c, (s.route c).follows (s.routeCfg c) := Iff.rfl

/-- R28, R39: the accumulators of one channel stay within their ranges. -/
def Meter.inRange (m : Meter) : Prop := m.fine < 100000000 ∧ m.remainder < 1024 ∧ m.run ≤ 16

theorem metersInRange_iff (s : State) : MetersInRange s ↔ ∀ c, (s.meter c).inRange := Iff.rfl

/-- R2, R176: one slot follows the filter of its PRESENCE input. -/
def Slot.seated (x : Slot) (f : Filter) : Prop := x.present = f.filtered ∧ (x.state = .empty ↔ x.present = false)

theorem presenceFollows_iff (s : State) :
    PresenceFollows s ↔ ∀ i, (s.slot i).seated (s.filter (.presence i)) := Iff.rfl

/-- R185: the writer queue holds one write per record, and none waits while the writer is free. -/
def Nvm.orderly (m : Nvm) : Prop :=
  (m.queue.map RecordWrite.record).Nodup ∧ (m.queue ≠ [] → m.inProgress.isSome = true)

theorem writerOrderly_iff (s : State) : WriterOrderly s ↔ s.nvm.orderly := Iff.rfl

/-- R166: no two entries have the same kind and subject. -/
def distinctNotices (ns : List Notice) : Prop := (ns.map fun n => (n.kind, n.subject)).Nodup

theorem noticesDistinct_iff (s : State) : NoticesDistinct s ↔ distinctNotices s.notices.queue := Iff.rfl

/-! ### Changes that keep the invariants -/

/-- From s to t the queue of commands stays, and each invariant that holds of s holds of t. -/
structure InvariantsKept (s t : State) : Prop where
  pending : t.pending = s.pending
  queue : s.notices.queue.length ≤ 32 → t.notices.queue.length ≤ 32
  distinct : NoticesDistinct s → NoticesDistinct t
  trace : s.trace.length ≤ 10 → t.trace.length ≤ 10
  places : s.requests.placesInUse ≤ 16 → t.requests.placesInUse ≤ 16
  meters : MetersInRange s → MetersInRange t
  routes : RoutesConsistent s → RoutesConsistent t
  presence : PresenceFollows s → PresenceFollows t
  writer : WriterOrderly s → WriterOrderly t

/-- The parts that no invariant reads. -/
def quietBlocks : List Block :=
  [.time, .draws, .lines, .sense, .heads, .waste, .digest, .history, .link, .forward, .returns]

namespace InvariantsKept

theorem refl (s : State) : InvariantsKept s s := ⟨rfl, id, id, id, id, id, id, id, id⟩

theorem trans {s t u : State} (h : InvariantsKept s t) (k : InvariantsKept t u) : InvariantsKept s u :=
  ⟨k.pending.trans h.pending, k.queue ∘ h.queue, k.distinct ∘ h.distinct, k.trace ∘ h.trace, k.places ∘ h.places,
    k.meters ∘ h.meters, k.routes ∘ h.routes, k.presence ∘ h.presence, k.writer ∘ h.writer⟩

variable {s t u : State}

theorem ite {p : Prop} [Decidable p] (h : p → InvariantsKept s t) (k : ¬p → InvariantsKept s u) :
    InvariantsKept s (if p then t else u) := by
  split
  · exact h ‹_›
  · exact k ‹_›

theorem foldl {α : Type} {f : State → α → State} (hf : ∀ t a, InvariantsKept t (f t a)) (l : List α)
    (h : InvariantsKept s t) : InvariantsKept s (l.foldl f t) := by
  induction l generalizing t with
  | nil => exact h
  | cons a l ih => exact ih (h.trans (hf t a))

/-! ### One part replaced -/

/-- A change of parts that no invariant reads. -/
theorem quiet (h : InvariantsKept s t) (k : keepsBut quietBlocks t u) : InvariantsKept s u := by
  refine h.trans ?_
  rw [keepsBut_iff] at k
  simp only [quietBlocks, List.mem_cons, List.not_mem_nil, reduceCtorEq, or_false, false_or, or_self, true_or,
    or_true, true_and] at k
  obtain ⟨pending, -, settings, slots, meters, routes, trace, requests, notices, pins, nvm⟩ := k
  refine ⟨pending, ?_, ?_, ?_, ?_, ?_, ?_, ?_, ?_⟩
  · rw [notices]; exact id
  · rw [noticesDistinct_iff, noticesDistinct_iff, notices]; exact id
  · rw [trace]; exact id
  · rw [requests]; exact id
  · unfold MetersInRange State.meter; rw [meters]; exact id
  · unfold RoutesConsistent State.route State.routeCfg; rw [routes, settings]; exact id
  · unfold PresenceFollows State.slot State.filter; rw [slots, pins]; exact id
  · unfold WriterOrderly; rw [nvm]; exact id

theorem notices (h : InvariantsKept s t) (x : NoticeUnit) (queue : t.notices.queue.length ≤ 32 → x.queue.length ≤ 32)
    (distinct : distinctNotices t.notices.queue → distinctNotices x.queue) :
    InvariantsKept s { t with notices := x } :=
  h.trans { refl t with queue := queue, distinct := distinct }

theorem replaceTrace (h : InvariantsKept s t) (x : List TraceEntry) (hx : t.trace.length ≤ 10 → x.length ≤ 10) :
    InvariantsKept s { t with trace := x } :=
  h.trans { refl t with trace := hx }

theorem replaceRequests (h : InvariantsKept s t) (x : RequestUnit)
    (hx : t.requests.placesInUse ≤ 16 → x.placesInUse ≤ 16) : InvariantsKept s { t with requests := x } :=
  h.trans { refl t with places := hx }

theorem settings (h : InvariantsKept s t) (x : Settings) (hx : x.routes = t.settings.routes) :
    InvariantsKept s { t with settings := x } := by
  refine h.trans { refl t with routes := fun k c => ?_ }
  have : ({ t with settings := x } : State).routeCfg c = t.routeCfg c := by simp only [State.routeCfg, hx]
  rw [this]
  exact k c

theorem putMeter (h : InvariantsKept s t) (c : Channel) (x : Meter) (hx : (t.meter c).inRange → x.inRange) :
    InvariantsKept s (t.putMeter c x) := by
  refine h.trans { refl t with meters := fun k d => ?_ }
  by_cases e : d = c
  · subst e; rw [State.putMeter_same]; exact hx (k d)
  · rw [State.putMeter_other t x e]; exact k d

theorem putRoute (h : InvariantsKept s t) (c : Channel) (x : Route)
    (hx : (t.route c).follows (t.routeCfg c) → x.follows (t.routeCfg c)) : InvariantsKept s (t.putRoute c x) := by
  refine h.trans { refl t with routes := fun k d => ?_ }
  by_cases e : d = c
  · subst e; rw [State.putRoute_same]; exact hx (k d)
  · rw [State.putRoute_other t x e]; exact k d

/-- Slots replaced: none is seated or vacated. -/
theorem replaceSlots (h : InvariantsKept s t) (x : Vector Slot 16)
    (hx : ∀ i : SlotNo, x[i].present = (t.slot i).present ∧ (x[i].state = .empty ↔ (t.slot i).state = .empty)) :
    InvariantsKept s { t with slots := x } := by
  refine h.trans { refl t with presence := fun k i => ?_ }
  obtain ⟨present, empty⟩ := hx i
  exact ⟨present.trans (k i).1, empty.trans ((k i).2.trans (by rw [← present]; rfl))⟩

theorem putSlot (h : InvariantsKept s t) (i : SlotNo) (x : Slot) (present : x.present = (t.slot i).present)
    (empty : x.state = .empty ↔ (t.slot i).state = .empty) : InvariantsKept s (t.putSlot i x) := by
  refine h.replaceSlots _ fun j => ?_
  by_cases e : j = i
  · subst e; simpa using ⟨present, empty⟩
  · have : (t.slots.set i x)[j] = t.slot j := State.putSlot_other t x e
    rw [this]; exact ⟨rfl, Iff.rfl⟩

theorem putFilter (h : InvariantsKept s t) (p : Pin) (f : Filter) (hf : f.filtered = (t.filter p).filtered) :
    InvariantsKept s (t.putFilter p f) := by
  refine h.trans
    { pending := by simp, queue := by simp, distinct := by simp [NoticesDistinct], trace := by simp, places := by simp
      meters := by simp [MetersInRange, State.meter], routes := by simp [RoutesConsistent, State.route, State.routeCfg]
      presence := fun k i => ?_, writer := by simp [WriterOrderly] }
  have same : (t.putFilter p f).slot i = t.slot i := by simp [State.slot]
  have level : ((t.putFilter p f).filter (.presence i)).filtered = (t.filter (.presence i)).filtered := by
    by_cases e : Pin.presence i = p
    · subst e; rw [State.putFilter_same, hf]
    · rw [State.putFilter_other t f e]
  rw [same, level]
  exact k i

/-- The filter of an input that is no PRESENCE input. -/
theorem putOtherFilter (h : InvariantsKept s t) (p : Pin) (f : Filter) (hp : ∀ i, p ≠ .presence i) :
    InvariantsKept s (t.putFilter p f) := by
  refine h.trans
    { pending := by simp, queue := by simp, distinct := by simp [NoticesDistinct], trace := by simp, places := by simp
      meters := by simp [MetersInRange, State.meter], routes := by simp [RoutesConsistent, State.route, State.routeCfg]
      presence := fun k i => ?_, writer := by simp [WriterOrderly] }
  have same : (t.putFilter p f).slot i = t.slot i := by simp [State.slot]
  rw [same, State.putFilter_other t f (hp i).symm]
  exact k i

/-- R176: a PRESENCE input changes, and its slot with it. -/
theorem seat (h : InvariantsKept s t) (i : SlotNo) (f : Filter) (x : Slot)
    (hx : (t.slot i).seated (t.filter (.presence i)) → x.seated f) :
    InvariantsKept s ((t.putFilter (.presence i) f).putSlot i x) := by
  refine h.trans
    { pending := by simp, queue := by simp, distinct := by simp [NoticesDistinct], trace := by simp, places := by simp
      meters := by simp [MetersInRange, State.meter], routes := by simp [RoutesConsistent, State.route, State.routeCfg]
      presence := fun k j => ?_, writer := by simp [WriterOrderly] }
  by_cases e : j = i
  · subst e
    have level : ((t.putFilter (.presence j) f).putSlot j x).filter (.presence j) = f := by
      simp [State.putSlot, State.filter, State.putFilter]
    rw [State.putSlot_same, level]
    exact hx (k j)
  · have slot : ((t.putFilter (.presence i) f).putSlot i x).slot j = t.slot j := by
      rw [State.putSlot_other _ x e]; rfl
    have level : ((t.putFilter (.presence i) f).putSlot i x).filter (.presence j) = t.filter (.presence j) := by
      change (t.putFilter (.presence i) f).filter (.presence j) = _
      exact State.putFilter_other t f (by simpa using e)
    rw [slot, level]
    exact k j

theorem replaceValves (h : InvariantsKept s t) (x : Vector Bool 12) :
    InvariantsKept s { t with pins := { t.pins with valves := x } } :=
  h.trans { refl t with }

theorem replaceNvm (h : InvariantsKept s t) (x : Nvm) (hx : t.nvm.orderly → x.orderly) :
    InvariantsKept s { t with nvm := x } :=
  h.trans { refl t with writer := hx }

end InvariantsKept

end Sys2Proof.Machine

namespace Sys2Proof.Machine

/-! ### The Notice Queue and the writer queue -/

theorem mergeNotice_keys (kind : NoticeKind) (subject : Subject) (d : Details) (ns : List Notice) :
    (mergeNotice kind subject d ns).map (fun n => (n.kind, n.subject)) = ns.map fun n => (n.kind, n.subject) := by
  induction ns with
  | nil => rfl
  | cons n ns ih =>
    unfold mergeNotice
    split
    · rfl
    · simp only [List.map_cons, ih]

theorem mergeNotice_length (kind : NoticeKind) (subject : Subject) (d : Details) (ns : List Notice) :
    (mergeNotice kind subject d ns).length = ns.length := by
  have := congrArg List.length (mergeNotice_keys kind subject d ns)
  simpa using this

theorem NoticeUnit.take_queue (u : NoticeUnit) (enabled : Bool) (kind : NoticeKind) (subject : Subject) (d : Details) :
    (u.take enabled kind subject d).queue = mergeNotice kind subject d u.queue ∨
      (u.take enabled kind subject d).queue = u.queue ∨
      (u.queue.length < 32 ∧ (∀ n ∈ u.queue, n.isAbout kind subject = false) ∧
        (u.take enabled kind subject d).queue = u.queue ++ [⟨kind, subject, 1, d⟩]) := by
  unfold NoticeUnit.take
  dsimp only
  split
  · exact .inl rfl
  · rename_i fresh
    split
    · exact .inr (.inl rfl)
    · split
      · exact .inr (.inl rfl)
      · exact .inr (.inr ⟨by omega, by simpa using fresh, rfl⟩)

theorem NoticeUnit.take_length (u : NoticeUnit) (enabled : Bool) (kind : NoticeKind) (subject : Subject) (d : Details)
    (h : u.queue.length ≤ 32) : (u.take enabled kind subject d).queue.length ≤ 32 := by
  obtain merged | same | ⟨room, -, appended⟩ := u.take_queue enabled kind subject d
  · rw [merged, mergeNotice_length]; exact h
  · rw [same]; exact h
  · rw [appended, List.length_append, List.length_singleton]; omega

theorem NoticeUnit.take_distinct (u : NoticeUnit) (enabled : Bool) (kind : NoticeKind) (subject : Subject)
    (d : Details) (h : distinctNotices u.queue) : distinctNotices (u.take enabled kind subject d).queue := by
  obtain merged | same | ⟨-, fresh, appended⟩ := u.take_queue enabled kind subject d
  · rw [merged, distinctNotices, mergeNotice_keys]; exact h
  · rw [same]; exact h
  · rw [appended, distinctNotices, List.map_append]
    refine List.Nodup.append h (by simp) ?_
    simp only [List.map_cons, List.map_nil, List.disjoint_singleton, List.mem_map, Prod.mk.injEq, not_exists, not_and]
    intro n hn kind_eq subject_eq
    simpa [Notice.isAbout, kind_eq, subject_eq] using fresh n hn

theorem replaceWrite_records (w : RecordWrite) (ps : List RecordWrite) :
    (replaceWrite w ps).map RecordWrite.record = ps.map RecordWrite.record := by
  induction ps with
  | nil => rfl
  | cons p ps ih =>
    unfold replaceWrite
    split
    next same => simp only [List.map_cons, same]
    next => simp only [List.map_cons, ih]

/-- Once the writer has taken the oldest pending write, none waits while it is free. -/
theorem Nvm.begin_orderly (m : Nvm) (distinct : (m.queue.map RecordWrite.record).Nodup) : m.begin.orderly := by
  unfold Nvm.begin Nvm.orderly
  split
  next w ws idle queued =>
    rw [queued, List.map_cons, List.nodup_cons] at distinct
    exact ⟨distinct.2, fun _ => rfl⟩
  next busy =>
    refine ⟨distinct, fun nonempty => ?_⟩
    cases progress : m.inProgress with
    | some x => rfl
    | none =>
      cases queue : m.queue with
      | nil => exact absurd queue nonempty
      | cons w ws => exact absurd queue (busy w ws progress)

theorem Nvm.enqueue_orderly (m : Nvm) (w : RecordWrite) (h : m.orderly) : (m.enqueue w).orderly := by
  refine Nvm.begin_orderly _ ?_
  dsimp only
  split
  · rw [replaceWrite_records]; exact h.1
  · rename_i fresh
    rw [List.map_append]
    refine List.Nodup.append h.1 (by simp) (List.disjoint_singleton.2 ?_)
    simpa using fresh

theorem Nvm.enqueueLast_orderly (m : Nvm) (w : RecordWrite) (h : m.orderly) : (m.enqueueLast w).orderly := by
  refine Nvm.begin_orderly _ ?_
  dsimp only
  rw [List.map_append]
  refine List.Nodup.append (h.1.sublist (List.Sublist.map _ List.filter_sublist)) (by simp) ?_
  simp

namespace InvariantsKept

variable {s t : State}

theorem raise (h : InvariantsKept s t) {k : NoticeKind} {u : Subject} {d : Details} :
    InvariantsKept s (t.raise k u d) :=
  h.notices _ (NoticeUnit.take_length _ _ k u d) (NoticeUnit.take_distinct _ _ k u d)

theorem raiseLink (h : InvariantsKept s t) {e : LinkEvent} : InvariantsKept s (t.raiseLink e) := h.raise

theorem raiseUnlock (h : InvariantsKept s t) {e : UnlockEvent} : InvariantsKept s (t.raiseUnlock e) := h.raise

theorem queueWrite (h : InvariantsKept s t) {w : RecordWrite} : InvariantsKept s (t.queueWrite w) :=
  h.replaceNvm _ (Nvm.enqueue_orderly _ w)

theorem queueEntry (h : InvariantsKept s t) {n : EntryNo} : InvariantsKept s (t.queueEntry n) := h.queueWrite

theorem turnAway (h : InvariantsKept s t) : InvariantsKept s t.turnAway := h.notices _ id id

theorem addTrace (h : InvariantsKept s t) {e : TraceEntry} : InvariantsKept s (t.addTrace e) := by
  refine h.replaceTrace _ fun k => ?_
  split <;> simp <;> omega

theorem driveValve (h : InvariantsKept s t) {c : Channel} : InvariantsKept s (t.driveValve c) := h.replaceValves _

/-! ### The lanes -/

theorem packetBegins (h : InvariantsKept s t) : InvariantsKept s t.packetBegins :=
  h.trans <| ite (fun _ => (refl t).quiet (by simp [quietBlocks])) fun _ =>
    ((refl t).quiet (by simp [quietBlocks]) : InvariantsKept t { t with link := _ }).raiseLink

theorem symbolArrives (h : InvariantsKept s t) {x : LaneSymbol} {a : List Byte} :
    InvariantsKept s (t.symbolArrives x a) :=
  (h.quiet (u := (t.cutPacket a).send 1) (by simp [quietBlocks])).packetBegins.quiet
    (by simp [State.symbolArrives, quietBlocks])

theorem ensureBegun (h : InvariantsKept s t) : InvariantsKept s t.ensureBegun :=
  ite (fun _ => h) fun _ => h.symbolArrives

theorem packetArrives (h : InvariantsKept s t) {n : Nat} : InvariantsKept s (t.packetArrives n) :=
  h.ensureBegun.quiet (by simp [State.packetArrives, quietBlocks])

theorem requestArrives (h : InvariantsKept s t) {fields : List Byte} : InvariantsKept s (t.requestArrives fields) :=
  (h.packetArrives (n := fields.length + 2)).quiet (by simp [State.requestArrives, quietBlocks])

/-! ### The Route Unit -/

/-- A gate that keeps its standing members. -/
theorem setGate (h : InvariantsKept s t) {c : Channel} {g : Gate}
    (hg : (t.route c).state = .unrouted → (t.route c).active = none →
      ((t.route c).gate.noRoute = true → g.noRoute = true) ∧ ((t.route c).gate.noSupply = true → g.noSupply = true)) :
    InvariantsKept s (t.setGate c g) := by
  have k : InvariantsKept s (t.putRoute c { t.route c with gate := g }) := by
    refine h.putRoute _ _ fun ⟨active, unrouted, idle⟩ => ⟨active, unrouted, fun u => ?_⟩
    obtain ⟨none, switch, revert, route, supply⟩ := idle u
    exact ⟨none, switch, revert, (hg u none).1 route, (hg u none).2 supply⟩
  exact ite (fun _ => k) fun _ => k.raise

theorem judgeSupply (h : InvariantsKept s t) {c : Channel} : InvariantsKept s (t.judgeSupply c) :=
  h.setGate fun _ none => ⟨id, fun _ => by rw [State.noSupply, none]⟩

end InvariantsKept

end Sys2Proof.Machine

namespace Sys2Proof.Machine

/-- A routed channel stays routed: its record follows the configured fields in every other route state, on either of its
slots. -/
theorem Route.follows.moved {r r' : Route} {cfg : RouteCfg} (h : r.follows cfg) (routed : r.state ≠ .unrouted)
    (routed' : r'.state ≠ .unrouted)
    (active : r'.active = r.active ∨ r'.active = cfg.defaultSlot ∨ r'.active = cfg.alternate) : r'.follows cfg := by
  refine ⟨?_, iff_of_false routed' fun k => routed (h.2.1.2 k), fun k => absurd k routed'⟩
  rcases active with same | dflt | alternate
  · rw [same]; exact h.1
  · exact .inr (.inl dflt)
  · exact .inr (.inr alternate)

theorem State.reach_route (s : State) (e : Time) (c : Channel) :
    (s.reach e).route c = s.route c := by
  unfold State.reach State.waits
  split <;> rfl

namespace InvariantsKept

variable {s t : State} {c : Channel}

theorem moveRoute (h : InvariantsKept s t) (x : Route)
    (routed : (t.route c).follows (t.routeCfg c) → (t.route c).state ≠ .unrouted) (routed' : x.state ≠ .unrouted)
    (active : x.active = (t.route c).active ∨ x.active = (t.routeCfg c).defaultSlot ∨
      x.active = (t.routeCfg c).alternate) : InvariantsKept s (t.putRoute c x) :=
  h.putRoute c x fun k => k.moved (routed k) routed' active

theorem raiseRoute (h : InvariantsKept s t) {b : Bool} : InvariantsKept s (t.raiseRoute c b) := h.raise

theorem switched_routed (r : Route) (cfg : RouteCfg) (k : SwitchCause) : (r.switched cfg k).state ≠ .unrouted := by
  cases k <;> simp [Route.switched]

theorem switchTo (h : InvariantsKept s t) {k : SwitchCause}
    (routed : (t.route c).follows (t.routeCfg c) → (t.route c).state ≠ .unrouted) :
    InvariantsKept s (t.switchTo c k) := by
  have moved : InvariantsKept s (t.putRoute c ((t.route c).switched (t.routeCfg c) k)) := by
    refine h.moveRoute _ routed (switched_routed _ _ k) (.inr ?_)
    cases k <;> simp [Route.switched, RouteCfg.target]
  refine moved.driveValve.addTrace.raise.setGate fun unrouted => absurd ?_ (switched_routed (t.route c) (t.routeCfg c) k)
  rw [← unrouted]
  exact congrArg Route.state (State.putRoute_same t c _).symm

theorem expirePendingAlt (h : InvariantsKept s t) (routed : (t.route c).state ≠ .unrouted) :
    InvariantsKept s (t.expirePendingAlt c) :=
  ite (fun _ => h.switchTo fun _ => routed) fun _ =>
    (h.moveRoute { t.route c with switchTimer := .waiting } (fun _ => routed) routed (.inl rfl)).raiseRoute

theorem enterPendingAlt (h : InvariantsKept s t) (routed : (t.route c).state ≠ .unrouted) :
    InvariantsKept s (t.enterPendingAlt c) := by
  let pending : Route :=
    { t.route c with state := .pendingAlt, switchTimer := .running (t.after (t.routeCfg c).switchDelay) }
  have k : InvariantsKept s ((t.putRoute c pending).raiseRoute c false) :=
    (h.moveRoute pending (fun _ => routed) nofun (.inl rfl)).raiseRoute
  have on : ((t.putRoute c pending).raiseRoute c false).route c = pending := State.putRoute_same t c pending
  exact ite (fun _ => k.expirePendingAlt (by rw [on]; nofun)) fun _ => k

theorem judgeOnDefault (h : InvariantsKept s t) (routed : (t.route c).state ≠ .unrouted) :
    InvariantsKept s (t.judgeOnDefault c) :=
  ite (fun _ => h.enterPendingAlt routed) fun _ => h

/-- A switch to the default slot, and D judged on arrival. -/
theorem returnToDefault (h : InvariantsKept s t) {k : SwitchCause}
    (routed : (t.route c).follows (t.routeCfg c) → (t.route c).state ≠ .unrouted) :
    InvariantsKept s ((t.switchTo c k).judgeOnDefault c) := by
  refine (h.switchTo routed).judgeOnDefault ?_
  rw [State.switchTo_route]
  exact switched_routed (t.route c) (t.routeCfg c) k

theorem expirePendingDefault (h : InvariantsKept s t) (routed : (t.route c).state ≠ .unrouted) :
    InvariantsKept s (t.expirePendingDefault c) :=
  h.returnToDefault fun _ => routed

theorem expireRevert (h : InvariantsKept s t)
    (routed : (t.route c).follows (t.routeCfg c) → (t.route c).state ≠ .unrouted) :
    InvariantsKept s (t.expireRevert c) :=
  h.returnToDefault routed

theorem enterPendingDefault (h : InvariantsKept s t) (routed : (t.route c).state ≠ .unrouted) :
    InvariantsKept s (t.enterPendingDefault c) := by
  have k : InvariantsKept s (t.startReturn c) :=
    (h.moveRoute
      { t.route c with
        state := .pendingDefault, switchTimer := .running (t.after (t.routeCfg c).switchDelay), revertTimer := none }
      (fun _ => routed) nofun (.inl rfl)).raiseRoute
  refine ite (fun _ => k.expirePendingDefault ?_) fun _ => k
  rw [State.startReturn_route]
  nofun

theorem judgeRevert (h : InvariantsKept s t) (routed : (t.route c).state ≠ .unrouted) :
    InvariantsKept s (t.judgeRevert c) := by
  have timed (timer : Option Time) : InvariantsKept s (t.putRoute c { t.route c with revertTimer := timer }) :=
    h.moveRoute _ (fun _ => routed) routed (.inl rfl)
  refine ite (fun _ => ite (fun _ => h) fun _ => ite (fun _ => (timed _).expireRevert fun _ => ?_) fun _ => timed _)
    fun _ => timed none
  rw [State.putRoute_same]
  exact routed

theorem judgeOnAlternate (h : InvariantsKept s t) (routed : (t.route c).state ≠ .unrouted) :
    InvariantsKept s (t.judgeOnAlternate c) :=
  ite (fun _ => h.enterPendingDefault routed) fun _ => h.judgeRevert routed

theorem cancelPending (h : InvariantsKept s t) {back : RouteState} (routed : (t.route c).state ≠ .unrouted)
    (routed' : back ≠ .unrouted) : InvariantsKept s (t.cancelPending c back) :=
  (h.moveRoute { t.route c with state := back, switchTimer := .idle } (fun _ => routed) routed' (.inl rfl)).raiseRoute

theorem judgePendingAlt (h : InvariantsKept s t) (routed : (t.route c).state ≠ .unrouted) :
    InvariantsKept s (t.judgePendingAlt c) :=
  ite (fun _ => h.cancelPending routed nofun) fun _ => ite (fun _ => h.switchTo fun _ => routed) fun _ => h

theorem judgePendingDefault (h : InvariantsKept s t) (routed : (t.route c).state ≠ .unrouted) :
    InvariantsKept s (t.judgePendingDefault c) := by
  refine ite (fun _ => h) fun _ => (h.cancelPending (back := .onAlternate) routed nofun).judgeRevert ?_
  rw [State.cancelPending, State.raiseRoute_route, State.putRoute_same]
  nofun

theorem judgeRoute (h : InvariantsKept s t) : InvariantsKept s (t.judgeRoute c) := by
  unfold State.judgeRoute
  split
  next => exact h
  all_goals rename_i state
  · exact h.judgeOnDefault (by rw [state]; nofun)
  · exact h.judgePendingAlt (by rw [state]; nofun)
  · exact h.judgeOnAlternate (by rw [state]; nofun)
  · exact h.judgePendingDefault (by rw [state]; nofun)

theorem judgeChannels (h : InvariantsKept s t) {named : Channel → Bool} : InvariantsKept s (t.judgeChannels named) :=
  foldl (fun u _ => ite (fun _ => (refl u).judgeRoute) fun _ => refl u) _ h

theorem judgeFitness (h : InvariantsKept s t) {before : State} {i : SlotNo} :
    InvariantsKept s (t.judgeFitness before i) := by
  refine foldl (fun u c => ?_) _ h
  have k : InvariantsKept u
      (if (before.fit i c != u.fit i c) &&
          (decide ((u.routeCfg c).defaultSlot = some i) || decide ((u.routeCfg c).alternate = some i)) then
        u.judgeRoute c
      else u) := ite (fun _ => (refl u).judgeRoute) fun _ => refl u
  exact ite (fun _ => k.judgeSupply) fun _ => k

theorem waits (h : InvariantsKept s t) {n : Nat} {e : Time} : InvariantsKept s (t.waits n e) :=
  h.quiet (by simp [quietBlocks])

theorem reach (h : InvariantsKept s t) {e : Time} : InvariantsKept s (t.reach e) := h.quiet (by simp [quietBlocks])

theorem switchExpires (h : InvariantsKept s t) : InvariantsKept s (t.switchExpires c) := by
  unfold State.switchExpires
  split
  · dsimp only
    split
    · exact h.reach.expirePendingAlt (by simp_all [State.reach_route])
    · exact h.reach.expirePendingDefault (by simp_all [State.reach_route])
    · exact h
  · exact h

theorem revertExpires (h : InvariantsKept s t) : InvariantsKept s (t.revertExpires c) := by
  unfold State.revertExpires
  split
  · rename_i e running
    refine h.reach.expireRevert fun follows unrouted => ?_
    rw [State.reach_route] at follows unrouted
    simpa [running] using (follows.2.2 unrouted).2.2.1
  · exact h

theorem putHold (h : InvariantsKept s t) {b : Bool} : InvariantsKept s (t.putHold c b) :=
  (h.putRoute c { t.route c with hold := b } id).setGate fun _ _ => ⟨id, id⟩

theorem traceOperator (h : InvariantsKept s t) {r : Route} : InvariantsKept s (t.traceOperator c r) :=
  ite (fun _ => h.addTrace.raise) fun _ => ite (fun _ => h.raiseRoute) fun _ => h

end InvariantsKept

/-! ### Set Route -/

/-- R51, R70: the record of a new configuration follows it, once its gate does. -/
theorem Route.configured_follows (r : Route) (cfg : RouteCfg) (before : Option SlotNo) (n : Nat) (g : Gate)
    (route : ((r.configured cfg).loadSettle before n).state = .unrouted → g.noRoute = true)
    (supply : ((r.configured cfg).loadSettle before n).active = none → g.noSupply = true) :
    Route.follows { (r.configured cfg).loadSettle before n with gate := g } cfg := by
  have settle : ∀ x : Route, (x.loadSettle before n).state = x.state ∧ (x.loadSettle before n).active = x.active ∧
      (x.loadSettle before n).switchTimer = x.switchTimer ∧ (x.loadSettle before n).revertTimer = x.revertTimer := by
    intro x; unfold Route.loadSettle; split <;> exact ⟨rfl, rfl, rfl, rfl⟩
  obtain ⟨state, active, switch, revert⟩ := settle (r.configured cfg)
  rw [state] at route
  rw [active] at supply
  unfold Route.follows
  dsimp only
  rw [state, active, switch, revert]
  unfold Route.configured at *
  split at route
  next unrouted =>
    rw [if_pos unrouted] at *
    exact ⟨.inl rfl, iff_of_true rfl unrouted, fun _ => ⟨rfl, rfl, rfl, route rfl, supply rfl⟩⟩
  next routed =>
    rw [if_neg routed] at *
    exact ⟨.inr (.inl rfl), iff_of_false nofun routed, nofun⟩

end Sys2Proof.Machine

namespace Sys2Proof.Machine

namespace InvariantsKept

variable {s t : State} {c : Channel} {i : SlotNo}

/-- R70: a channel's configured fields are replaced together with its record, which follows them. -/
theorem reconfigure (h : InvariantsKept s t) (cfg : RouteCfg) (r x : Route) (hx : x.follows cfg) :
    InvariantsKept s
      (((({ t with settings := { t.settings with routes := t.settings.routes.set c cfg } } : State).putRoute c
        r).driveValve c).putRoute c x) := by
  refine h.trans { refl t with routes := fun k d => ?_ }
  by_cases e : d = c
  · subst e
    rw [State.putRoute_same]
    have : ∀ u : State, u.settings.routes = t.settings.routes.set d cfg → u.routeCfg d = cfg := by
      intro u hu; simp [State.routeCfg, hu]
    rw [this _ rfl]
    exact hx
  · rw [State.putRoute_other _ x e]
    have route : ((({ t with settings := { t.settings with routes := t.settings.routes.set c cfg } } : State).putRoute
        c r).driveValve c).route d = t.route d := State.putRoute_other _ r e
    rw [route]
    have ne : (c : Nat) ≠ d := fun e' => e (Fin.ext e'.symm)
    have : ∀ u : State, u.settings.routes = t.settings.routes.set c cfg → u.routeCfg d = t.routeCfg d := by
      intro u hu; simp [State.routeCfg, hu, Vector.getElem_set_ne, ne]
    rw [this _ rfl]
    exact k d

theorem configureRoute (h : InvariantsKept s t) {cfg : RouteCfg} : InvariantsKept s (t.configureRoute c cfg) := by
  unfold State.configureRoute
  dsimp only
  generalize hr : ((t.route c).configured cfg).loadSettle (t.route c).active cfg.settleLines = r
  generalize hu : (({ t with settings := { t.settings with routes := t.settings.routes.set c cfg } } : State).putRoute
    c r).driveValve c = u
  have route : u.route c = r := by rw [← hu]; exact State.putRoute_same _ c r
  have k : InvariantsKept s (u.setGate c
      { r.gate with
        noRoute := decide (r.state = .unrouted), noSupply := u.noSupply c, settle := decide (0 < r.settleCount) }) := by
    have follows : Route.follows
        { u.route c with
          gate :=
            { r.gate with
              noRoute := decide (r.state = .unrouted), noSupply := u.noSupply c
              settle := decide (0 < r.settleCount) } } cfg := by
      rw [route, ← hr]
      refine Route.configured_follows _ cfg _ _ _ (fun unrouted => decide_eq_true unrouted) fun none => ?_
      rw [State.noSupply, route, ← hr, none]
    have placed := h.reconfigure (c := c) cfg r _ follows
    rw [hu] at placed
    obtain same | ⟨d, raised⟩ := State.setGate_cases u c
      { r.gate with
        noRoute := decide (r.state = .unrouted), noSupply := u.noSupply c, settle := decide (0 < r.settleCount) }
    · rw [same]; exact placed
    · rw [raised]; exact placed.raise
  refine ite (fun on => k.traceOperator.judgeOnDefault ?_) fun _ => k.traceOperator
  have traced : ∀ (v : State) (old : Route), (v.traceOperator c old).route c = v.route c := by
    intro v old
    have : keepsBut [.trace, .notices] v (v.traceOperator c old) := by simp
    exact congrArg (fun x : Vector Route 12 => x[c]) (this.2.2 .routes (by decide))
  rw [traced, State.setGate_route, route]
  dsimp only
  rw [on]
  nofun

/-! ### The History Table -/

theorem forgetIndex (h : InvariantsKept s t) {n : EntryNo} : InvariantsKept s (t.forgetIndex n) := by
  refine h.replaceSlots _ fun i => ?_
  simp only [Fin.getElem_fin, Vector.getElem_ofFn]
  split <;> exact ⟨rfl, Iff.rfl⟩

theorem putEntry (h : InvariantsKept s t) {n : EntryNo} {e : Option HistoryEntry} : InvariantsKept s (t.putEntry n e) :=
  h.quiet (by simp [quietBlocks])

theorem renumberIfFull (h : InvariantsKept s t) : InvariantsKept s t.renumberIfFull := by
  refine ite (fun _ => h) fun _ => ?_
  refine foldl (fun u n => ite (fun _ => (refl u).queueEntry) fun _ => refl u) _ ?_
  exact h.quiet (by simp [quietBlocks])

theorem moveEntry (h : InvariantsKept s t) {n : EntryNo} : InvariantsKept s (t.moveEntry n) := by
  unfold State.moveEntry
  dsimp only
  split
  · exact h.renumberIfFull
  · exact h.renumberIfFull.quiet (by simp [quietBlocks])

theorem insertEntry (h : InvariantsKept s t) {e : HistoryEntry} : InvariantsKept s (t.insertEntry e).1 :=
  h.forgetIndex.putEntry.moveEntry

theorem findOrInsert (h : InvariantsKept s t) {x : Serial} {e : HistoryEntry} :
    InvariantsKept s (t.findOrInsert x e).1 := by
  unfold State.findOrInsert
  split
  · exact h
  · exact h.insertEntry

theorem evict (h : InvariantsKept s t) {l : Option Serial} : InvariantsKept s (t.evict l) := by
  unfold State.evict
  split
  · exact h
  · split
    · exact h
    · exact h.putEntry.forgetIndex.queueEntry.raise

theorem addMarks (h : InvariantsKept s t) {n : EntryNo} {a b : Bool} : InvariantsKept s (t.addMarks n a b) := by
  unfold State.addMarks
  split
  · exact h
  · exact (ite (fun _ => h.evict) fun _ => h).putEntry

theorem putIndex (h : InvariantsKept s t) {n : Option EntryNo} :
    InvariantsKept s (t.putSlot i { t.slot i with historyIndex := n }) := h.putSlot i _ rfl Iff.rfl

theorem closeUpdate (h : InvariantsKept s t) {n : EntryNo} : InvariantsKept s (t.closeUpdate i n) :=
  h.putIndex.queueEntry

theorem historyUpdate (h : InvariantsKept s t) {f : State → EntryNo → State}
    (hf : ∀ u n, InvariantsKept u (f u n)) : InvariantsKept s (t.historyUpdate i f) := by
  unfold State.historyUpdate
  split
  · exact h
  · exact (h.findOrInsert.trans (hf _ _)).moveEntry.closeUpdate

theorem markDepleted (h : InvariantsKept s t) : InvariantsKept s (t.markDepleted i) :=
  h.historyUpdate fun u _ => (refl u).addMarks

theorem markRefill (h : InvariantsKept s t) : InvariantsKept s (t.markRefill i) :=
  h.historyUpdate fun u _ => (refl u).addMarks

theorem confirmHistory (h : InvariantsKept s t) {v : CheckpointValues} : InvariantsKept s (t.confirmHistory i v) := by
  refine h.historyUpdate fun u n => ?_
  unfold State.confirmEntry
  split
  · exact refl u
  · exact (refl u).putEntry.addMarks

theorem writeDrawnSince (h : InvariantsKept s t) : InvariantsKept s (t.writeDrawnSince i) := by
  unfold State.writeDrawnSince
  split
  · exact h
  · dsimp only
    split
    · exact h.findOrInsert
    · exact h.findOrInsert.putEntry.closeUpdate

theorem putSense (h : InvariantsKept s t) {x : Sense} : InvariantsKept s (t.putSense i x) :=
  h.quiet (by simp [quietBlocks])

theorem clearDrawnSince (h : InvariantsKept s t) {n : EntryNo} : InvariantsKept s (t.clearDrawnSince n) :=
  h.quiet (by simp [quietBlocks])

theorem outcomeUpdate (h : InvariantsKept s t) {x : Serial} {f : Fill} {a : Causes} {e : Nat} :
    InvariantsKept s (t.outcomeUpdate i x f a e).1 := by
  have found := h.findOrInsert (x := x) (e := reportedEntry x f ((t.slot i).ink.getD 0))
  unfold State.outcomeUpdate
  dsimp only
  generalize t.findOrInsert x (reportedEntry x f ((t.slot i).ink.getD 0)) = p at found ⊢
  refine putSense (closeUpdate (moveEntry (ite (fun _ => clearDrawnSince ?_) fun _ => ?_)))
  all_goals
    refine addMarks (addMarks ?_)
    split
    · exact found
    · exact found.putEntry

/-! ### The Slot Table -/

theorem leaveChallenge_present (x : Slot) : x.leaveChallenge.present = x.present := by
  unfold Slot.leaveChallenge; split <;> rfl

theorem leaveChallenge_state (x : Slot) : x.leaveChallenge.state = x.state := by
  unfold Slot.leaveChallenge; split <;> rfl

theorem changeSlot (h : InvariantsKept s t) {x : Slot} {f : Option (TransKind × FailKind)}
    (present : x.present = (t.slot i).present) (empty : x.state = .empty ↔ (t.slot i).state = .empty) :
    InvariantsKept s (t.changeSlot i x f) := by
  have k : InvariantsKept s (t.putSlot i x.leaveChallenge) :=
    h.putSlot i _ ((leaveChallenge_present x).trans present) (by rw [leaveChallenge_state]; exact empty)
  exact (ite (fun _ => k.quiet (by simp [quietBlocks])) fun _ => k).raise.judgeFitness

theorem putWatch_present (x : Slot) (n : WatchNo) (w : Watch) : (x.putWatch n w).present = x.present := by
  cases n <;> rfl

theorem putWatch_state (x : Slot) (n : WatchNo) (w : Watch) : (x.putWatch n w).state = x.state := by
  cases n <;> rfl

theorem putWatch (h : InvariantsKept s t) {n : WatchNo} {w : Watch} :
    InvariantsKept s (t.putSlot i ((t.slot i).putWatch n w)) :=
  h.putSlot i _ (putWatch_present _ n w) (by rw [putWatch_state])

theorem compareWatch (h : InvariantsKept s t) {n : WatchNo} : InvariantsKept s (t.compareWatch i n) :=
  ite (fun _ => h.putWatch.raise.judgeFitness) fun _ => h

theorem compareWatches (h : InvariantsKept s t) : InvariantsKept s (t.compareWatches i) := h.compareWatch.compareWatch

theorem moveSlot (h : InvariantsKept s t) {x : Slot} {f : Option (TransKind × FailKind)}
    (present : x.present = (t.slot i).present) (occupied : (t.slot i).state ≠ .empty) (occupied' : x.state ≠ .empty) :
    InvariantsKept s (t.moveSlot i x f) :=
  (h.changeSlot present (iff_of_false occupied' occupied)).compareWatches

theorem placeCheckpoint (h : InvariantsKept s t) : InvariantsKept s (t.placeCheckpoint i) :=
  h.quiet (by simp [quietBlocks])

theorem stepDue (h : InvariantsKept s t) : InvariantsKept s (t.stepDue i) := h.quiet (by simp [quietBlocks])

theorem enterDepleted (h : InvariantsKept s t) {before : State} : InvariantsKept s (t.enterDepleted before i) :=
  (h.quiet (u := t.depletionDue i) (by simp [quietBlocks])).markDepleted.raise.judgeFitness

theorem debitGenuine (h : InvariantsKept s t) (occupied : (t.slot i).state ≠ .empty) :
    InvariantsKept s (t.debitGenuine i) := by
  have occupied' : (t.slot i).drawGenuine.state ≠ .empty := by
    unfold Slot.drawGenuine
    dsimp only
    split <;> nofun
  have k : InvariantsKept s (t.putSlot i (t.slot i).drawGenuine) :=
    h.putSlot i _ rfl (iff_of_false occupied' occupied)
  exact (ite (fun _ => k.enterDepleted) fun _ => k).compareWatches.stepDue

theorem addUnbacked (h : InvariantsKept s t) : InvariantsKept s ((t.putSlot i (t.slot i).addUnbacked).compareWatches i) :=
  (h.putSlot i (t.slot i).addUnbacked rfl Iff.rfl).compareWatches

theorem debitDepleted (h : InvariantsKept s t) : InvariantsKept s (t.debitDepleted i) := by
  have k : InvariantsKept s (t.putSlot i { t.slot i with overdraw := (t.slot i).overdraw + 1 }) :=
    h.putSlot i _ rfl Iff.rfl
  exact ite (fun _ => (ite (fun _ => k.raise) fun _ => k).judgeFitness.compareWatches) fun _ => h.addUnbacked

theorem debitGrace (h : InvariantsKept s t) (occupied : (t.slot i).state ≠ .empty) :
    InvariantsKept s (t.debitGrace i) :=
  ite (fun _ => h.moveSlot rfl occupied nofun) fun _ =>
    (h.putSlot i { t.slot i with grace := (t.slot i).grace - 1 } rfl Iff.rfl).compareWatches

theorem applyDebit (h : InvariantsKept s t) : InvariantsKept s (t.applyDebit i) := by
  unfold State.applyDebit
  split
  next genuine => exact h.debitGenuine (by rw [genuine]; nofun)
  next => exact h.debitDepleted
  next grace => exact h.debitGrace (by rw [grace]; nofun)
  all_goals exact h.addUnbacked

end InvariantsKept

end Sys2Proof.Machine

namespace Sys2Proof.Machine

/-- R5, R16: no entry into GRACE under a policy empties a slot. -/
theorem Slot.enterGrace_occupied (x : Slot) (volume : Nat) : (x.enterGrace volume).state ≠ .empty := by
  unfold Slot.enterGrace; split <;> nofun

theorem Slot.enterGrace_present (x : Slot) (volume : Nat) : (x.enterGrace volume).present = x.present := by
  unfold Slot.enterGrace; split <;> rfl

/-- R9: what a level-sense finding makes of a slot: a move out of a state that is not EMPTY, or nothing. -/
theorem Slot.afterFinding_cases (x : Slot) (policy : RefillPolicy) (volume : Nat) :
    (x.afterFinding policy volume).present = x.present ∧
      ((x.afterFinding policy volume).state = x.state ∨
        x.state ≠ .empty ∧ (x.afterFinding policy volume).state ≠ .empty) := by
  unfold Slot.afterFinding
  split
  case h_8 => exact ⟨rfl, .inl rfl⟩
  case h_1 | h_2 | h_3 =>
    rename_i state
    exact ⟨x.enterGrace_present volume, .inr ⟨by rw [state]; nofun, x.enterGrace_occupied volume⟩⟩
  all_goals
    rename_i state
    exact ⟨rfl, .inr ⟨by rw [state]; nofun, nofun⟩⟩

theorem Slot.matched_occupied (x : Slot) (effective : Nat) (policy : RefillPolicy) (volume : Nat) :
    (x.matched effective policy volume).state ≠ .empty ∧ (x.matched effective policy volume).present = x.present := by
  unfold Slot.matched
  dsimp only
  split
  · exact ⟨by dsimp only; split <;> nofun, rfl⟩
  · cases policy
    · exact ⟨by dsimp only; split <;> nofun, rfl⟩
    · exact ⟨Slot.enterGrace_occupied _ volume, Slot.enterGrace_present _ volume⟩
    · exact ⟨nofun, rfl⟩

theorem Slot.unmatched_occupied (x : Slot) (policy : NonGenuinePolicy) (volume : Nat) :
    (x.unmatched policy volume).state ≠ .empty ∧ (x.unmatched policy volume).present = x.present := by
  unfold Slot.unmatched
  split
  · exact ⟨nofun, rfl⟩
  · cases policy
    · exact ⟨x.enterGrace_occupied volume, x.enterGrace_present volume⟩
    · exact ⟨nofun, rfl⟩

namespace InvariantsKept

variable {s t : State} {c : Channel} {i : SlotNo}

/-! ### Findings, presence and requests about slots -/

theorem levelFinding (h : InvariantsKept s t) : InvariantsKept s (t.levelFinding i) := by
  obtain ⟨present, state⟩ := Slot.afterFinding_cases
    { t.slot i with causes := { (t.slot i).causes with levelSenseRise := true } } t.policy.refill t.policy.graceVolume
  refine ite (fun same => h.putSlot i _ present (by rw [same])) fun moved => ?_
  obtain ⟨occupied, occupied'⟩ := state.resolve_left moved
  exact h.moveSlot present occupied occupied'

theorem levelLow (h : InvariantsKept s t) : InvariantsKept s (t.levelLow i) := h.quiet (by simp [quietBlocks])

theorem levelDisabled (h : InvariantsKept s t) : InvariantsKept s (t.levelDisabled i) := h.putSense

theorem levelSenseFinding (h : InvariantsKept s t) : InvariantsKept s (t.levelSenseFinding i) :=
  (ite (fun _ => h.raise.levelFinding.markRefill) fun _ => h.raise.levelFinding).putSense

theorem levelWet (h : InvariantsKept s t) : InvariantsKept s (t.levelWet i) :=
  ite (fun _ => h.levelSenseFinding) fun _ => h.putSense

theorem placeProbe (h : InvariantsKept s t) {p : ProbeStep} : InvariantsKept s (t.placeProbe i p) :=
  h.quiet (by simp [quietBlocks])

theorem putLine (h : InvariantsKept s t) {l : LineCtl} : InvariantsKept s (t.putLine i l) :=
  h.quiet (by simp [quietBlocks])

theorem digestDrop (h : InvariantsKept s t) {k : PassKind → Bool} : InvariantsKept s (t.digestDrop i k) :=
  h.quiet (by simp [quietBlocks])

theorem digestRequest (h : InvariantsKept s t) {r : Requester} {q : DigestRequest} :
    InvariantsKept s (t.digestRequest r q) :=
  h.quiet (by simp [quietBlocks])

theorem rescan (h : InvariantsKept s t) (occupied : (t.slot i).state ≠ .empty) : InvariantsKept s (t.rescan i) := by
  have k : InvariantsKept s
      (t.putSlot i (Slot.leaveChallenge { t.slot i with state := .probing, writeFailures := 0 })) := by
    refine h.putSlot i _ (leaveChallenge_present _) ?_
    rw [leaveChallenge_state]
    exact iff_of_false nofun occupied
  exact k.putLine.digestDrop.putSense.placeProbe.raise.judgeFitness.compareWatches

theorem configureWatch (h : InvariantsKept s t) {n : WatchNo} {w : Watch} :
    InvariantsKept s (t.configureWatch i n w) :=
  ite (fun _ => h.putWatch.raise.judgeFitness) fun _ => h.putWatch.judgeFitness

/-! ### The PRESENCE inputs -/

theorem filter_seated {u : State} (f : Filter) :
    ((u.putFilter (.presence i) f).filter (.presence i)) = f ∧ (u.putFilter (.presence i) f).slot i = u.slot i :=
  ⟨State.putFilter_same u _ f, rfl⟩

/-- R3, R6, R176: a filtered change of a PRESENCE input seats or vacates its slot. -/
theorem presenceInput (h : InvariantsKept s t) : InvariantsKept s (t.inputChanges (.presence i)) := by
  let f := (t.filter (.presence i)).settle (.presence i)
  unfold State.inputChanges State.handOnInput
  dsimp only
  have kept (occupied : (t.slot i).seated (t.filter (.presence i)) → (t.slot i).seated f) :
      InvariantsKept s (t.putFilter (.presence i) f) := by
    have := h.seat i f (t.slot i) occupied
    have same : (t.putFilter (.presence i) f).putSlot i (t.slot i) = t.putFilter (.presence i) f :=
      State.putSlot_self (t.putFilter (.presence i) f) i
    rwa [same] at this
  unfold State.presenceChanges
  rw [State.putFilter_same]
  split
  next asserted =>
    refine ite (fun empty => ?_) fun occupied => kept fun k => ?_
    · exact (h.seat i f { t.slot i with state := .probing, present := true } fun _ =>
        ⟨asserted.symm, iff_of_false nofun nofun⟩).placeProbe.raise.judgeFitness
    · have present : (t.slot i).present = true := by
        cases e : (t.slot i).present
        · exact absurd (k.2.2 e) occupied
        · rfl
      exact ⟨present.trans asserted.symm, k.2⟩
  next released =>
    have released : f.filtered = false := by simpa using released
    refine ite (fun empty => kept fun k => ?_) fun _ => ?_
    · exact ⟨(k.2.1 empty).trans released.symm, k.2⟩
    · exact (h.seat i f _ fun _ => ⟨released.symm, iff_of_true rfl rfl⟩).putLine.digestDrop.putSense.raise.judgeFitness

/-! ### The challenge flow and the ends of transactions -/

theorem probeGood (h : InvariantsKept s t) {ident : Ident} {f : Fill} (occupied : (t.slot i).state ≠ .empty) :
    InvariantsKept s (t.probeGood i ident f) :=
  (h.moveSlot (x := (t.slot i).identified ident f) rfl occupied nofun).digestRequest

theorem goMute (h : InvariantsKept s t) {k : TransKind} {f : FailKind} (occupied : (t.slot i).state ≠ .empty) :
    InvariantsKept s (t.goMute i k f) :=
  h.moveSlot rfl occupied nofun

theorem drawn (h : InvariantsKept s t) : InvariantsKept s t.drawn := h.quiet (by simp [quietBlocks])

theorem deriveDelivered (h : InvariantsKept s t) {p : Pass} : InvariantsKept s (t.deriveDelivered i p) :=
  (h.drawn.putSlot i { t.slot i with
      derivedKey := some { key := deriveKey p.key p.message, void := !p.keyGood }, nonce := some t.freshNonce }
    rfl Iff.rfl).quiet (by simp [State.deriveDelivered, quietBlocks])

theorem tagReceived (h : InvariantsKept s t) {tag : Tag} : InvariantsKept s (t.tagReceived i tag) :=
  (h.putSlot i { t.slot i with tag := some tag } rfl Iff.rfl).digestRequest

theorem lookupMoves (h : InvariantsKept s t) {x : Serial} : InvariantsKept s (t.lookupMoves x) := by
  unfold State.lookupMoves
  split
  · exact h
  · exact h.moveEntry

theorem tagMatched (h : InvariantsKept s t) {x : Serial} {f : Fill} (occupied : (t.slot i).state ≠ .empty) :
    InvariantsKept s (t.tagMatched i x f) := by
  unfold State.tagMatched
  dsimp only
  obtain ⟨matched, present⟩ := Slot.matched_occupied
    { t.slot i with causes := (t.slot i).causes.union (findingsOf f ((t.slot i).nominal.getD 0) (t.entryOf x)) }
    (effectiveRemaining (t.slot i) f (t.entryOf x)) t.policy.refill t.policy.graceVolume
  have moves : (t.lookupMoves x).slot i = t.slot i := by
    have : keepsBut [.history, .nvm] t (t.lookupMoves x) := by simp
    exact congrArg (fun x : Vector Slot 16 => x[i]) (this.2.2 .slots (by decide))
  have moved : ∀ u : State, InvariantsKept s u → u.slot i = t.slot i → InvariantsKept s (u.moveSlot i
      ({ t.slot i with causes := (t.slot i).causes.union (findingsOf f ((t.slot i).nominal.getD 0) (t.entryOf x)) }
        |>.matched (effectiveRemaining (t.slot i) f (t.entryOf x)) t.policy.refill t.policy.graceVolume) none) :=
    fun u k same => k.moveSlot (by rw [same]; exact present) (by rw [same]; exact occupied) matched
  refine ite (fun _ => ?_) fun _ => ?_
  · refine placeCheckpoint (outcomeUpdate (moved _ (ite (fun _ => h.lookupMoves) fun _ => h.lookupMoves.raise) ?_))
    split <;> exact moves
  · refine outcomeUpdate (moved _ (ite (fun _ => h.lookupMoves) fun _ => h.lookupMoves.raise) ?_)
    split <;> exact moves

theorem expectDelivered (h : InvariantsKept s t) {x : Tag} (occupied : (t.slot i).state ≠ .empty) :
    InvariantsKept s (t.expectDelivered i x) := by
  obtain ⟨unmatched, present⟩ := Slot.unmatched_occupied (t.slot i) t.policy.nonGenuine t.policy.graceVolume
  refine ite (fun _ => h.moveSlot present occupied unmatched) fun _ => ?_
  split
  · exact h.tagMatched occupied
  · exact h

theorem putProbeHold (h : InvariantsKept s t) {x : Option Ident} : InvariantsKept s (t.putProbeHold i x) := h.putLine

theorem takesEnd_occupied {x : Transaction} {state : SlotState} (h : t.takesEnd i x state = true)
    (state_occupied : state ≠ .empty) : (t.slot i).state ≠ .empty := by
  simp only [State.takesEnd, Bool.and_eq_true, decide_eq_true_eq] at h
  rw [h.1.2]
  exact state_occupied

theorem identifyEnds (h : InvariantsKept s t) {x : Transaction} {j : Judgement} {r : List Byte} :
    InvariantsKept s (t.identifyEnds i x j r) := by
  refine ite (fun takes => ?_) fun _ => h.putProbeHold
  cases j
  · exact h.putProbeHold.placeProbe
  · exact h.putProbeHold.goMute (takesEnd_occupied takes nofun)

theorem readFillEnds (h : InvariantsKept s t) {x : Transaction} {j : Judgement} {r : List Byte} :
    InvariantsKept s (t.readFillEnds i x j r) := by
  refine ite (fun takes => ?_) fun _ => h.putProbeHold
  cases j
  · dsimp only
    split
    · exact h.putProbeHold.probeGood (takesEnd_occupied takes nofun)
    · exact h
  · exact h.putProbeHold.goMute (takesEnd_occupied takes nofun)

theorem challengeEnds (h : InvariantsKept s t) {x : Transaction} {j : Judgement} {r : List Byte} :
    InvariantsKept s (t.challengeEnds i x j r) := by
  refine ite (fun takes => ?_) fun _ => h.putProbeHold
  cases j
  · exact h.tagReceived
  · exact h.goMute (takesEnd_occupied takes nofun)

theorem checkpointAccepted (h : InvariantsKept s t) {v : CheckpointValues} :
    InvariantsKept s (t.checkpointAccepted i v) := by
  have k := (h.putSlot i ((t.slot i).confirm v) rfl Iff.rfl).confirmHistory (i := i) (v := v)
  exact ite (fun _ => k.placeCheckpoint) fun _ => k

theorem checkpointFailed (h : InvariantsKept s t) {v : CheckpointValues} {r : CheckpointResult} :
    InvariantsKept s (t.checkpointFailed i v r) := by
  let x : Slot := { t.slot i with writeFailures := satAdd 3 (t.slot i).writeFailures 1 }
  have k : InvariantsKept s
      ((t.putSlot i x).raise .checkpoint (.slot i) (.checkpoint v r x.writeFailures)) :=
    (h.putSlot i x rfl Iff.rfl).raise
  have same : ((t.putSlot i x).raise .checkpoint (.slot i) (.checkpoint v r x.writeFailures)).slot i = x :=
    State.putSlot_same t i x
  refine ite (fun supplies => ite (fun _ => k.moveSlot (by rw [same]) ?_ nofun) fun _ => k.placeCheckpoint) fun _ => k
  rw [same]
  intro empty
  change x.state.supplies = true at supplies
  rw [empty] at supplies
  exact absurd supplies nofun

theorem handOn (h : InvariantsKept s t) {x : Transaction} {j : Judgement} {r : List Byte} :
    InvariantsKept s (t.handOn i x j r) := by
  unfold State.handOn
  split
  · exact h.identifyEnds
  · exact h.readFillEnds
  · exact h.challengeEnds
  · unfold State.checkpointEnds
    split
    · exact h.checkpointFailed
    · exact ite (fun _ => h.checkpointAccepted) fun _ => h.checkpointFailed

theorem lineFree (h : InvariantsKept s t) : InvariantsKept s (t.lineFree i) := h.quiet (by simp [quietBlocks])

theorem reachLine (h : InvariantsKept s t) : InvariantsKept s (t.reachLine i) := h.quiet (by simp [quietBlocks])

theorem transactionEnds (h : InvariantsKept s t) {x : Transaction} {j : Judgement} :
    InvariantsKept s (t.transactionEnds i x j) :=
  h.putLine.handOn.lineFree

theorem turnaroundEnds (h : InvariantsKept s t) : InvariantsKept s (t.turnaroundEnds i) := by
  refine ite (fun _ => ?_) fun _ => h
  dsimp only
  split
  · exact h.reachLine.lineFree
  · split
    · exact h.reachLine
    · exact ite (fun _ => h.reachLine.putLine) fun _ => h.reachLine.transactionEnds
    · exact h.reachLine.transactionEnds

end InvariantsKept

end Sys2Proof.Machine

namespace Sys2Proof.Machine

theorem Meter.afterLine_inRange (m : Meter) (l : Flight) (cfg : RouteCfg) (multiplier band : Nat) :
    (m.afterLine l cfg multiplier band).inRange := by
  refine ⟨Nat.mod_lt _ (by decide), Nat.mod_lt _ (by decide), ?_⟩
  change m.runAfter _ ≤ 16
  unfold Meter.runAfter satAdd
  split
  · exact Nat.min_le_left _ _
  · exact Nat.zero_le _

namespace InvariantsKept

variable {s t : State} {c : Channel} {i : SlotNo}

/-! ### The Drop Meter and Temperature Capture -/

theorem emitDebit (h : InvariantsKept s t) {source : Option (SlotNo × Tenure)} :
    InvariantsKept s (t.emitDebit c source) := by
  unfold State.emitDebit
  refine putMeter ?_ c _ id
  split
  · exact h.applyDebit
  · exact h.putMeter c _ id

theorem emitDebits (n : Nat) (h : InvariantsKept s t) {source : Option (SlotNo × Tenure)} :
    InvariantsKept s (State.emitDebits n t c source) := by
  induction n generalizing t with
  | zero => exact h
  | succ n ih => exact ih h.emitDebit

theorem raiseWaste (h : InvariantsKept s t) {f : WasteFlag} {b : Bool} : InvariantsKept s (t.raiseWaste f b) := h.raise

theorem judgeWaste (h : InvariantsKept s t) {a b : Bool} : InvariantsKept s (t.judgeWaste a b) := by
  have k : InvariantsKept s (if t.wasteNear = a then t else t.raiseWaste .near t.wasteNear) :=
    ite (fun _ => h) fun _ => h.raiseWaste
  exact ite (fun _ => k) fun _ => k.raiseWaste

theorem replaceWaste (h : InvariantsKept s t) (w : WasteAccount) : InvariantsKept s { t with waste := w } :=
  h.trans { refl t with }

theorem addWaste (h : InvariantsKept s t) {n : Nat} : InvariantsKept s (t.addWaste n) :=
  ite (fun _ => (h.replaceWaste _).judgeWaste.queueWrite) fun _ => (h.replaceWaste _).judgeWaste

theorem meterLine (h : InvariantsKept s t) {l : Flight} : InvariantsKept s (t.meterLine l) := by
  let band := t.settings.temp.band (t.head l.head)
  let multiplier := t.settings.temp.multiplier band
  have k : InvariantsKept s
      (State.emitDebits ((t.meter l.channel).debits l multiplier)
        (t.putMeter l.channel ((t.meter l.channel).afterLine l (t.routeCfg l.channel) multiplier band)) l.channel
        l.source) :=
    (h.putMeter l.channel _ fun _ => Meter.afterLine_inRange _ l _ multiplier band).emitDebits _
  have charged (u : State) (hu : InvariantsKept s u) :
      InvariantsKept s (u.putMeter l.channel { u.meter l.channel with lastCharge := l.source }) :=
    hu.putMeter l.channel _ id
  exact ite (fun _ => (charged _ k).addWaste) fun _ => charged _ k

theorem lineEnds (h : InvariantsKept s t) {l : Flight} : InvariantsKept s (t.lineEnds l) :=
  ite (fun _ => h.meterLine) fun _ => h

theorem chargeResidue (h : InvariantsKept s t) : InvariantsKept s (t.chargeResidue c) :=
  ite (fun _ => h.emitDebit.putMeter c _ fun k => ⟨Nat.zero_lt_succ _, Nat.zero_lt_succ _, k.2.2⟩) fun _ => h

theorem goStale (h : InvariantsKept s t) {x : HeadNo} : InvariantsKept s (t.goStale x) :=
  raise (h.quiet (u := t.putHead x _) (by simp [quietBlocks]))

theorem staleExpires (h : InvariantsKept s t) {x : HeadNo} : InvariantsKept s (t.staleExpires x) := by
  unfold State.staleExpires
  split
  · exact h
  · exact h.reach.goStale

theorem takeReading (h : InvariantsKept s t) {x : HeadNo} {n : Nat} : InvariantsKept s (t.takeReading x n) := by
  have k : InvariantsKept s (t.putHead x ⟨some n, t.time, some (t.after t.settings.temp.staleTime)⟩) :=
    h.quiet (by simp [quietBlocks])
  exact ite (fun _ => k) fun _ => k.raise

theorem rejudgeHead (h : InvariantsKept s t) {x : HeadNo} : InvariantsKept s (t.rejudgeHead x) :=
  ite (fun _ => h) fun _ => ite (fun _ => h.goStale) fun _ => h.quiet (by simp [quietBlocks])

theorem loadTemperature (h : InvariantsKept s t) {x : TempTable} : InvariantsKept s (t.loadTemperature x) :=
  ite (fun _ => h.settings _ rfl) fun _ => foldl (fun u _ => (refl u).rejudgeHead) _ (h.settings _ rfl)

theorem zeroWaste (h : InvariantsKept s t) : InvariantsKept s t.zeroWaste :=
  (h.replaceWaste ⟨0, 0⟩).judgeWaste.queueWrite

/-! ### The Fire Link -/

theorem countFailure (h : InvariantsKept s t) : InvariantsKept s t.countFailure := h.quiet (by simp [quietBlocks])

theorem countCheck (h : InvariantsKept s t) {b : Bool} : InvariantsKept s (t.countCheck b) :=
  h.quiet (by simp [quietBlocks])

theorem mgmtFails (h : InvariantsKept s t) {p : List Byte} {x : BitVec 16} : InvariantsKept s (t.mgmtFails p x) :=
  ite (fun _ => h) fun _ => h.packetArrives.countFailure

theorem forwardHead (h : InvariantsKept s t) {p : List Byte} {x : BitVec 16} : InvariantsKept s (t.forwardHead p x) :=
  ite (fun _ => h.raiseLink) fun _ => h.quiet (by simp [quietBlocks])

theorem headEnds (h : InvariantsKept s t) {p : List Byte} {x : BitVec 16} : InvariantsKept s (t.headEnds p x) :=
  ite (fun _ => h.packetArrives.countCheck.forwardHead) fun _ => h.packetArrives.countCheck

theorem refuseHeader (h : InvariantsKept s t) {x : LineHead} {r : RefuseReason} :
    InvariantsKept s (t.refuseHeader x r) :=
  (h.raise (k := .lineRefused)).trans { refl _ with }

theorem settleCountdown (h : InvariantsKept s t) : InvariantsKept s (t.settleCountdown c) := by
  have k : InvariantsKept s (t.putRoute c { t.route c with settleCount := (t.route c).settleCount - 1 }) :=
    h.putRoute c _ id
  refine ite (fun _ => h) fun _ => ite (fun _ => k.setGate fun _ _ => ?_) fun _ => k
  rw [State.putRoute_same]
  exact ⟨id, id⟩

theorem acceptHeader (h : InvariantsKept s t) {x : LineHead} : InvariantsKept s (t.acceptHeader c x) := by
  have recorded : InvariantsKept s (t.recordLine c x.lineNumber) :=
    h.putRoute c { t.route c with lastLine := some x.lineNumber } id
  have blanked : InvariantsKept s
      (((t.recordLine c x.lineNumber).settleCountdown c).countBlanked c (t.latchLine c x).blanked) :=
    ite (fun _ => recorded.settleCountdown.putMeter c _ id) fun _ => recorded.settleCountdown
  exact blanked.quiet (by simp [State.acceptHeader, quietBlocks])

theorem testHeader (h : InvariantsKept s t) {x : LineHead} : InvariantsKept s (t.testHeader x) := by
  unfold State.testHeader
  split
  · exact h.refuseHeader
  · exact h.acceptHeader
  · exact h

theorem headerCompletes (h : InvariantsKept s t) {x : LineHead} : InvariantsKept s (t.headerCompletes x) := by
  have k : InvariantsKept s (t.ensureBegun.send headerBytes).symbolReceived :=
    h.ensureBegun.quiet (by simp [quietBlocks])
  exact ite (fun _ => k) fun _ => k.testHeader

theorem wholeLineEnds (h : InvariantsKept s t) {p : List Byte} {x : BitVec 16} :
    InvariantsKept s (t.wholeLineEnds p x) :=
  h.packetArrives.countCheck

theorem strayData (h : InvariantsKept s t) {n : Nat} : InvariantsKept s (t.strayData n) :=
  h.quiet (by simp [quietBlocks])

theorem refusedEnds (h : InvariantsKept s t) {p : List Byte} {x : BitVec 16} :
    InvariantsKept s (t.refusedEnds p x) := by
  unfold State.refusedEnds
  split
  · exact ite (fun _ => h.quiet (by simp [quietBlocks])) fun _ => h
  · exact h.wholeLineEnds
  · exact h.strayData
  · exact ite (fun _ => h.wholeLineEnds) fun _ => h.strayData

theorem upstreamEnds (h : InvariantsKept s t) {p : List Byte} {x : BitVec 16} :
    InvariantsKept s (t.upstreamEnds p x) :=
  h.quiet (by simp [quietBlocks])

theorem lineSent (h : InvariantsKept s t) : InvariantsKept s t.lineSent := by
  unfold State.lineSent
  split
  · exact h
  · exact ite (fun _ => h) fun _ => (h.quiet (by simp [quietBlocks])).lineEnds

theorem withdrawn_places (r : RequestUnit) :
    RequestUnit.placesInUse
        { r with
          access := .operate, nonce := none, attempt := r.attempt.map fun a => { a with withdrawn := true } } =
      r.placesInUse := by
  simp [RequestUnit.placesInUse]

theorem endService (h : InvariantsKept s t) : InvariantsKept s t.endService := by
  have k := h.replaceRequests
    { t.requests with
      access := .operate, nonce := none, attempt := t.requests.attempt.map fun a => { a with withdrawn := true } }
    (by rw [withdrawn_places]; exact id)
  exact ite (fun _ => k.raiseUnlock) fun _ => k

theorem linkExpires (h : InvariantsKept s t) {a : List Byte} : InvariantsKept s (t.linkExpires a) := by
  unfold State.linkExpires
  split
  · refine raiseLink (foldl (fun u i => (refl u).quiet (by simp [quietBlocks])) _ (endService ?_))
    exact h.quiet (by simp [quietBlocks])
  · exact h

theorem gradeExpires (h : InvariantsKept s t) {g : GradeName} : InvariantsKept s (t.gradeExpires g) := by
  unfold State.gradeExpires
  split
  · exact h
  · rename_i e _
    exact raiseLink (h.quiet (u := { t.reach e with link := (t.reach e).link.putGrade g _ }) (by simp [quietBlocks]))

theorem cutReturn (h : InvariantsKept s t) {a : List Byte} : InvariantsKept s (t.cutReturn a) :=
  h.quiet (by simp [quietBlocks])

theorem discardReturn (h : InvariantsKept s t) : InvariantsKept s t.discardReturn := h.quiet (by simp [quietBlocks])

theorem placeReturn (h : InvariantsKept s t) {n : BitVec 16} : InvariantsKept s (t.placeReturn n) :=
  h.quiet (by simp [quietBlocks])

theorem returnStarts (h : InvariantsKept s t) {k : Byte} {n : BitVec 16} : InvariantsKept s (t.returnStarts k n) :=
  ite (fun _ => ite (fun _ => h.cutReturn.discardReturn.raiseLink) fun _ => h.cutReturn.placeReturn)
    fun _ => h.cutReturn.discardReturn

theorem readHeadStatus (h : InvariantsKept s t) {p : List Byte} {x : BitVec 16} :
    InvariantsKept s (t.readHeadStatus p x) :=
  ite (fun _ => foldl (fun u _ => ite (fun _ => refl u) fun _ => (refl u).takeReading) _ h) fun _ => h

theorem returnArrives (h : InvariantsKept s t) {p : List Byte} {x : BitVec 16} :
    InvariantsKept s (t.returnArrives p x) := by
  unfold State.returnArrives
  split
  · exact ite (fun _ => (h.quiet (by simp [quietBlocks])).readHeadStatus) fun _ => h
  · exact h.quiet (by simp [quietBlocks])
  · exact h

/-! ### The Pin Unit -/

theorem levelChanges (h : InvariantsKept s t) : InvariantsKept s (t.levelChanges i) :=
  ite (fun _ => (ite (fun _ => h.levelLow) fun _ => h.levelWet).judgeChannels) fun _ => h

theorem auxChanges (h : InvariantsKept s t) {n : Fin 4} : InvariantsKept s (t.auxChanges n) := h.judgeChannels.raise

theorem inputChanges (h : InvariantsKept s t) {p : Pin} : InvariantsKept s (t.inputChanges p) := by
  cases p with
  | presence i => exact h.presenceInput
  | level i => exact (h.putOtherFilter (.level i) _ nofun).levelChanges
  | aux n => exact (h.putOtherFilter (.aux n) _ nofun).auxChanges
  | powerFail => exact h.putOtherFilter .powerFail _ nofun

theorem startFilter (h : InvariantsKept s t) {p : Pin} : InvariantsKept s (t.startFilter p) := by
  have k : InvariantsKept s (t.startTimer p) := h.putFilter p _ rfl
  exact ite (fun _ => k.inputChanges) fun _ => k

theorem rejudgeFilter (h : InvariantsKept s t) {old : PinCfg} {p : Pin} :
    InvariantsKept s (State.rejudgeFilter old t p) := by
  unfold State.rejudgeFilter
  dsimp only
  split
  · exact h
  · exact ite (fun _ => h) fun _ => ite (fun _ => h.inputChanges) fun _ => h.putFilter p _ rfl

theorem putPinCfg (h : InvariantsKept s t) {x : PinCfg} : InvariantsKept s (t.putPinCfg x) := h.settings _ rfl

theorem enableChanges (h : InvariantsKept s t) {old : Vector Bool 16} : InvariantsKept s (State.enableChanges old t i) :=
  ite (fun _ => h) fun _ => ite (fun _ => h) fun _ =>
    (ite (fun _ => h.levelLow) fun _ => h.levelDisabled).judgeChannels

theorem replacePins (h : InvariantsKept s t) {x : PinCfg} : InvariantsKept s (t.replacePins x) := by
  have delays : InvariantsKept s (t.replaceDelays x) := foldl (fun u _ => (refl u).rejudgeFilter) _ h.putPinCfg
  exact (foldl (fun u _ => (refl u).enableChanges) _ delays.putPinCfg : InvariantsKept s ((t.replaceDelays x).replaceEnables x)).putPinCfg

theorem clearChanged (h : InvariantsKept s t) : InvariantsKept s t.clearChanged := by
  refine h.trans { refl t with presence := fun k i => ?_ }
  have level : (t.clearChanged.filter (.presence i)).filtered = (t.filter (.presence i)).filtered := by
    simp [State.clearChanged, State.filter, Filter.clearChanged]
  rw [level]
  exact k i

/-! ### The save and the start-up -/

theorem enterSaving (h : InvariantsKept s t) {k : SaveCause} : InvariantsKept s (t.enterSaving k) := h.replaceNvm _ id

theorem saveDrawnSince (h : InvariantsKept s t) : InvariantsKept s (t.saveDrawnSince i) :=
  ite (fun _ => h.writeDrawnSince) fun _ => h

theorem beginSave (h : InvariantsKept s t) {k : SaveCause} {a : List Byte} : InvariantsKept s (t.beginSave k a) := by
  have arrived : InvariantsKept s (t.levelsArrive a) := h.quiet (by simp [quietBlocks])
  have gated := foldl (fun u c => (refl u).setGate (c := c) (g := { (u.route c).gate with powerSave := true }) fun _ _ => ⟨id, id⟩)
    channels (arrived.enterSaving (k := k))
  have charged : ∀ u, InvariantsKept s u → InvariantsKept s u.chargeLines := fun u hu =>
    foldl (fun v _ => (refl v).emitDebits 3) _ (hu.quiet (by simp [quietBlocks]))
  have residues := foldl (fun u c => (refl u).chargeResidue (c := c)) channels (charged _ gated)
  have saved := foldl (fun u i => (refl u).saveDrawnSince (i := i)) slotNos residues
  exact saved.queueWrite.replaceNvm _ (Nvm.enqueueLast_orderly _ _)

/-- Every invariant holds of the later state. -/
theorem of_holds (pending : t.pending = s.pending) (queues : QueuesBounded t) (distinct : NoticesDistinct t)
    (meters : MetersInRange t) (routes : RoutesConsistent t) (presence : PresenceFollows t) (writer : WriterOrderly t) :
    InvariantsKept s t :=
  ⟨pending, fun _ => queues.1, fun _ => distinct, fun _ => queues.2.1, fun _ => queues.2.2, fun _ => meters,
    fun _ => routes, fun _ => presence, fun _ => writer⟩

end InvariantsKept

/-! ### Start-up -/

/-- R50, R51: a channel set up at start-up follows its configured fields. -/
theorem State.startRoute_follows (s : State) (c : Channel) : ((s.startRoute c).route c).follows (s.routeCfg c) := by
  have route : (s.startRoute c).route c =
      { Route.start (s.routeCfg c) with
        gate := { (Route.start (s.routeCfg c)).gate with
                  noSupply := (s.putRoute c (Route.start (s.routeCfg c))).noSupply c } } := by
    have same := State.putRoute_same s c (Route.start (s.routeCfg c))
    unfold State.startRoute
    dsimp only
    rw [same]
    exact State.putRoute_same _ c _
  rw [route]
  have supply : (Route.start (s.routeCfg c)).active = none →
      (s.putRoute c (Route.start (s.routeCfg c))).noSupply c = true := by
    intro none
    rw [State.noSupply, State.putRoute_same, none]
  generalize (s.putRoute c (Route.start (s.routeCfg c))).noSupply c = b at supply ⊢
  unfold Route.start at *
  split at supply
  next unrouted =>
    rw [if_pos unrouted]
    exact ⟨.inl rfl, iff_of_true rfl unrouted, fun _ => ⟨rfl, rfl, rfl, rfl, supply rfl⟩⟩
  next routed =>
    rw [if_neg routed]
    exact ⟨.inr (.inl rfl), iff_of_false nofun routed, nofun⟩

theorem State.startRoute_other (s : State) {c d : Channel} (h : d ≠ c) : (s.startRoute c).route d = s.route d :=
  (State.putRoute_other _ _ h).trans (State.putRoute_other s _ h)

theorem State.startRoutes_follow (l : List Channel) (s : State) (c : Channel)
    (h : c ∈ l ∨ (s.route c).follows (s.routeCfg c)) :
    ((l.foldl State.startRoute s).route c).follows (s.routeCfg c) := by
  induction l generalizing s with
  | nil => exact h.resolve_left nofun
  | cons d l ih =>
    refine ih (s.startRoute d) ?_
    by_cases e : c = d
    · subst e
      exact .inr (s.startRoute_follows c)
    · rw [State.startRoute_other s e]
      exact h.imp_left fun m => (List.mem_cons.1 m).resolve_left e

theorem State.startRoutes_filter (l : List Channel) (s : State) (p : Pin) :
    (l.foldl State.startRoute s).filter p = s.filter p := by
  induction l generalizing s with
  | nil => rfl
  | cons c l ih => exact (ih _).trans (by cases p <;> rfl)

theorem State.coldStart_presence (s : State) : PresenceFollows s.coldStart := by
  intro i
  have level : (s.coldStart.filter (.presence i)).filtered = false := by
    simp [State.coldStart, State.filter, Pins.cold, Filter.restart, Filter.cold]
  have slot : (s.coldStart.slot i).present = false ∧ (s.coldStart.slot i).state = .empty := by
    simp [State.coldStart, State.slot, Slot.cold]
  exact ⟨slot.1.trans level.symm, iff_of_true slot.2 slot.1⟩

/-- The blocks at a start-up whose start-up state is fixed (R192's table). -/
theorem State.coldStart_blocks (s : State) :
    s.coldStart.pending = s.pending ∧ s.coldStart.notices = NoticeUnit.cold ∧ s.coldStart.trace = [] ∧
      s.coldStart.requests = RequestUnit.cold ∧ s.coldStart.meters = Vector.replicate 12 Meter.cold ∧
      s.coldStart.nvm.queue = [] :=
  ⟨rfl, rfl, rfl, rfl, rfl, rfl⟩

namespace InvariantsKept

variable {s t : State}

theorem startWrites (h : InvariantsKept s t) : InvariantsKept s t.startWrites :=
  foldl (fun u _ => (refl u).queueWrite) _ h.queueWrite

theorem raiseStore (h : InvariantsKept s t) {e : StoreEvent} {r : Option RecordName} :
    InvariantsKept s (t.raiseStore e r) :=
  h.raise

theorem startNotices (h : InvariantsKept s t) : InvariantsKept s t.startNotices := by
  have reported (u : State) (x : RecordName × ReadResult) : InvariantsKept u (u.reportRecord x) := by
    obtain ⟨record, result⟩ := x
    cases result with
    | good => exact refl u
    | blank => exact refl u
    | corrected => exact (refl u).raiseStore
    | uncorrectable => exact (refl u).raiseStore
  have unclean : InvariantsKept s (if t.nvm.clean then t else t.raiseStore .uncleanStart none) :=
    ite (fun _ => h) fun _ => h.raiseStore
  have evicted (u : State) (x : EntryNo × HistoryEntry) : InvariantsKept u (u.reportEviction x) := (refl u).raise
  unfold State.startNotices
  exact judgeWaste (foldl evicted _ (foldl reported _ unclean))

end InvariantsKept

theorem InvariantsKept.startInput {s t : State} (h : InvariantsKept s t) {p : Pin} :
    InvariantsKept s (t.startInput p) :=
  ite (fun _ => h.startFilter) fun _ => h

/-- R50, R192: once the routes are set up, every invariant holds, where the others held before. -/
theorem State.startRoutes_kept {s t : State} (pending : t.pending = s.pending) (queues : QueuesBounded t)
    (distinct : NoticesDistinct t) (meters : MetersInRange t) (presence : PresenceFollows t)
    (writer : WriterOrderly t) : InvariantsKept s (channels.foldl State.startRoute t) := by
  have follow := fun c => State.startRoutes_follow channels t c (.inl (List.mem_finRange c))
  have filters := fun i => State.startRoutes_filter channels t (.presence i)
  have frame : keepsBut [.routes, .pins] t (channels.foldl State.startRoute t) := by simp
  generalize channels.foldl State.startRoute t = u at follow filters frame ⊢
  rw [keepsBut_iff] at frame
  simp only [List.mem_cons, List.not_mem_nil, reduceCtorEq, or_false, false_or, or_self, true_or, or_true,
    true_and] at frame
  obtain ⟨same_pending, -, -, -, settings, slots, -, -, same_meters, -, -, trace, -, -, requests, notices, -, -, -,
    nvm⟩ := frame
  refine .of_holds (same_pending.trans pending) ⟨?_, ?_, ?_⟩ ?_ ?_ (fun c => ?_) (fun i => ?_) ?_
  · rw [notices]; exact queues.1
  · rw [trace]; exact queues.2.1
  · rw [requests]; exact queues.2.2
  · rw [noticesDistinct_iff, notices]; exact distinct
  · unfold MetersInRange State.meter; rw [same_meters]; exact meters
  · have cfg : u.routeCfg c = t.routeCfg c := by simp only [State.routeCfg, settings]
    rw [cfg]; exact follow c
  · have slot : u.slot i = t.slot i := by simp only [State.slot, slots]
    rw [slot, filters]; exact presence i
  · rw [writerOrderly_iff, nvm]; exact writer

/-- R192: the invariants but for the routes, which are not set up yet, hold of the blocks' start-up states. -/
theorem State.coldStart_holds (s : State) :
    QueuesBounded s.coldStart ∧ NoticesDistinct s.coldStart ∧ MetersInRange s.coldStart ∧
      PresenceFollows s.coldStart ∧ WriterOrderly s.coldStart := by
  obtain ⟨-, notices, trace, requests, meters, queue⟩ := s.coldStart_blocks
  refine ⟨⟨?_, ?_, ?_⟩, ?_, fun c => ?_, s.coldStart_presence, ?_, fun nonempty => absurd queue nonempty⟩
  · rw [notices]; decide
  · rw [trace]; decide
  · rw [requests]; decide
  · rw [noticesDistinct_iff, notices]; exact List.nodup_nil
  · simp [State.meter, meters, Meter.cold]
  · rw [queue]; exact List.nodup_nil

/-- R192: whatever the part held, a start-up leaves a state of which every invariant holds. -/
theorem State.startUp_kept {s t : State} (pending : t.pending = s.pending) : InvariantsKept s t.startUp := by
  have k := (InvariantsKept.refl t.coldStart).startWrites.startNotices
  obtain ⟨queues, distinct, meters, presence, writer⟩ := t.coldStart_holds
  have started := State.startRoutes_kept (k.pending.trans (t.coldStart_blocks.1.trans pending))
    ⟨k.queue queues.1, k.trace queues.2.1, k.places queues.2.2⟩
    (k.distinct distinct) (k.meters meters) (k.presence presence) (k.writer writer)
  exact .foldl (fun v _ => (InvariantsKept.refl v).startInput) _
    (.foldl (fun v _ => (InvariantsKept.refl v).judgeRoute) _ started)

end Sys2Proof.Machine

namespace Sys2Proof.Machine

/-! ### Requests -/

/-- The parts that the meaning of a request may change but for Unlock Service and Lock Service: all but the Request
Unit. -/
def carriedBlocks : List Block :=
  [.time, .draws, .settings, .slots, .lines, .sense, .meters, .heads, .waste, .routes, .trace, .digest, .history,
    .notices, .link, .forward, .returns, .pins, .nvm]

/-- The answer of a request keeps the invariants, and takes no place of the reply list. -/
structure AnswerKept (s : State) (a : Answer) : Prop where
  kept : InvariantsKept s a.state
  places : a.state.requests.placesInUse = s.requests.placesInUse

namespace AnswerKept

variable {s t : State}

theorem refuse (o : ReplyOutcome) : AnswerKept s (refuse s o) := ⟨.refl s, rfl⟩

theorem done (h : InvariantsKept s t) (k : keepsBut carriedBlocks s t) (contents : List Byte) :
    AnswerKept s (done t contents) :=
  ⟨h, congrArg RequestUnit.placesInUse (k.2.2 .requests (by decide))⟩

theorem ite {p : Prop} [Decidable p] {a b : Answer} (h : p → AnswerKept s a) (k : ¬p → AnswerKept s b) :
    AnswerKept s (if p then a else b) := by
  split
  · exact h ‹_›
  · exact k ‹_›

theorem sized {fields : List Byte} {n : Nat} {a : Answer} (h : AnswerKept s a) : AnswerKept s (sized s fields n a) :=
  ite (fun _ => h) fun _ => refuse _

theorem needsService {a : Answer} (h : AnswerKept s a) : AnswerKept s (needsService s a) := by
  unfold Machine.needsService
  split
  · exact refuse _
  · exact h

theorem onChannel {fields : List Byte} {k : Channel → Answer} (h : ∀ c, AnswerKept s (k c)) :
    AnswerKept s (onChannel s fields k) := by
  refine sized ?_
  split
  · exact refuse _
  · exact h _

theorem onSlot {fields : List Byte} {k : SlotNo → Answer} (h : ∀ i, AnswerKept s (k i)) :
    AnswerKept s (onSlot s fields k) := by
  unfold Machine.onSlot
  split
  · exact refuse _
  · exact h _

theorem same (contents : List Byte) : AnswerKept s (Machine.done s contents) := ⟨.refl s, rfl⟩

theorem readHistory (fields : List Byte) (s : State) : AnswerKept s (readHistory fields s) :=
  sized (ite (fun _ => refuse _) fun _ => same _)

theorem clearHistoryEntry (fields : List Byte) (s : State) : AnswerKept s (clearHistoryEntry fields s) := by
  refine sized (needsService ?_)
  split
  · exact refuse _
  · split
    · exact refuse _
    · exact done (InvariantsKept.refl s).putEntry.forgetIndex.queueEntry (by simp [carriedBlocks]) _

theorem holdChannel (fields : List Byte) (s : State) : AnswerKept s (holdChannel fields s) :=
  onChannel fun _ => done (InvariantsKept.refl s).putHold (by simp [carriedBlocks]) _

theorem releaseChannel (fields : List Byte) (s : State) : AnswerKept s (releaseChannel fields s) :=
  onChannel fun _ => done (InvariantsKept.refl s).putHold (by simp [carriedBlocks]) _

theorem setRoute (fields : List Byte) (s : State) : AnswerKept s (setRoute fields s) := by
  refine sized ?_
  split
  · exact refuse _
  · exact done (InvariantsKept.refl s).configureRoute (by simp [carriedBlocks]) _

theorem readTrace (fields : List Byte) (s : State) : AnswerKept s (readTrace fields s) := sized (same _)

theorem clearTrace (fields : List Byte) (s : State) : AnswerKept s (clearTrace fields s) :=
  sized (done ((InvariantsKept.refl s).replaceTrace [] fun _ => Nat.zero_le _) (by simp [carriedBlocks]) _)

theorem rescanSlot (fields : List Byte) (s : State) : AnswerKept s (rescanSlot fields s) :=
  sized (onSlot fun _ => ite (fun _ => refuse _) fun occupied =>
    done ((InvariantsKept.refl s).rescan occupied) (by simp [carriedBlocks]) _)

theorem setWatch (fields : List Byte) (s : State) : AnswerKept s (setWatch fields s) := by
  refine sized ?_
  split
  · exact refuse _
  · exact done (InvariantsKept.refl s).configureWatch (by simp [carriedBlocks]) _

theorem grantGrace (fields : List Byte) (s : State) : AnswerKept s (grantGrace fields s) := by
  refine sized (needsService (onSlot fun i => ?_))
  dsimp only
  split
  next =>
    have granted : InvariantsKept s
        (s.putSlot i { s.slot i with grace := satAdd 2000000 (s.slot i).grace (graceAmount fields) }) :=
      (InvariantsKept.refl s).putSlot i _ rfl Iff.rfl
    exact done granted (by simp [carriedBlocks]) _
  next spent =>
    have moved : InvariantsKept s
        (s.moveSlot i { s.slot i with state := .grace, grace := graceAmount fields } none) :=
      (InvariantsKept.refl s).moveSlot rfl (by rw [spent]; nofun) nofun
    exact done moved (by simp [carriedBlocks]) _
  next => exact refuse _

theorem readSlot (fields : List Byte) (s : State) : AnswerKept s (readSlot fields s) :=
  sized (onSlot fun _ => same _)

theorem readChannel (fields : List Byte) (s : State) : AnswerKept s (readChannel fields s) := onChannel fun _ => same _

theorem getUnlockNonce (fields : List Byte) (s : State) : AnswerKept s (getUnlockNonce fields s) :=
  sized (ite (fun _ => refuse _) fun _ => ⟨(InvariantsKept.refl s).drawn.replaceRequests _ id, rfl⟩)

theorem endService_places (s : State) : s.endService.requests.placesInUse = s.requests.placesInUse := by
  unfold State.endService
  dsimp only
  split
  · exact InvariantsKept.withdrawn_places s.requests
  · exact InvariantsKept.withdrawn_places s.requests

theorem lockService (fields : List Byte) (s : State) : AnswerKept s (lockService fields s) :=
  sized ⟨(InvariantsKept.refl s).endService, endService_places s⟩

theorem programKey {t : State} (h : InvariantsKept s t) {key : Key} : InvariantsKept s (t.programKey key) :=
  (h.replaceNvm { t.nvm with identity := { t.nvm.identity with key := key, programmed := true } } id).queueWrite

theorem programRootKey (fields : List Byte) (s : State) : AnswerKept s (programRootKey fields s) :=
  sized (ite (fun _ => refuse _) fun _ =>
    done (programKey (.refl s)) (by simp [carriedBlocks]) _)

theorem loadVolumeTable (fields : List Byte) (s : State) : AnswerKept s (loadVolumeTable fields s) := by
  refine sized ?_
  split
  · exact refuse _
  · rename_i name _
    refine ite (fun _ => refuse _) fun _ => ite (fun _ => refuse _) fun _ => ite (fun _ => refuse _) fun _ =>
      ite (fun _ => refuse _) fun _ => done ((InvariantsKept.refl s).settings _ ?_) (by simp [carriedBlocks]) _
    cases name <;> rfl

theorem selectVolumeBank (fields : List Byte) (s : State) : AnswerKept s (selectVolumeBank fields s) := by
  refine sized ?_
  split
  · exact refuse _
  · rename_i name _
    have placed : InvariantsKept s { s with settings := { s.settings with active := name } } :=
      (InvariantsKept.refl s).settings _ rfl
    exact done placed (by simp [carriedBlocks]) _

theorem loadTemperatureTable (fields : List Byte) (s : State) : AnswerKept s (loadTemperatureTable fields s) :=
  sized (done (InvariantsKept.refl s).loadTemperature (by simp [carriedBlocks]) _)

theorem resetWaste (fields : List Byte) (s : State) : AnswerKept s (resetWaste fields s) :=
  sized (needsService (done (InvariantsKept.refl s).zeroWaste (by simp [carriedBlocks]) _))

theorem readLink (fields : List Byte) (s : State) : AnswerKept s (readLink fields s) := sized (same _)

theorem setPins (fields : List Byte) (s : State) : AnswerKept s (setPins fields s) := by
  refine sized ?_
  split
  · exact refuse _
  · exact done (InvariantsKept.refl s).replacePins (by simp [carriedBlocks]) _

theorem readPins (fields : List Byte) (s : State) : AnswerKept s (readPins fields s) :=
  sized (done (InvariantsKept.refl s).clearChanged (by simp [carriedBlocks]) _)

theorem saveSettings (fields : List Byte) (s : State) : AnswerKept s (saveSettings fields s) :=
  sized (done (InvariantsKept.refl s).queueWrite (by simp [carriedBlocks]) _)

theorem restart (fields : List Byte) (s : State) : AnswerKept s (restart fields s) := by
  refine sized ?_
  split
  · exact done (InvariantsKept.refl s).beginSave (by simp [carriedBlocks]) _
  · exact refuse _

theorem readPart (fields : List Byte) (s : State) : AnswerKept s (readPart fields s) := sized (same _)

theorem readStatus (fields : List Byte) (s : State) : AnswerKept s (readStatus fields s) :=
  sized (done ((InvariantsKept.refl s).notices s.notices.clearLatched id id) (by simp [carriedBlocks]) _)

theorem setNoticeMask (fields : List Byte) (s : State) : AnswerKept s (setNoticeMask fields s) := by
  refine sized ?_
  split
  · have placed (mask : Vector Bool 14) : InvariantsKept s { s with settings := { s.settings with mask := mask } } :=
      (InvariantsKept.refl s).settings _ rfl
    exact ite (fun _ => refuse _) fun _ => done (placed _) (by simp [carriedBlocks]) _
  · exact refuse _

theorem setPolicy (fields : List Byte) (s : State) : AnswerKept s (setPolicy fields s) := by
  refine sized (needsService ?_)
  split
  · exact refuse _
  · rename_i p _
    have placed : InvariantsKept s { s with settings := { s.settings with policy := p } } :=
      (InvariantsKept.refl s).settings _ rfl
    have judged := InvariantsKept.foldl (fun u i => (InvariantsKept.refl u).judgeFitness (before := s) (i := i)) slotNos
      placed
    exact done judged.judgeWaste (by simp [carriedBlocks]) _

end AnswerKept

namespace InvariantsKept

variable {s t : State}

theorem addReply (h : InvariantsKept s t) {r : Reply} (room : t.requests.placesInUse < 16) :
    InvariantsKept s (t.addReply r) := by
  refine h.replaceRequests _ fun _ => ?_
  unfold RequestUnit.placesInUse at *
  dsimp only
  rw [List.length_append, List.length_singleton]
  omega

theorem takeRequest {tag code : Byte} {fields : List Byte} {k : State → Answer} (hk : ∀ u, AnswerKept u (k u)) (s : State) :
    InvariantsKept s (s.takeRequest tag code fields k) := by
  have arrived := (refl s).requestArrives (fields := fields)
  refine ite (fun room => ?_) fun _ => arrived.turnAway
  have answered := hk (s.requestArrives fields)
  exact (arrived.trans answered.kept).addReply (by rw [answered.places]; exact room)

theorem takeUnlockService (tag : Byte) (fields : List Byte) (s : State) :
    InvariantsKept s (s.takeUnlockService tag fields) := by
  have arrived := (refl s).requestArrives (fields := fields)
  refine ite (fun room => ?_) fun _ => arrived.turnAway
  refine ite (fun _ => arrived.addReply room) fun _ => ?_
  split
  · exact arrived.addReply room
  · refine arrived.digestRequest.replaceRequests _ fun _ => ?_
    unfold RequestUnit.placesInUse at *
    simp only [Option.isSome_some, if_true]
    change (s.requestArrives fields).requests.replies.length + 1 ≤ 16
    omega

/-! ### The Digest Engine's deliveries -/

theorem answerUnlock {a : Attempt} {r : UnlockResult} {e : UnlockEvent} (h : InvariantsKept s t)
    (room : t.requests.placesInUse < 16) : InvariantsKept s (t.answerUnlock a r e) :=
  (h.addReply room).raiseUnlock

theorem judgeUnlock (h : InvariantsKept s t) {a : Attempt} {good : Bool} (attempt : t.requests.attempt = some a) :
    InvariantsKept s (t.judgeUnlock a good) := by
  have freed (x : RequestUnit) (replies : x.replies = t.requests.replies) (none : x.attempt = none)
      (r : UnlockResult) (e : UnlockEvent) :
      InvariantsKept s (State.answerUnlock { t with requests := x } a r e) := by
    have places : x.placesInUse + 1 = t.requests.placesInUse := by
      simp [RequestUnit.placesInUse, replies, none, attempt]
    refine h.trans { pending := rfl, queue := ?_, distinct := ?_, trace := id, places := fun k => ?_, meters := id, routes := id,
                     presence := id, writer := id }
    · exact ((refl { t with requests := x }).raise (k := .unlock)).queue
    · exact ((refl { t with requests := x }).raise (k := .unlock)).distinct
    · change (x.replies ++ [_]).length + (if x.attempt.isSome then 1 else 0) ≤ 16
      unfold RequestUnit.placesInUse at places k
      rw [List.length_append, List.length_singleton]
      omega
  unfold State.judgeUnlock
  dsimp only
  repeat' refine ite (fun _ => ?_) fun _ => ?_
  all_goals exact freed { t.requests with attempt := none, access := _, failedUnlocks := _, lockout := _ } rfl rfl _ _

theorem deliver (h : InvariantsKept s t) {p : Pass} : InvariantsKept s (t.deliver p) := by
  have occupied {i : SlotNo} (takes : t.takesChallenge i p = true) : (t.slot i).state ≠ .empty := by
    simp only [State.takesChallenge, Bool.and_eq_true, decide_eq_true_eq] at takes
    rw [takes.2]
    nofun
  unfold State.deliver
  split
  · unfold State.unlockDelivered
    split
    · exact h
    · exact h.judgeUnlock ‹_›
  · exact ite (fun _ => h.deriveDelivered) fun _ => h
  · exact ite (fun takes => h.expectDelivered (occupied takes)) fun _ => h
  · exact ite (fun _ => h.quiet (by simp [quietBlocks])) fun _ => h
  · exact h

theorem passCompletes (h : InvariantsKept s t) : InvariantsKept s t.passCompletes := by
  unfold State.passCompletes
  split
  · exact h
  · rename_i p _
    exact (h.deliver (p := p)).quiet (by simp [quietBlocks])

theorem lockoutExpires (h : InvariantsKept s t) : InvariantsKept s t.lockoutExpires := by
  unfold State.lockoutExpires
  split
  · exact h
  · exact raiseUnlock (h.reach.replaceRequests { (t.reach _).requests with lockout := none, failedUnlocks := 0 } id)

/-! ### The end of the save, power, and the return lane -/

theorem writeNext (h : InvariantsKept s t) (x : Nvm) (queue : x.queue = t.nvm.queue) :
    InvariantsKept s (State.writeNext { t with nvm := x }) :=
  h.replaceNvm _ fun k => Nvm.begin_orderly x (by rw [queue]; exact k.1)

theorem writeCompletes (h : InvariantsKept s t) : InvariantsKept s t.writeCompletes := by
  unfold State.writeCompletes
  split
  · exact h
  · rename_i w _ _
    refine ite (fun _ => ?_) fun _ => h.writeNext _ rfl
    refine ite (fun _ => h.writeNext _ rfl) fun _ => ite (fun _ => h.writeNext _ rfl) fun _ => ?_
    exact State.startUp_kept h.pending

theorem putGrant (h : InvariantsKept s t) {g : Grant} : InvariantsKept s (t.putGrant g) :=
  h.quiet (by simp [quietBlocks])

theorem noticeSent (h : InvariantsKept s t) : InvariantsKept s { t with notices := t.notices.sent } := by
  refine h.notices _ (fun k => ?_) fun k => ?_
  · unfold NoticeUnit.sent
    split
    next n ns m queue _ => rw [queue] at k; exact k
    next => exact (List.length_drop ..).trans_le (by omega)
  · unfold NoticeUnit.sent
    split
    next n ns m queue _ => rw [queue] at k; exact k
    next => exact List.Nodup.sublist (List.Sublist.map _ (List.drop_sublist 1 _)) k

theorem finishGrant (h : InvariantsKept s t) : InvariantsKept s t.finishGrant := by
  unfold State.finishGrant
  split
  · exact h
  · exact h.quiet (by simp [quietBlocks])
  · refine h.replaceRequests _ fun k => ?_
    unfold RequestUnit.placesInUse at *
    rw [List.length_drop]
    dsimp only
    omega
  · exact h.noticeSent

theorem chooseGrant (h : InvariantsKept s t) : InvariantsKept s t.chooseGrant := by
  unfold State.chooseGrant
  split
  · exact h.putGrant
  · exact h.putGrant
  · exact (h.notices { t.notices with merged := some 0 } id id).putGrant
  · exact h.putGrant

theorem returnEnds (h : InvariantsKept s t) : InvariantsKept s t.returnEnds :=
  ite (fun _ => h) fun _ => ite (fun _ => State.startUp_kept h.finishGrant.pending) fun _ => h.finishGrant.chooseGrant

theorem powersOn (h : InvariantsKept s t) {errors : List (RecordName × BitErrors)} :
    InvariantsKept s (t.powersOn errors) :=
  ite (fun _ => h) fun _ => State.startUp_kept h.pending

/-- R185, R192: a part without power holds nothing that an invariant speaks of but the pins. -/
theorem losesPower (h : InvariantsKept s t) {torn : Torn} : InvariantsKept s (t.losesPower torn) := by
  refine of_holds h.pending ⟨Nat.zero_le _, Nat.zero_le _, Nat.zero_le _⟩ List.nodup_nil (fun c => ?_) (fun c => ?_)
    (fun i => ?_) ⟨List.nodup_nil, fun nonempty => absurd rfl nonempty⟩
  · simp [State.losesPower, State.meter, State.manufactured, Meter.cold]
  · simp [State.losesPower, State.route, State.routeCfg, State.manufactured, Route.unrouted, Settings.reset,
      RouteCfg.reset]
  · simp [State.losesPower, State.slot, State.manufactured, Slot.cold, State.filter, Pins.cold, Filter.restart,
      Filter.cold]

theorem filterExpires (h : InvariantsKept s t) {p : Pin} {a : List Byte} : InvariantsKept s (t.filterExpires p a) := by
  unfold State.filterExpires
  split
  · exact h
  · unfold State.filterChanges
    split
    · have settled (e : Time) (f : Filter) : InvariantsKept s ((t.reach e).putFilter .powerFail f) :=
        h.reach.putOtherFilter .powerFail f nofun
      unfold State.powerFailChanges
      split
      · split
        · exact (settled _ _).beginSave
        · exact settled _ _
      · split
        · exact State.startUp_kept (settled _ _).pending
        · exact settled _ _
    · exact h.reach.inputChanges

theorem putRaw (h : InvariantsKept s t) {p : Pin} {b : Bool} : InvariantsKept s (t.putRaw p b) := h.putFilter p _ rfl

theorem rawChanges (h : InvariantsKept s t) {p : Pin} {b : Bool} : InvariantsKept s (t.rawChanges p b) :=
  ite (fun _ => h) fun _ => ite (fun _ => h.putRaw.putFilter p _ rfl) fun _ => h.putRaw.startFilter

end InvariantsKept

/-! ### Every step -/

/-- A command of a powered part keeps the invariants, when what it does keeps them; without power nothing changes. -/
theorem whenPowered_kept {s t : State} {f : State → State} (hf : InvariantsKept s (f s))
    (h : whenPowered s f = .next t) : InvariantsKept s t := by
  unfold whenPowered at h
  cases h
  exact .ite (fun _ => hf) fun _ => .refl s

theorem request_kept {s t : State} {tag code : Byte} {fields : List Byte} {k : State → Answer}
    (hk : ∀ u, AnswerKept u (k u)) (h : whenPowered s (fun s => s.takeRequest tag code fields k) = .next t) :
    InvariantsKept s t :=
  whenPowered_kept (.takeRequest hk s) h

/-- Every command keeps the invariants. -/
theorem InvariantsKept.of_exec {i : Instr} {s t : State} (h : exec i s = .next t) : InvariantsKept s t := by
  cases i with
  | readPart _ fields => exact request_kept (AnswerKept.readPart fields) h
  | readStatus _ fields => exact request_kept (AnswerKept.readStatus fields) h
  | setNoticeMask _ fields => exact request_kept (AnswerKept.setNoticeMask fields) h
  | readChannel _ fields => exact request_kept (AnswerKept.readChannel fields) h
  | setRoute _ fields => exact request_kept (AnswerKept.setRoute fields) h
  | holdChannel _ fields => exact request_kept (AnswerKept.holdChannel fields) h
  | releaseChannel _ fields => exact request_kept (AnswerKept.releaseChannel fields) h
  | readSlot _ fields => exact request_kept (AnswerKept.readSlot fields) h
  | rescanSlot _ fields => exact request_kept (AnswerKept.rescanSlot fields) h
  | setWatch _ fields => exact request_kept (AnswerKept.setWatch fields) h
  | loadVolumeTable _ fields => exact request_kept (AnswerKept.loadVolumeTable fields) h
  | selectVolumeBank _ fields => exact request_kept (AnswerKept.selectVolumeBank fields) h
  | loadTemperatureTable _ fields => exact request_kept (AnswerKept.loadTemperatureTable fields) h
  | readLink _ fields => exact request_kept (AnswerKept.readLink fields) h
  | readPins _ fields => exact request_kept (AnswerKept.readPins fields) h
  | setPins _ fields => exact request_kept (AnswerKept.setPins fields) h
  | readHistory _ fields => exact request_kept (AnswerKept.readHistory fields) h
  | readTrace _ fields => exact request_kept (AnswerKept.readTrace fields) h
  | clearTrace _ fields => exact request_kept (AnswerKept.clearTrace fields) h
  | setPolicy _ fields => exact request_kept (AnswerKept.setPolicy fields) h
  | grantGrace _ fields => exact request_kept (AnswerKept.grantGrace fields) h
  | clearHistoryEntry _ fields => exact request_kept (AnswerKept.clearHistoryEntry fields) h
  | resetWaste _ fields => exact request_kept (AnswerKept.resetWaste fields) h
  | getUnlockNonce _ fields => exact request_kept (AnswerKept.getUnlockNonce fields) h
  | unlockService tag fields => exact whenPowered_kept (f := fun u => u.takeUnlockService tag fields) (takeUnlockService tag fields s) h
  | lockService _ fields => exact request_kept (AnswerKept.lockService fields) h
  | programRootKey _ fields => exact request_kept (AnswerKept.programRootKey fields) h
  | saveSettings _ fields => exact request_kept (AnswerKept.saveSettings fields) h
  | restart _ fields => exact request_kept (AnswerKept.restart fields) h
  | unknownRequest _ _ _ => exact request_kept (fun _ => AnswerKept.refuse _) h
  | mgmtCheckFailed _ => exact whenPowered_kept (f := fun u => u.mgmtFails _ _) (refl s).mgmtFails h
  | mgmtWithoutTag _ => exact whenPowered_kept (f := fun u => u.mgmtTagless _) ((refl s).packetArrives.countCheck (b := true)) h
  | headPacketEnd _ _ => exact whenPowered_kept (f := fun u => u.headEnds _ _) (refl s).headEnds h
  | fillSymbolReceived => exact whenPowered_kept (f := fun u => u.symbolArrives _ _) (refl s).symbolArrives h
  | unknownKindPacketEnd _ => exact whenPowered_kept (f := fun u => u.framingFault _) (refl s).packetArrives.countFailure h
  | oversizePacketEnd _ => exact whenPowered_kept (f := fun u => u.framingFault _) (refl s).packetArrives.countFailure h
  | packetCut _ _ => exact whenPowered_kept (f := fun u => u.symbolArrives _ _) (refl s).symbolArrives h
  | lineHeader _ _ _ _ _ => exact whenPowered_kept (f := fun u => u.headerCompletes _) (refl s).headerCompletes h
  | refusedLineEnd _ _ => exact whenPowered_kept (f := fun u => u.refusedEnds _ _) (refl s).refusedEnds h
  | lineUpstreamEnd _ _ => exact whenPowered_kept (f := fun u => u.upstreamEnds _ _) (refl s).upstreamEnds h
  | lineEnd => exact whenPowered_kept (f := State.lineSent) (refl s).lineSent h
  | linkLost _ => exact whenPowered_kept (f := fun u => u.linkExpires _) (refl s).linkExpires h
  | headretStart _ _ => exact whenPowered_kept (f := fun u => u.returnStarts _ _) (refl s).returnStarts h
  | headretCut _ => exact whenPowered_kept (f := fun u => u.cutReturn _) (refl s).cutReturn h
  | headretEnd _ _ => exact whenPowered_kept (f := fun u => u.returnArrives _ _) (refl s).returnArrives h
  | staleTimerExpiry _ => exact whenPowered_kept (f := fun u => u.staleExpires _) (refl s).staleExpires h
  | returnPacketEnd => exact whenPowered_kept (f := State.returnEnds) (refl s).returnEnds h
  | gradeTimerExpiry _ => exact whenPowered_kept (f := fun u => u.gradeExpires _) (refl s).gradeExpires h
  | switchTimerExpiry _ => exact whenPowered_kept (f := fun u => u.switchExpires _) (refl s).switchExpires h
  | revertTimerExpiry _ => exact whenPowered_kept (f := fun u => u.revertExpires _) (refl s).revertExpires h
  | pinRawChange _ _ =>
    cases h
    exact ite (fun _ => (refl s).rawChanges) fun _ => (refl s).putRaw
  | filterTimerExpiry _ => exact whenPowered_kept (f := fun u => u.filterExpires _ _) (refl s).filterExpires h
  | breakEnd _ => exact whenPowered_kept (f := fun u => u.breakEnds _) ((refl s).quiet (by simp [quietBlocks])) h
  | requestSent _ => exact whenPowered_kept (f := fun u => u.requestEnds _) ((refl s).quiet (by simp [quietBlocks])) h
  | responseTimeout _ => exact whenPowered_kept (f := fun u => u.responseExpires _) ((refl s).quiet (by simp [quietBlocks])) h
  | replyComplete _ => exact whenPowered_kept (f := fun u => u.replyEnds _) ((refl s).quiet (by simp [quietBlocks])) h
  | gapTimeout _ => exact whenPowered_kept (f := fun u => u.gapExpires _) ((refl s).quiet (by simp [quietBlocks])) h
  | turnaroundEnd _ => exact whenPowered_kept (f := fun u => u.turnaroundEnds _) (refl s).turnaroundEnds h
  | digestPassComplete => exact whenPowered_kept (f := State.passCompletes) (refl s).passCompletes h
  | lockoutTimerExpiry => exact whenPowered_kept (f := State.lockoutExpires) (refl s).lockoutExpires h
  | recordWriteComplete => exact whenPowered_kept (f := State.writeCompletes) (refl s).writeCompletes h
  | powerOn _ => cases h; exact (refl s).powersOn
  | startSymbolReceived => exact whenPowered_kept (f := fun u => u.symbolArrives _ _) (refl s).symbolArrives h
  | replyByteReceived _ _ _ _ => exact whenPowered_kept (f := fun u => u.byteReceived _ _ _ _) ((refl s).quiet (by simp [quietBlocks])) h
  | powerLoss _ => exact whenPowered_kept (f := fun u => u.losesPower _) (refl s).losesPower h

/-- Every step keeps the invariants but for the command that it takes from the queue. -/
theorem step_kept {s t : State} (h : step s = .next t) : ∃ rest, InvariantsKept { s with pending := rest } t := by
  unfold step at h
  split at h
  · cases h
    exact ⟨s.pending, .ite (fun _ => (InvariantsKept.refl s).waits) fun _ => .refl s⟩
  · exact ⟨_, InvariantsKept.of_exec h⟩

/-- Settles O5: the sizes, kept by every command. -/
theorem stepKeepsQueuesBounded : Obligations.StepKeepsQueuesBounded := by
  intro s t ⟨queue, trace, places⟩ h
  obtain ⟨rest, kept⟩ := step_kept h
  exact ⟨kept.queue queue, kept.trace trace, kept.places places⟩

/-- Settles O6: a merge keeps the keys, and an entry is appended only when its key is new. -/
theorem stepKeepsNoticesDistinct : Obligations.StepKeepsNoticesDistinct := by
  intro s t holds h
  obtain ⟨rest, kept⟩ := step_kept h
  exact kept.distinct holds

/-- Settles O7: the accumulators are remainders, and the run saturates. -/
theorem stepKeepsMetersInRange : Obligations.StepKeepsMetersInRange := by
  intro s t holds h
  obtain ⟨rest, kept⟩ := step_kept h
  exact kept.meters holds

/-- Settles O8: a routed channel moves between its two slots, and Set Route and start-up set the rest. -/
theorem stepKeepsRoutesConsistent : Obligations.StepKeepsRoutesConsistent := by
  intro s t holds h
  obtain ⟨rest, kept⟩ := step_kept h
  exact kept.routes holds

/-- Settles O9: only a PRESENCE input seats or vacates a slot. -/
theorem stepKeepsPresenceFollows : Obligations.StepKeepsPresenceFollows := by
  intro s t holds h
  obtain ⟨rest, kept⟩ := step_kept h
  exact kept.presence holds

/-- Settles O10: a write replaces the pending one of its record, and the free writer takes the oldest. -/
theorem stepKeepsWriterOrderly : Obligations.StepKeepsWriterOrderly := by
  intro s t holds h
  obtain ⟨rest, kept⟩ := step_kept h
  exact kept.writer holds

/-- Settles O3: every arm of the dispatch answers a next state, and keeps the queue. -/
theorem everyCommandAnswers : Obligations.EveryCommandAnswers := by
  refine ⟨fun i s => ?_, fun s dark => ⟨fun i on raw => ?_, fun p a => ?_⟩⟩
  · have answers : ∃ t, exec i s = .next t := by cases i <;> exact ⟨_, rfl⟩
    obtain ⟨t, h⟩ := answers
    exact ⟨t, h, (InvariantsKept.of_exec h).pending⟩
  · have off {u : State} : (.next (if s.powered then u else s) : Host.Outcome State Fault Refusal) = .next s := by
      simp [dark]
    cases i
    case powerOn e => exact absurd rfl (on e)
    case pinRawChange p a => exact absurd rfl (raw p a)
    all_goals exact off
  · change Host.Outcome.next (if s.powered then s.rawChanges p a else s.putRaw p a) = _
    rw [dark]
    rfl

end Sys2Proof.Machine

/-!
PROOFS. The step, reset, and the requests that read: what taking a request gives (8.1), and the reads and clears
of Read Part to Read History, Read Trace, Read Status and Read Pins.
-/

namespace Sys2Proof.Machine

open Sys2Proof

/-! ### The step -/

/-- Settles O1: the step takes the front command by its definition. -/
theorem stepRunsFrontCommand : Obligations.StepRunsFrontCommand := fun _ _ _ => rfl

theorem State.reach_of_ahead {s : State} {e : Time} (h : (e - s.time).toNat < 2147483648) :
    s.reach e = { s with time := e, forward := s.forward.send (symbolsIn (e - s.time).toNat) } := by
  rw [State.reach, State.ahead, if_pos (decide_eq_true h)]
  rfl

theorem State.reach_of_late {s : State} {e : Time} (h : 2147483648 ≤ (e - s.time).toNat) : s.reach e = s := by
  rw [State.reach, State.ahead, if_neg]
  simpa using h

/-- Settles O2: a step on an empty queue is a tick, and an expiry that lies ahead is waited for. -/
theorem emptyQueueLetsTimePass : Obligations.EmptyQueueLetsTimePass := by
  refine ⟨fun s idle => ?_, fun s e => ⟨State.reach_of_ahead, State.reach_of_late⟩⟩
  have ticks : step s = .next s.tick := by unfold step; rw [idle]
  exact ticks

/-! ### Reset -/

theorem manufactured_powersOn : State.manufactured.powersOn [] = State.reset := by
  decide +kernel

theorem reset_places :
    (∀ i : SlotNo, (State.reset.slot i).state = .empty ∧ (State.reset.slot i).tenure = 0 ∧
      (State.reset.slot i).unbacked = 0) ∧
    (∀ i : SlotNo, (State.reset.line i).state = .idle ∧ (State.reset.line i).lastFailure = none ∧
      State.reset.senseOf i = ⟨false, false⟩) := by
  decide +kernel

theorem reset_channels :
    (∀ c : Channel, State.reset.meter c = Meter.cold ∧ (State.reset.route c).state = .unrouted ∧
      (State.reset.route c).settleCount = 0 ∧ (State.reset.route c).hold = false) ∧
    ∀ h : HeadNo, (State.reset.head h).reading = none ∧ (State.reset.head h).staleTimer = none := by
  decide +kernel

theorem reset_filter (p : Pin) : State.reset.filter p = Filter.cold false := by
  cases p with
  | presence i => revert i; decide +kernel
  | level i => revert i; decide +kernel
  | aux n => revert n; decide +kernel
  | powerFail => rfl

/-- Settles O4: the start-up of the manufactured part is evaluated, and its blocks read off. -/
theorem resetIsTheFirstStartUp : Obligations.ResetIsTheFirstStartUp := by
  obtain ⟨slots, lines⟩ := reset_places
  obtain ⟨channels, heads⟩ := reset_channels
  refine ⟨congrArg Host.Outcome.next manufactured_powersOn, rfl, rfl, slots, channels, heads, rfl, rfl, lines, rfl, rfl, rfl, rfl, rfl, rfl, rfl, rfl, rfl,
    rfl, rfl, rfl, rfl, rfl, fun p => ?_, rfl, rfl⟩
  rw [reset_filter p]
  exact ⟨rfl, rfl⟩

theorem Meter.cold_inRange : Meter.cold.fine < 100000000 ∧ Meter.cold.remainder < 1024 ∧ Meter.cold.run ≤ 16 := by
  decide

theorem reset_routes (c : Channel) :
    State.reset.route c = Route.unrouted ∧ (State.reset.routeCfg c).ink = 0 ∧
      Route.unrouted.gate.noRoute = true ∧ Route.unrouted.gate.noSupply = true := by
  revert c; decide +kernel

theorem reset_presence (i : SlotNo) : (State.reset.slot i).present = false ∧ (State.reset.slot i).state = .empty := by
  revert i; decide +kernel

/-- Settles O11: every invariant is read off the blocks of reset. -/
theorem invariantsHoldAtReset : Obligations.InvariantsHoldAtReset := by
  refine ⟨by unfold QueuesBounded; decide +kernel, by unfold NoticesDistinct; decide +kernel, fun c => ?_, fun c => ?_,
    fun i => ?_, by unfold WriterOrderly; decide +kernel⟩
  · obtain ⟨channels, -⟩ := reset_channels
    rw [(channels c).1]
    exact Meter.cold_inRange
  · obtain ⟨route, ink, noRoute, noSupply⟩ := reset_routes c
    rw [route]
    exact ⟨.inl rfl, ⟨fun _ => .inl ink, fun _ => rfl⟩, fun _ => ⟨rfl, rfl, rfl, noRoute, noSupply⟩⟩
  · obtain ⟨present, state⟩ := reset_presence i
    rw [present, state, reset_filter]
    exact ⟨rfl, fun _ => rfl, fun _ => rfl⟩

/-! ### What a request leaves of the state -/

/-- The arrival of a request's packet leaves every block but the link, the forward buffer and the notices. -/
@[simp] theorem State.requestArrives_fields (s : State) (fields : List Byte) :
    (s.requestArrives fields).pending = s.pending ∧ (s.requestArrives fields).powered = s.powered ∧
    (s.requestArrives fields).time = s.time ∧ (s.requestArrives fields).draws = s.draws ∧
    (s.requestArrives fields).settings = s.settings ∧ (s.requestArrives fields).slots = s.slots ∧
    (s.requestArrives fields).lines = s.lines ∧ (s.requestArrives fields).sense = s.sense ∧
    (s.requestArrives fields).meters = s.meters ∧ (s.requestArrives fields).heads = s.heads ∧
    (s.requestArrives fields).waste = s.waste ∧ (s.requestArrives fields).routes = s.routes ∧
    (s.requestArrives fields).trace = s.trace ∧ (s.requestArrives fields).digest = s.digest ∧
    (s.requestArrives fields).history = s.history ∧ (s.requestArrives fields).requests = s.requests ∧
    (s.requestArrives fields).returns = s.returns ∧ (s.requestArrives fields).pins = s.pins ∧
    (s.requestArrives fields).nvm = s.nvm := by
  obtain ⟨l, f, n, e⟩ := requestArrives_cases s fields
  rw [e]
  simp

/-- A request taken with a place free, by the answer its meaning gives. -/
theorem takeRequest_done {s u : State} (h : takesRequests s) (tag code : Byte) (fields contents : List Byte)
    {k : State → Answer} (hk : k (s.requestArrives fields) = done u contents) :
    whenPowered s (fun s => s.takeRequest tag code fields k) = .next (u.addReply ⟨tag, code, .done, contents⟩) := by
  rw [takeRequest_next h, hk]
  rfl

theorem sized_eq {s : State} {fields : List Byte} {n : Nat} {k : Answer} (h : fields.length = n) :
    sized s fields n k = k := if_pos h

theorem sized_ne {s : State} {fields : List Byte} {n : Nat} {k : Answer} (h : fields.length ≠ n) :
    sized s fields n k = refuse s .badValue := if_neg h

theorem needsService_operate {s : State} {k : Answer} (h : s.requests.access = .operate) :
    needsService s k = refuse s .refusedLevel := by
  simp [needsService, h]

theorem needsService_service {s : State} {k : Answer} (h : s.requests.access = .service) :
    needsService s k = k := by
  simp [needsService, h]

/-- A count of at most 255 in one byte. -/
theorem u8_eq (v : Nat) : u8 v = [BitVec.ofNat 8 v] := by
  simp [u8, bigEndian]

/-! ### Reads -/

/-- Settles O16: Read Trace and Clear Trace carry no fields, and are answered from the trace. -/
theorem traceIsReadAndCleared : Obligations.TraceIsReadAndCleared := by
  intro tag s h
  constructor
  · refine (takeRequest_done h tag 0x12#8 [] _ (k := readTrace []) (sized_eq rfl)).trans ?_
    simp [u8_eq]
  · exact takeRequest_done h tag 0x13#8 [] [] (k := clearTrace []) (sized_eq rfl)

theorem History.count_eq (s : State) (test : HistoryEntry → Bool) :
    s.history.count test = ((List.finRange 64).filter fun m => (s.entry m).any test).length := rfl

theorem Option.any_true_eq_isSome {α : Type} (o : Option α) : (o.any fun _ => true) = o.isSome := by
  cases o <;> rfl

/-- The first field of one byte, where that byte is the number of a thing. -/
theorem fieldAt_number {n : Nat} (rest : List Byte) (h : n < 256) : fieldAt (BitVec.ofNat 8 n :: rest) 0 1 = n := by
  rw [fieldAt_one _ _ (by simp)]
  simpa using h

@[simp] theorem numberOf_val {n : Nat} (i : Fin n) : numberOf n i.val = some i := by
  simp [numberOf]

theorem onChannel_number (u : State) (c : Channel) (k : Channel → Answer) :
    onChannel u [BitVec.ofNat 8 c.val] k = k c := by
  rw [onChannel, sized_eq, fieldAt_number _ (by omega), numberOf_val]
  rfl

theorem onSlot_number (u : State) (i : SlotNo) (rest : List Byte) (k : SlotNo → Answer) :
    onSlot u (BitVec.ofNat 8 i.val :: rest) k = k i := by
  rw [onSlot, fieldAt_number _ (by omega), numberOf_val]

theorem readChannel_eq (c : Channel) (u : State) :
    readChannel [BitVec.ofNat 8 c.val] u = done u (u.routeBytes c ++ u.meterBytes c) := by
  rw [readChannel, onChannel_number]

theorem readSlot_eq (i : SlotNo) (u : State) :
    readSlot [BitVec.ofNat 8 i.val] u = done u (u.slotContents i) := by
  rw [readSlot, sized_eq, onSlot_number]
  rfl

/-- Settles O15: each of the five forms its contents from the state that the packet leaves, and returns that state. -/
theorem readRequestsChangeNothing : Obligations.ReadRequestsChangeNothing := by
  intro tag s h
  refine ⟨takeRequest_done h tag _ [] _ (k := readPart []) (sized_eq rfl),
    takeRequest_done h tag _ [] _ (k := readLink []) (sized_eq rfl),
    fun c => takeRequest_done h tag _ _ _ (k := readChannel _) (readChannel_eq c _),
    fun i => takeRequest_done h tag _ _ _ (k := readSlot _) (readSlot_eq i _), fun n count => ?_⟩
  refine takeRequest_done h tag _ _ _ (k := readHistory _) ?_
  have inRange : ¬63 < n.val := by omega
  rw [readHistory, sized_eq (by rfl : [BitVec.ofNat 8 n.val, count].length = 2), fieldAt_number _ (by omega)]
  dsimp only
  rw [if_neg inRange, u8_eq, u8_eq, u8_eq, History.count_eq, History.count_eq]
  simp only [Option.any_true_eq_isSome]
  simp [historyCount, clamp, entryNos, State.entry]
  rfl

/-! ### Read Status and Read Pins -/

theorem State.clearChanged_filter (s : State) {p : Pin} (h : p ≠ .powerFail) :
    s.clearChanged.filter p = { s.filter p with changed := false } := by
  cases p with
  | powerFail => exact absurd rfl h
  | _ => simp [State.clearChanged, State.filter, Filter.clearChanged]

theorem State.clearChanged_keepsBut (s : State) : keepsBut [.pins] s s.clearChanged := by
  simp [State.clearChanged]

/-- Settles O17: the contents are formed before the flags are cleared. -/
theorem statusAndPinReadsClearTheirFlags : Obligations.StatusAndPinReadsClearTheirFlags := by
  intro tag s h
  refine ⟨takeRequest_done h tag _ [] _ (k := readStatus []) (sized_eq rfl), _,
    doneWith (k := readPins []) (changed := [.pins]) h rfl rfl (sized_eq rfl) ?_ (by decide), rfl, fun p hp => ?_, ?_, ?_⟩
  · exact (State.clearChanged_keepsBut _).mono (by decide)
  · have cleared := (s.requestArrives []).clearChanged_filter hp
    have same : (s.requestArrives []).filter p = s.filter p := by cases p <;> simp [State.filter]
    rw [same] at cleared
    exact cleared
  · simp [State.addReply, State.clearChanged]
  · simp [State.addReply, State.clearChanged]

end Sys2Proof.Machine

/-!
PROOFS. Requests as MGMT payloads (11.2), the checks of R155 in their order, and the Notice Queue (R166 to R169).
-/

namespace Sys2Proof.Machine

open Sys2Proof

/-! ### MGMT payloads -/

theorem requestOf_unknown {code : Byte} (tag : Byte) (fields : List Byte) (h : unknownCode code = true) :
    requestOf tag code fields = .unknownRequest tag code fields := by
  unfold requestOf
  split
  case h_30 => rfl
  all_goals
    rename_i number
    simp [unknownCode, ← BitVec.toNat_inj, BitVec.lt_def, number] at h

/-- A request is the command that its tag, code and fields say. -/
theorem requestOf_of_parts {i : Instr} {tag code : Byte} {fields : List Byte}
    (parts : requestParts i = some (tag, code, fields)) (w : i.wellFormed = true) :
    requestOf tag code fields = i ∧ fieldsFit fields = true := by
  cases i with
  | unknownRequest t c f =>
    cases parts
    obtain ⟨fits, unknown⟩ := Bool.and_eq_true_iff.mp w
    exact ⟨requestOf_unknown tag fields unknown, fits⟩
  | _ => cases parts <;> exact ⟨rfl, w⟩

theorem requestParts_requestOf (tag code : Byte) (fields : List Byte) :
    requestParts (requestOf tag code fields) = some (tag, code, fields) := by
  have same : code = BitVec.ofNat 8 code.toNat := by simp
  unfold requestOf
  split
  case h_30 => rfl
  all_goals
    rename_i number
    rw [number] at same
    subst same
    rfl

theorem encodeMgmt_of_parts {i : Instr} {tag code : Byte} {fields : List Byte}
    (parts : requestParts i = some (tag, code, fields)) : encodeMgmt i = some (tag :: code :: fields) := by
  rw [encodeMgmt, parts]
  rfl

/-- Settles O12: a request is read back from its tag, code and fields, and a payload of two bytes or more from the
request it is. -/
theorem mgmtPayloadsRoundTrip : Obligations.MgmtPayloadsRoundTrip := by
  refine ⟨fun i w hasParts => ?_, fun payload long => ?_, fun payload check => rfl⟩
  · obtain ⟨⟨tag, code, fields⟩, parts⟩ := Option.isSome_iff_exists.mp hasParts
    obtain ⟨same, fits⟩ := requestOf_of_parts parts w
    have short : fields.length + 2 ≤ 251 := of_decide_eq_true fits
    exact ⟨_, encodeMgmt_of_parts parts, short, same⟩
  · match payload, long with
    | tag :: code :: fields, _ => exact encodeMgmt_of_parts (requestParts_requestOf tag code fields)

/-! ### The checks of a request -/

/-- What carrying out a request means, for each request but Unlock Service, whose reply comes later (R162). -/
def requestMeaning : Instr → State → Answer
  | .readPart _ f => readPart f
  | .readStatus _ f => readStatus f
  | .setNoticeMask _ f => setNoticeMask f
  | .readChannel _ f => readChannel f
  | .setRoute _ f => setRoute f
  | .holdChannel _ f => holdChannel f
  | .releaseChannel _ f => releaseChannel f
  | .readSlot _ f => readSlot f
  | .rescanSlot _ f => rescanSlot f
  | .setWatch _ f => setWatch f
  | .loadVolumeTable _ f => loadVolumeTable f
  | .selectVolumeBank _ f => selectVolumeBank f
  | .loadTemperatureTable _ f => loadTemperatureTable f
  | .readLink _ f => readLink f
  | .readPins _ f => readPins f
  | .setPins _ f => setPins f
  | .readHistory _ f => readHistory f
  | .readTrace _ f => readTrace f
  | .clearTrace _ f => clearTrace f
  | .setPolicy _ f => setPolicy f
  | .grantGrace _ f => grantGrace f
  | .clearHistoryEntry _ f => clearHistoryEntry f
  | .resetWaste _ f => resetWaste f
  | .getUnlockNonce _ f => getUnlockNonce f
  | .lockService _ f => lockService f
  | .programRootKey _ f => programRootKey f
  | .saveSettings _ f => saveSettings f
  | .restart _ f => restart f
  | _ => unknownRequest

/-- A request but Unlock Service is taken with its meaning. -/
theorem exec_request {i : Instr} {tag code : Byte} {fields : List Byte}
    (parts : requestParts i = some (tag, code, fields)) (other : ∀ t f, i ≠ .unlockService t f) (s : State) :
    exec i s = whenPowered s fun s => s.takeRequest tag code fields (requestMeaning i) := by
  cases i with
  | unlockService t f => exact absurd rfl (other t f)
  | _ => cases parts <;> rfl

/-- The meaning of a request of the part's codes first compares the size of the fields. -/
theorem requestMeaning_sized {i : Instr} {tag code : Byte} {fields : List Byte}
    (parts : requestParts i = some (tag, code, fields)) (other : ∀ t f, i ≠ .unlockService t f)
    (w : i.wellFormed = true) (known : unknownCode code = false) (u : State) :
    ∃ k, requestMeaning i u = sized u fields (fieldBytes code fields) k := by
  cases i with
  | unlockService t f => exact absurd rfl (other t f)
  | unknownRequest t c f =>
    cases parts
    simp [Instr.wellFormed, known] at w
  | _ => cases parts <;> exact ⟨_, rfl⟩

/-- The meaning of a request at SERVICE only compares the level next. -/
theorem requestMeaning_level {i : Instr} {tag code : Byte} {fields : List Byte}
    (parts : requestParts i = some (tag, code, fields)) (w : i.wellFormed = true) (service : code ∈ serviceCodes)
    (u : State) : ∃ k, requestMeaning i u = sized u fields (fieldBytes code fields) (needsService u k) := by
  have known : unknownCode code = false := (by decide : ∀ c ∈ serviceCodes, unknownCode c = false) code service
  cases i with
  | unknownRequest t c f =>
    cases parts
    simp [Instr.wellFormed, known] at w
  | setPolicy t f => cases parts; exact ⟨_, rfl⟩
  | grantGrace t f => cases parts; exact ⟨_, rfl⟩
  | clearHistoryEntry t f => cases parts; exact ⟨_, rfl⟩
  | resetWaste t f => cases parts; exact ⟨_, rfl⟩
  | _ => cases parts <;> simp [serviceCodes] at service

theorem not_unlockService_of_code {i : Instr} {tag code : Byte} {fields : List Byte}
    (parts : requestParts i = some (tag, code, fields)) (h : code ≠ 0x19#8) (t : Byte) (f : List Byte) :
    i ≠ .unlockService t f := by
  rintro rfl
  cases parts
  exact h rfl

/-- Unlock Service with a place free. -/
theorem exec_unlockService {s : State} (h : takesRequests s) (tag : Byte) (fields : List Byte) :
    exec (.unlockService tag fields) s = .next ((s.requestArrives fields).unlockService tag fields) := by
  have place : (s.requestArrives fields).requests.placesInUse < 16 := by simpa using h.2
  change whenPowered s (fun s => s.takeUnlockService tag fields) = _
  simp only [whenPowered, h.1, if_true, State.takeUnlockService, if_pos place]

/-- Unlock Service that its checks refuse. -/
theorem unlockService_refused {s : State} (h : takesRequests s) {tag : Byte} {fields : List Byte} {o : ReplyOutcome}
    (size : fields.length = 8) (check : s.requests.unlockCheck = .error o) :
    RefusedWith (.unlockService tag fields) s o := by
  refine ⟨tag, 0x19#8, fields, rfl, ?_⟩
  rw [exec_unlockService h, State.unlockService]
  simp [size, check]

/-- With the reply list full, a request is turned away. -/
theorem exec_turnedAway {i : Instr} {s : State} {tag code : Byte} {fields : List Byte}
    (parts : requestParts i = some (tag, code, fields)) (h : turnsAway s) :
    exec i s = .next (s.requestArrives fields).turnAway := by
  have full : ¬(s.requestArrives fields).requests.placesInUse < 16 := by simpa using h.2
  by_cases unlock : ∃ t f, i = .unlockService t f
  · obtain ⟨t, f, rfl⟩ := unlock
    cases parts
    change whenPowered s (fun s => s.takeUnlockService tag fields) = _
    simp only [whenPowered, h.1, if_true, State.takeUnlockService, if_neg full]
  · rw [exec_request parts (fun t f e => unlock ⟨t, f, e⟩) s]
    simp only [whenPowered, h.1, if_true, State.takeRequest, State.carryOut, if_neg full]

/-- Check 2 of R155: fields of the wrong size. -/
theorem badValue_of_size {i : Instr} {s : State} {tag code : Byte} {fields : List Byte}
    (parts : requestParts i = some (tag, code, fields)) (h : takesRequests s) (w : i.wellFormed = true)
    (known : unknownCode code = false) (size : fields.length ≠ fieldBytes code fields) : RefusedWith i s .badValue := by
  by_cases unlock : ∃ t f, i = .unlockService t f
  · obtain ⟨t, f, rfl⟩ := unlock
    cases parts
    refine ⟨tag, _, fields, rfl, ?_⟩
    rw [exec_unlockService h, State.unlockService, if_pos]
    exact size
  · have other : ∀ t f, i ≠ .unlockService t f := fun t f e => unlock ⟨t, f, e⟩
    obtain ⟨k, meaning⟩ := requestMeaning_sized parts other w known (s.requestArrives fields)
    exact refusedWith h parts (exec_request parts other s) (meaning.trans (sized_ne size))

/-- Check 3 of R155: the level. -/
theorem refusedLevel_of_operate {i : Instr} {s : State} {tag code : Byte} {fields : List Byte}
    (parts : requestParts i = some (tag, code, fields)) (h : takesRequests s) (w : i.wellFormed = true)
    (service : code ∈ serviceCodes) (size : fields.length = fieldBytes code fields)
    (level : s.requests.access = .operate) : RefusedWith i s .refusedLevel := by
  have code_ne : code ≠ 0x19#8 := by rintro rfl; simp [serviceCodes] at service
  obtain ⟨k, meaning⟩ := requestMeaning_level parts w service (s.requestArrives fields)
  refine refusedWith h parts (exec_request parts (not_unlockService_of_code parts code_ne) s) ?_
  rw [meaning, sized_eq size, needsService_operate (by simpa using level)]

/-! ### Numbers out of range -/

theorem onChannel_badSubject (u : State) {n : Byte} (k : Channel → Answer) (h : 11 < n.toNat) :
    onChannel u [n] k = refuse u .badSubject := by
  rw [onChannel, sized_eq, fieldAt_one_byteAt _ _ (by simp), numberOf_eq_none]
  · exact h
  · rfl

theorem onSlot_badSubject (u : State) {n : Byte} (rest : List Byte) (k : SlotNo → Answer) (h : 15 < n.toNat) :
    onSlot u (n :: rest) k = refuse u .badSubject := by
  rw [onSlot, fieldAt_one_byteAt _ _ (by simp), numberOf_eq_none]
  exact h

theorem readHistory_badSubject (u : State) {n k : Byte} (h : 63 < n.toNat) :
    readHistory [n, k] u = refuse u .badSubject := by
  rw [readHistory, sized_eq, fieldAt_one_byteAt _ _ (by simp)]
  · exact if_pos h
  · rfl

/-- Settles O14: the checks of R155 come in their order in the meaning of each request. -/
theorem requestsAreCheckedInOrder : Obligations.RequestsAreCheckedInOrder := by
  refine ⟨fun i tag code fields s parts => ⟨exec_turnedAway parts, fun h w => ⟨?_, ?_⟩⟩, fun s h => ⟨?_, ?_⟩⟩
  · exact badValue_of_size parts h w
  · exact refusedLevel_of_operate parts h w
  · exact fun tag code fields => takeRequest_next h tag code fields unknownRequest
  · intro tag n k
    refine ⟨fun out => ⟨?_, ?_, ?_⟩, fun out => ⟨?_, ?_⟩, fun out => ?_⟩
    · exact refusedWith (k := readChannel _) h rfl rfl (onChannel_badSubject _ _ out)
    · exact refusedWith (k := holdChannel _) h rfl rfl (onChannel_badSubject _ _ out)
    · exact refusedWith (k := releaseChannel _) h rfl rfl (onChannel_badSubject _ _ out)
    · exact refusedWith (k := readSlot _) h rfl rfl ((sized_eq rfl).trans (onSlot_badSubject _ _ _ out))
    · exact refusedWith (k := rescanSlot _) h rfl rfl ((sized_eq rfl).trans (onSlot_badSubject _ _ _ out))
    · exact refusedWith (k := readHistory _) h rfl rfl (readHistory_badSubject _ out)

end Sys2Proof.Machine

namespace Sys2Proof.Machine

open Sys2Proof

/-! ### Set Notice Mask -/

/-- What a request's packet does depends on the number of its field bytes only. -/
theorem requestArrives_length {fields others : List Byte} (s : State) (h : fields.length = others.length) :
    s.requestArrives fields = s.requestArrives others := by
  rw [State.requestArrives, State.requestArrives, h]

theorem setMask_get (kinds : List (Fin 14)) (enabled : Bool) (mask : Vector Bool 14) (k : Fin 14) :
    (setMask mask enabled kinds)[k] = if k ∈ kinds then enabled else mask[k] := by
  induction kinds generalizing mask with
  | nil => simp [setMask]
  | cons j kinds ih =>
    have step : setMask mask enabled (j :: kinds) = setMask (mask.set j.val enabled j.isLt) enabled kinds := rfl
    rw [step, ih]
    by_cases listed : k ∈ kinds
    · simp [listed]
    · by_cases same : k = j
      · simp [same]
      · have apart : j.val ≠ k.val := fun e => same (Fin.ext e.symm)
        simp [listed, same, Vector.getElem_set_ne, apart]

/-- The kinds of Set Notice Mask, where each byte is one of the fourteen. -/
theorem kinds_of_numbers (kinds : List (Fin 14)) :
    (kinds.map fun k => BitVec.ofNat 8 k.val).mapM (fun b : Byte => numberOf 14 b.toNat) = some kinds := by
  rw [List.mapM_map]
  induction kinds with
  | nil => rfl
  | cons k kinds ih => rw [List.mapM_cons, ih]; simp [numberOf_ofNat, -BitVec.toNat_ofNat]

theorem kinds_out_of_range {kinds : List Byte} (h : ∃ k ∈ kinds, 13 < k.toNat) :
    kinds.mapM (fun b : Byte => numberOf 14 b.toNat) = none := by
  obtain ⟨k, listed, out⟩ := h
  induction kinds with
  | nil => cases listed
  | cons j kinds ih =>
    rw [List.mapM_cons]
    rcases List.mem_cons.mp listed with rfl | later
    · simp [numberOf_eq_none (n := 14) out]
    · cases numberOf 14 j.toNat <;> simp [ih later]

/-- The fields of Set Notice Mask have the size that their count byte says. -/
theorem maskFields_size (mode : Byte) {kinds : List Byte} (h : kinds.length ≤ 247) :
    (mode :: BitVec.ofNat 8 kinds.length :: kinds).length =
      listSize (mode :: BitVec.ofNat 8 kinds.length :: kinds) 1 1 := by
  have small : kinds.length % 256 = kinds.length := Nat.mod_eq_of_lt (by omega)
  simp [listSize, byteAt, small]
  omega

theorem enableModeOf_none {mode : Nat} (h : 1 < mode) : enableModeOf mode = none := by
  match mode, h with
  | _ + 2, _ => rfl

theorem mapM_length {α β : Type} {f : α → Option β} {xs : List α} {ys : List β} (h : xs.mapM f = some ys) :
    ys.length = xs.length := by
  induction xs generalizing ys with
  | nil => cases h; rfl
  | cons x xs ih =>
    simp only [List.mapM_cons, Option.bind_eq_bind, Option.bind_eq_some_iff, Option.pure_def] at h
    obtain ⟨y, -, zs, rest, same⟩ := h
    cases same
    simp [ih rest]

theorem setNoticeMask_refuses (u : State) {mode : Byte} {kinds : List Byte} (h : kinds.length ≤ 247)
    (bad : 1 < mode.toNat ∨ 14 < kinds.length ∨ ∃ k ∈ kinds, 13 < k.toNat) :
    setNoticeMask (mode :: BitVec.ofNat 8 kinds.length :: kinds) u = refuse u .badValue := by
  rw [setNoticeMask, sized_eq (maskFields_size mode h), fieldAt_one_byteAt _ _ (by simp), noticeKindsOperand]
  simp only [byteAt, List.getD_cons_zero, List.drop_succ_cons, List.drop_zero]
  cases numbers : kinds.mapM fun b : Byte => numberOf 14 b.toNat with
  | none => cases enableModeOf mode.toNat <;> rfl
  | some ks =>
    rcases bad with mode_bad | many | out
    · rw [enableModeOf_none mode_bad]
    · cases enableModeOf mode.toNat with
      | none => rfl
      | some enabled => exact if_pos (by rw [mapM_length numbers]; exact many)
    · rw [kinds_out_of_range out] at numbers
      cases numbers

theorem setNoticeMask_sets (u : State) (enabled : Bool) {kinds : List (Fin 14)} (h : kinds.length ≤ 14) :
    setNoticeMask ((if enabled then 0#8 else 1#8) :: BitVec.ofNat 8 kinds.length ::
        kinds.map fun k => BitVec.ofNat 8 k.val) u =
      done { u with settings := { u.settings with mask := setMask u.settings.mask enabled kinds } }
        (maskBytes (setMask u.settings.mask enabled kinds)) := by
  have size := maskFields_size (if enabled then 0#8 else 1#8)
    (kinds := kinds.map fun k => BitVec.ofNat 8 k.val) (by simp; omega)
  rw [List.length_map] at size
  have mode : enableModeOf (if enabled then 0#8 else 1#8 : Byte).toNat = some enabled := by cases enabled <;> rfl
  rw [setNoticeMask, sized_eq size, fieldAt_one_byteAt _ _ (by simp), noticeKindsOperand]
  simp only [byteAt, List.getD_cons_zero, mode, List.drop_succ_cons, List.drop_zero, kinds_of_numbers]
  exact if_neg (Nat.not_lt.mpr h)

/-! ### Taking a notice -/

theorem Notice.isAbout_iff (n : Notice) (kind : NoticeKind) (subject : Subject) :
    n.isAbout kind subject = true ↔ n.kind = kind ∧ n.subject = subject := by
  simp [Notice.isAbout]

theorem mergeNotice_at {kind : NoticeKind} {subject : Subject} (d : Details) {n : Notice} (after : List Notice)
    (here : n.isAbout kind subject = true) (before : List Notice)
    (first : ∀ m ∈ before, ¬m.isAbout kind subject = true) :
    mergeNotice kind subject d (before ++ n :: after) = before ++ n.merge d :: after := by
  induction before with
  | nil => exact if_pos here
  | cons m before ih =>
    have rest := ih fun k hk => first k (List.mem_cons_of_mem _ hk)
    have skip : ¬m.isAbout kind subject = true := first m List.mem_cons_self
    simp [mergeNotice, skip, rest]

/-- R168: the merges after the grant are counted while the oldest entry is the one that takes the notice. -/
theorem NoticeUnit.mergedAfter_at {u : NoticeUnit} {kind : NoticeKind} {subject : Subject} {n : Notice}
    {before after : List Notice} (queue : u.queue = before ++ n :: after) (here : n.isAbout kind subject = true)
    (first : ∀ m ∈ before, ¬m.isAbout kind subject = true) :
    u.mergedAfter kind subject = if before = [] then u.merged.map (fun k => k + 1) else u.merged := by
  cases before with
  | nil =>
    rw [NoticeUnit.mergedAfter, queue]
    cases u.merged <;> simp [here]
  | cons m before =>
    have skip : ¬m.isAbout kind subject = true := first m List.mem_cons_self
    rw [NoticeUnit.mergedAfter, queue]
    cases u.merged <;> simp [skip]

/-- A notice merges into the first entry of its kind and subject. -/
theorem NoticeUnit.take_merges {u : NoticeUnit} {kind : NoticeKind} {subject : Subject} {n : Notice}
    {before after : List Notice} (enabled : Bool) (d : Details) (queue : u.queue = before ++ n :: after)
    (here : n.isAbout kind subject = true) (first : ∀ m ∈ before, ¬m.isAbout kind subject = true) :
    u.take enabled kind subject d =
      { u with
        seen := u.seen.set kind.position true
        queue := before ++ n.merge d :: after
        merged := if before = [] then u.merged.map (fun k => k + 1) else u.merged } := by
  have found : (u.queue.any fun n => n.isAbout kind subject) = true := by
    rw [queue]; simp [here]
  have merged := NoticeUnit.mergedAfter_at queue here first
  refine (if_pos found).trans ?_
  rw [← merged, ← mergeNotice_at d after here before first, ← queue]
  rfl

/-- A notice with no entry of its kind and subject. -/
theorem NoticeUnit.take_joins {u : NoticeUnit} {kind : NoticeKind} {subject : Subject} (enabled : Bool) (d : Details)
    (absent : ∀ m ∈ u.queue, ¬m.isAbout kind subject = true) :
    u.take enabled kind subject d =
      if enabled = false then { u with seen := u.seen.set kind.position true }
      else if 32 ≤ u.queue.length then
        { u with
          seen := u.seen.set kind.position true, overflow := true, dropped := min 255 (u.dropped + 1) }
      else
        { u with
          seen := u.seen.set kind.position true
          queue := u.queue ++ [{ kind := kind, subject := subject, count := 1, details := d }] } := by
  have none_found : ¬(u.queue.any fun n => n.isAbout kind subject) = true := by
    simpa using absent
  rw [NoticeUnit.take]
  dsimp only
  rw [if_neg none_found]
  cases enabled <;> rfl

/-- Settles O18: the mask is set kind by kind, and a notice merges, is masked, is dropped or joins the queue. -/
theorem noticesAreMaskedAndTaken : Obligations.NoticesAreMaskedAndTaken := by
  refine ⟨fun tag s h => ⟨fun enabled kinds few => ?_, fun mode kinds few bad => ?_⟩, fun _ _ _ _ => rfl,
    fun u enabled kind subject d => ⟨fun before n after queue here first => ?_, fun absent => ?_⟩⟩
  · have same := requestArrives_length s (fields := (if enabled then 0#8 else 1#8) :: BitVec.ofNat 8 kinds.length ::
      kinds.map fun k => BitVec.ofNat 8 k.val) (others := List.replicate (kinds.length + 2) 0#8) (by simp)
    have sets := setNoticeMask_sets (s.requestArrives (List.replicate (kinds.length + 2) 0#8)) enabled few
    have settings : (s.requestArrives (List.replicate (kinds.length + 2) 0#8)).settings = s.settings := by simp
    rw [← same] at sets settings ⊢
    refine ⟨_, doneWith (k := setNoticeMask _) (changed := [.settings]) h rfl rfl sets ?_ (by decide), ?_, rfl,
      fun k => ?_⟩
    · generalize s.requestArrives _ = u
      simp
    · rw [← settings]
      rfl
    · rw [← settings]
      exact setMask_get kinds enabled _ k
  · exact refusedWith (k := setNoticeMask _) h rfl rfl (setNoticeMask_refuses _ few bad)
  · exact NoticeUnit.take_merges enabled d queue ((n.isAbout_iff kind subject).mpr here) fun m hm about =>
      first m hm ((m.isAbout_iff kind subject).mp about)
  · exact NoticeUnit.take_joins enabled d fun m hm about => absent m hm ((m.isAbout_iff kind subject).mp about)

end Sys2Proof.Machine

namespace Sys2Proof.Machine

open Sys2Proof

/-! ### Operator hold -/

theorem State.setGate_notices (s : State) (c : Channel) (g : Gate) :
    (s.setGate c g).notices = s.gateRaised s.notices c (s.route c).gate g := by
  unfold State.setGate State.gateRaised
  dsimp only
  split <;> rfl

/-- The notices of a gate change depend on the mask only. -/
theorem State.gateRaised_congr {s t : State} (h : t.settings = s.settings) (u : NoticeUnit) (c : Channel)
    (old new : Gate) : t.gateRaised u c old new = s.gateRaised u c old new := by
  rw [State.gateRaised, State.gateRaised, h]

theorem State.routeRaised_congr {s t : State} (h : t.settings = s.settings) (u : NoticeUnit) (c : Channel)
    (d : Details) : t.routeRaised u c d = s.routeRaised u c d := by
  rw [State.routeRaised, State.routeRaised, h]

theorem State.putHold_route (s : State) (c : Channel) (held : Bool) :
    (s.putHold c held).route c =
      { s.route c with hold := held, gate := { (s.route c).gate with operatorHold := held } } := by
  rw [State.putHold, State.setGate_route, State.putRoute_same]

theorem State.putHold_notices (s : State) (c : Channel) (held : Bool) :
    (s.putHold c held).notices =
      s.gateRaised s.notices c (s.route c).gate { (s.route c).gate with operatorHold := held } := by
  rw [State.putHold, State.setGate_notices, State.putRoute_same]
  rfl

theorem State.putHold_otherRoutes (s : State) (c : Channel) (held : Bool) : otherRoutes c s (s.putHold c held) := by
  simp [State.putHold, otherRoutes.refl]

theorem requestArrives_route (s : State) (fields : List Byte) (c : Channel) :
    (s.requestArrives fields).route c = s.route c := by
  simp [State.route]

/-- R67: a request that sets or clears the operator hold. -/
theorem putHold_doneWith {i : Instr} {s : State} {tag code : Byte} {k : State → Answer} {c : Channel} {held : Bool}
    (h : takesRequests s) (parts : requestParts i = some (tag, code, [BitVec.ofNat 8 c.val]))
    (meaning : exec i s = whenPowered s fun s => s.takeRequest tag code [BitVec.ofNat 8 c.val] k)
    (sets : ∀ u, k u = done (u.putHold c held) []) :
    ∃ t, DoneWith i s t [] [.routes] ∧
      t.route c = { s.route c with hold := held, gate := { (s.route c).gate with operatorHold := held } } ∧
      t.notices = s.gateRaised (s.requestArrives [0]).notices c (s.route c).gate (t.route c).gate ∧
      otherRoutes c s t := by
  have same : s.requestArrives [BitVec.ofNat 8 c.val] = s.requestArrives [0] := requestArrives_length s rfl
  have settings : (s.requestArrives [BitVec.ofNat 8 c.val]).settings = s.settings := by simp
  refine ⟨_, doneWith h parts meaning (sets _) ?_ (by decide), ?_, ?_, fun d other => ?_⟩
  · generalize s.requestArrives _ = u
    simp [State.putHold]
  · exact (State.putHold_route _ c held).trans (by rw [requestArrives_route s [BitVec.ofNat 8 c.val] c])
  · refine (State.putHold_notices _ c held).trans ?_
    rw [State.gateRaised_congr settings, same, requestArrives_route]
    exact congrArg (fun r : Route => s.gateRaised _ c _ r.gate)
      ((State.putHold_route _ c held).trans (by rw [requestArrives_route s [0] c])).symm
  · exact (State.putHold_otherRoutes _ c held d other).trans (requestArrives_route s _ d)

/-- Settles O19: both requests replace the hold and its gate reason, which the gate lemmas say the notices of. -/
theorem holdAndReleaseChannel : Obligations.HoldAndReleaseChannel := by
  refine ⟨fun tag c s h => ⟨?_, ?_⟩, fun g => rfl⟩
  · exact putHold_doneWith (k := holdChannel _) h rfl rfl fun u => onChannel_number u c _
  · exact putHold_doneWith (k := releaseChannel _) h rfl rfl fun u => onChannel_number u c _

/-! ### Clear History Entry -/

theorem clearHistoryEntry_clears {u : State} {n : EntryNo} (level : u.requests.access = .service)
    (valid : u.entry n ≠ none) :
    clearHistoryEntry [BitVec.ofNat 8 n.val] u = done (((u.putEntry n none).forgetIndex n).queueEntry n) [] := by
  rw [clearHistoryEntry, sized_eq, needsService_service level, fieldAt_number _ (by omega), numberOf_val]
  · cases e : u.entry n with
    | none => exact absurd e valid
    | some x => simp only [e]
  · rfl

theorem clearHistoryEntry_invalid {u : State} {n : EntryNo} (level : u.requests.access = .service)
    (invalid : u.entry n = none) : clearHistoryEntry [BitVec.ofNat 8 n.val] u = refuse u .badState := by
  rw [clearHistoryEntry, sized_eq, needsService_service level, fieldAt_number _ (by omega), numberOf_val]
  · simp only [invalid]
  · rfl

theorem clearHistoryEntry_badSubject {u : State} {b : Byte} (level : u.requests.access = .service)
    (out : 63 < b.toNat) : clearHistoryEntry [b] u = refuse u .badSubject := by
  rw [clearHistoryEntry, sized_eq, needsService_service level, fieldAt_one_byteAt _ _ (by simp),
    numberOf_eq_none]
  · exact out
  · rfl

/-- A slot after its entry was forgotten. -/
theorem State.forgetIndex_slot (s : State) (n : EntryNo) (i : SlotNo) :
    (s.forgetIndex n).slot i =
      if (s.slot i).historyIndex = some n then { s.slot i with historyIndex := none } else s.slot i := by
  simp [State.forgetIndex, State.slot]
  rfl

/-- Settles O29: the entry, the slots that name it and the writer queue, one operation each. -/
theorem historyEntryIsCleared : Obligations.HistoryEntryIsCleared := by
  intro tag n s h request
  have operate : s.requests.access = .operate → RefusedWith request s .refusedLevel :=
    refusedLevel_of_operate (fields := [BitVec.ofNat 8 n.val]) rfl h rfl (by simp [serviceCodes]) rfl
  refine ⟨operate, fun level => ?_⟩
  have level_u (fields : List Byte) : (s.requestArrives fields).requests.access = .service := by simpa using level
  have entry_u (fields : List Byte) (m : EntryNo) : (s.requestArrives fields).entry m = s.entry m := by
    simp [State.entry]
  refine ⟨fun invalid => ?_, fun b out => ?_, fun valid => ?_⟩
  · have refused := clearHistoryEntry_invalid (level_u _) ((entry_u [BitVec.ofNat 8 n.val] n).trans invalid)
    exact refusedWith (k := clearHistoryEntry _) h rfl rfl refused
  · exact refusedWith (k := clearHistoryEntry _) h rfl rfl (clearHistoryEntry_badSubject (level_u _) out)
  · have cleared := clearHistoryEntry_clears (level_u [BitVec.ofNat 8 n.val]) (by rwa [entry_u] : _ ≠ none)
    have entries := entry_u [BitVec.ofNat 8 n.val]
    have slots (i : SlotNo) : (s.requestArrives [BitVec.ofNat 8 n.val]).slot i = s.slot i := by simp [State.slot]
    have stamp : (s.requestArrives [BitVec.ofNat 8 n.val]).history.nextStamp = s.history.nextStamp := by simp
    have writer : (s.requestArrives [BitVec.ofNat 8 n.val]).nvm = s.nvm := by simp
    have changes (u : State) : keepsBut [.notices, .history, .slots, .nvm] u
        (((u.putEntry n none).forgetIndex n).queueEntry n) := by
      simp [State.queueEntry]
    have answered := doneWith (i := .clearHistoryEntry tag [BitVec.ofNat 8 n.val]) h rfl rfl cleared (changes _) (by decide)
    refine ⟨_, answered, ?_⟩
    generalize s.requestArrives [BitVec.ofNat 8 n.val] = u at *
    refine ⟨?_, fun m other => ?_, stamp, fun i => ?_, ?_, ?_⟩
    · have same := State.putEntry_same u n none
      simpa [State.entry, State.queueEntry, State.forgetIndex] using same
    · have same := (State.putEntry_other u none other).trans (entries m)
      simpa [State.entry, State.queueEntry, State.forgetIndex] using same
    · have forgets := State.forgetIndex_slot (u.putEntry n none) n i
      have same : (State.addReply (((u.putEntry n none).forgetIndex n).queueEntry n)
          ⟨tag, 0x16#8, .done, []⟩).slot i = ((u.putEntry n none).forgetIndex n).slot i := by
        simp [State.slot, State.queueEntry]
      rw [← slots i]
      exact same.trans forgets
    · simp [State.queueEntry, State.queueWrite, State.entry, State.forgetIndex, State.putEntry, State.addReply, writer]
    · simp [State.queueEntry, State.forgetIndex]

/-! ### Reset Waste -/

theorem State.raiseWaste_waste (s : State) (f : WasteFlag) (value : Bool) :
    (s.raiseWaste f value).waste = s.waste ∧ (s.raiseWaste f value).nvm = s.nvm ∧
      (s.raiseWaste f value).settings = s.settings := ⟨rfl, rfl, rfl⟩

/-- The flags against thresholds above 0 of a waste account at 0. -/
theorem zeroWaste_flags {s : State} (near : 0 < s.policy.wasteNear) (full : 0 < s.policy.wasteFull) :
    ({ s with waste := ⟨0, 0⟩ } : State).wasteNear = false ∧
      ({ s with waste := ⟨0, 0⟩ } : State).wasteFull = false := by
  have near' : 0 < s.settings.policy.wasteNear := near
  have full' : 0 < s.settings.policy.wasteFull := full
  constructor
  · simp [State.wasteNear, State.policy]; omega
  · simp [State.wasteFull, State.policy]; omega

/-- R44: each flag that was true becomes false, with its notice. -/
theorem State.judgeWaste_cleared {u : State} (nearBefore fullBefore : Bool) (near : u.wasteNear = false)
    (full : u.wasteFull = false) :
    u.judgeWaste nearBefore fullBefore =
      let v := if nearBefore then u.raiseWaste .near false else u
      if fullBefore then v.raiseWaste .full false else v := by
  rw [State.judgeWaste, near, full]
  cases nearBefore <;> cases fullBefore <;> rfl

/-- Settles O30: both flags become false, since the thresholds are above 0. -/
theorem wasteIsReset : Obligations.WasteIsReset := by
  refine ⟨fun _ _ _ => rfl, fun tag s h near full => ⟨?_, fun level => ?_⟩⟩
  · exact refusedLevel_of_operate (fields := []) rfl h rfl (by simp [serviceCodes]) rfl
  · obtain ⟨l, f, n, arrived⟩ := requestArrives_cases s []
    have level_u : (s.requestArrives []).requests.access = .service := by simpa using level
    obtain ⟨near', full'⟩ := zeroWaste_flags (s := s.requestArrives []) (by simpa [State.policy] using near)
      (by simpa [State.policy] using full)
    have flags : (s.requestArrives []).wasteNear = s.wasteNear ∧ (s.requestArrives []).wasteFull = s.wasteFull := by
      rw [arrived]; exact ⟨rfl, rfl⟩
    refine ⟨_, doneWith (k := resetWaste []) (changed := [.waste, .nvm]) h rfl rfl
      ((sized_eq rfl).trans (needsService_service level_u)) ?_ (by decide), ?_⟩
    · generalize s.requestArrives [] = u
      simp [State.zeroWaste]
    have writer : (s.requestArrives []).nvm = s.nvm := by simp
    generalize s.requestArrives [] = u at *
    rw [State.zeroWaste, State.judgeWaste_cleared _ _ near' full', flags.1, flags.2, ← writer]
    cases s.wasteNear <;> cases s.wasteFull <;> exact ⟨rfl, near', full', rfl, rfl⟩

/-! ### The service level -/

theorem getUnlockNonce_supplies {u : State} (free : u.requests.lockout = none) :
    getUnlockNonce [] u =
      done { u with draws := u.draws + 1, requests := { u.requests with nonce := some (Config.nonce u.draws) } }
        (u64 (Config.nonce u.draws) ++ u64 u.nvm.identity.serial) := by
  exact (sized_eq rfl).trans (if_neg (by simp [free]))

theorem getUnlockNonce_lockedOut {u : State} (locked : u.requests.lockout ≠ none) :
    getUnlockNonce [] u = refuse u .lockedOut := by
  exact (sized_eq rfl).trans (if_pos (Option.isSome_iff_ne_none.mpr locked))

/-- R164: while the lockout timer runs, both requests are answered LOCKED_OUT. -/
theorem lockedOut {s : State} (tag : Byte) {carried : List Byte} (size : carried.length = 8) (h : takesRequests s)
    (locked : s.requests.lockout ≠ none) :
    RefusedWith (.getUnlockNonce tag []) s .lockedOut ∧ RefusedWith (.unlockService tag carried) s .lockedOut := by
  refine ⟨refusedWith (k := getUnlockNonce []) h rfl rfl (getUnlockNonce_lockedOut (by simpa using locked)),
    unlockService_refused h size ?_⟩
  rw [RequestUnit.unlockCheck, if_pos (Option.isSome_iff_ne_none.mpr locked)]

theorem natOf_field {fields : List Byte} {n : Nat} (size : fields.length = n) : fieldAt fields 0 n = natOf fields := by
  rw [fieldAt, List.drop_zero, ← size, List.take_length]

/-- R165: the Request Unit once the level is OPERATE, the nonce absent, and an attempt withdrawn. -/
def RequestUnit.ended (r : RequestUnit) : RequestUnit :=
  { r with
    access := .operate, nonce := none
    attempt := r.attempt.map fun a => { a with withdrawn := true } }

theorem State.endService_eq (s : State) :
    s.endService =
      if s.requests.access = .service then { s with requests := s.requests.ended }.raiseUnlock .levelEnded
      else { s with requests := s.requests.ended } := rfl

theorem State.endService_requests (s : State) : s.endService.requests = s.requests.ended := by
  rw [State.endService_eq]
  split <;> rfl

theorem State.endService_notices (s : State) :
    s.endService.notices =
      if s.requests.access = .service then
        s.notices.take s.settings.mask[NoticeKind.unlock.position] .unlock .none
          (.unlock .levelEnded .operate s.requests.failedUnlocks (s.leftOf s.requests.lockout))
      else s.notices := by
  rw [State.endService_eq]
  split <;> rfl

/-- The time left on a timer depends on the count only. -/
theorem State.leftOf_congr {s t : State} (h : t.time = s.time) (timer : Option Time) : t.leftOf timer = s.leftOf timer := by
  cases timer with
  | none => rfl
  | some e => simp [State.leftOf, State.left, State.ahead, h]

/-- Settles O31: the nonce is the free value of the draw, the attempt asks the Digest Engine, and the level ends. -/
theorem unlockIsStartedAndWithdrawn : Obligations.UnlockIsStartedAndWithdrawn := by
  refine ⟨fun tag carried s h size => ⟨lockedOut tag size h, fun free => ⟨?_, fun unready => ?_, ?_⟩⟩, fun tag s h => ?_⟩
  · have supplies := getUnlockNonce_supplies (u := s.requestArrives []) (by simpa using free)
    refine ⟨_, ⟨takeRequest_done h tag 0x18#8 [] _ (k := getUnlockNonce []) supplies, ?_⟩, ?_, ?_⟩
    · obtain ⟨l, f, n, arrived⟩ := requestArrives_cases s []
      rw [arrived]
      simp [requestBlocks, State.addReply, keepsBut_iff]
    · simp
    · simp [State.addReply]
  · refine unlockService_refused h size ?_
    rw [RequestUnit.unlockCheck, if_neg (by simp [free])]
    rcases unready with busy | absent
    · rw [if_pos (Option.isSome_iff_ne_none.mpr busy)]
    · rw [absent]
      simp
  · intro n idle ready
    have check : (s.requestArrives carried).requests.unlockCheck = .ok n := by
      simp [RequestUnit.unlockCheck, free, idle, ready]
    have started : (s.requestArrives carried).unlockService tag carried =
        (s.requestArrives carried).startUnlock tag (BitVec.ofNat 64 (natOf carried)) n := by
      rw [State.unlockService, if_neg (by simp [size]), check, ← natOf_field size]
    refine ⟨_, ⟨(exec_unlockService h tag carried).trans (congrArg _ started), ?_⟩, ?_, ?_⟩
    · simp [requestBlocks]
    · simp [State.startUnlock]
    · simp [State.startUnlock, State.digestRequest]
      rfl
  · refine ⟨_, ⟨takeRequest_done h tag 0x1A#8 [] _ (k := lockService []) (sized_eq rfl), ?_⟩, ?_, ?_⟩
    · simp [requestBlocks]
    · simp [State.addReply, State.endService_requests, RequestUnit.ended]
      rfl
    · have time : (s.requestArrives []).time = s.time := by simp
      have notices := State.endService_notices (s.requestArrives [])
      simpa [State.addReply, State.leftOf_congr time] using notices

theorem lockService_requests {s : State} (h : takesRequests s) (tag : Byte) :
    exec (.lockService tag []) s =
      .next ((s.requestArrives []).endService.addReply ⟨tag, 0x1A#8, .done, u8 Access.operate.ctorIdx⟩) :=
  takeRequest_done h tag 0x1A#8 [] _ (k := lockService []) (sized_eq rfl)

/-- Whatever becomes of Lock Service, the lockout timer stays. -/
theorem lockService_lockout {s t : State} {tag : Byte} (ran : exec (.lockService tag []) s = .next t) :
    t.requests.lockout = s.requests.lockout := by
  by_cases on : s.powered = true
  · by_cases place : s.requests.placesInUse < 16
    · rw [lockService_requests ⟨on, place⟩ tag] at ran
      cases ran
      simp [State.addReply, State.endService_requests, RequestUnit.ended]
    · rw [exec_turnedAway rfl ⟨on, Nat.not_lt.mp place⟩] at ran
      cases ran
      simp [State.turnAway]
  · have off : exec (.lockService tag []) s = .next s := congrArg Host.Outcome.next (if_neg on)
    rw [off] at ran
    cases ran
    rfl

/-- R150, R165: the loss of the link ends the service level. -/
theorem State.loseLink_requests (s : State) : s.loseLink.requests = s.requests.ended := by
  let u : State := { s with link := { s.link with up := false, timer := none } }
  have later : keepsBut [.lines, .digest, .notices] u.dropArriving.endService s.loseLink := by
    simp [State.loseLink, u]
  exact (later.2.2 .requests (by decide)).trans (State.endService_requests u.dropArriving)

theorem linkLost_lockout {s t : State} {arrived : List Byte} (ran : exec (.linkLost arrived) s = .next t) :
    t.requests.lockout = s.requests.lockout := by
  have shape : t = if s.powered then s.linkExpires arrived else s := (Host.Outcome.next.inj ran).symm
  rw [shape]
  split
  · unfold State.linkExpires
    split
    · next e _ _ =>
      have arrives : keepsBut [.forward, .time] s ((s.bytesArrive arrived).reach e) := by simp
      have same : ((s.bytesArrive arrived).reach e).requests = s.requests := arrives.2.2 .requests (by decide)
      rw [State.loseLink_requests, same]
      rfl
    · rfl
  · rfl

theorem State.startUp_requests (s : State) : s.startUp.requests = RequestUnit.cold :=
  s.startUp_keeps.2.2 .requests (by decide)

/-- With the lockout timer IDLE no Get Unlock Nonce is answered LOCKED_OUT. -/
theorem not_lockedOut {s : State} (tag : Byte) (on : s.powered = true) (free : s.requests.lockout = none) :
    ¬RefusedWith (.getUnlockNonce tag []) s .lockedOut := by
  rintro ⟨t, c, f, parts, refused⟩
  cases parts
  by_cases place : s.requests.placesInUse < 16
  · have supplied := takeRequest_done ⟨on, place⟩ tag 0x18#8 [] _ (k := getUnlockNonce [])
      (getUnlockNonce_supplies (u := s.requestArrives []) (by simpa using free))
    have same := congrArg (fun t : State => t.requests.replies) (Host.Outcome.next.inj (supplied.symm.trans refused))
    simp [State.addReply] at same
  · rw [exec_turnedAway rfl ⟨on, Nat.not_lt.mp place⟩] at refused
    have same := congrArg (fun t : State => t.requests.replies) (Host.Outcome.next.inj refused)
    simp [State.addReply, State.turnAway] at same

/-- Waiting for an expiry replaces the count and the forward buffer, and nothing else. -/
theorem State.reach_cases (s : State) (e : Time) : ∃ n f, s.reach e = { s with time := n, forward := f } := by
  unfold State.reach
  split
  · exact ⟨_, _, rfl⟩
  · exact ⟨s.time, s.forward, rfl⟩

/-- Settles O32: the timer is looked at by the requests that it locks out and by its own expiry only. -/
theorem lockoutEnds : Obligations.LockoutEnds := by
  intro tag carried s size
  refine ⟨lockedOut tag size, fun e on running => ?_, fun arrived t ran => ?_, ?_⟩
  · let t : State := { s.reach e with requests := { s.requests with lockout := none, failedUnlocks := 0 } }
    obtain ⟨count, forward, waited⟩ := s.reach_cases e
    have expires : s.lockoutExpires = t.raiseUnlock .lockoutEnded := by
      simp only [State.lockoutExpires, running, t, waited]
    have ran : exec .lockoutTimerExpiry s = .next (t.raiseUnlock .lockoutEnded) :=
      congrArg Host.Outcome.next ((if_pos on).trans expires)
    refine ⟨_, ⟨ran, ?_⟩, rfl, ?_, not_lockedOut tag ?_ rfl⟩
    · simp [t]
    · simp only [t, waited]
      rfl
    · simp only [t, waited]
      exact on
  · rcases ran with ran | ran
    · exact linkLost_lockout ran
    · exact lockService_lockout ran
  · rw [State.startUp_requests]
    rfl

/-! ### The root key and the settings image -/

/-- Settles O33: the identity with its key, and the settings image, are queued as they stand. -/
theorem keyAndSettingsAreQueued : Obligations.KeyAndSettingsAreQueued := by
  intro tag key s h size
  have writer (fields : List Byte) : (s.requestArrives fields).nvm = s.nvm := by simp
  have taken (fields : List Byte) : (s.requestArrives fields).nvm.keyTaken = s.nvm.keyTaken := by simp
  refine ⟨fun held => ?_, fun blank sound => ?_, ?_⟩
  · have refused : programRootKey key (s.requestArrives key) = refuse (s.requestArrives key) .badState := by
      rw [programRootKey, sized_eq size, taken, if_pos (by simpa [Nvm.keyTaken] using held)]
    exact refusedWith (k := programRootKey key) h rfl rfl refused
  · have programmed : programRootKey key (s.requestArrives key) =
        done ((s.requestArrives key).programKey (BitVec.ofNat 128 (natOf key))) [] := by
      rw [programRootKey, sized_eq size, taken, if_neg (by simp [Nvm.keyTaken, blank, sound]), natOf_field size]
    refine ⟨_, doneWith (k := programRootKey key) (changed := [.nvm]) h rfl rfl programmed (by simp) (by decide), ?_⟩
    rw [← writer key]
    rfl
  · refine ⟨_, doneWith (k := saveSettings []) (changed := [.nvm]) h rfl rfl (sized_eq rfl) (by simp) (by decide), ?_⟩
    obtain ⟨l, f, n, arrived⟩ := requestArrives_cases s []
    rw [arrived]
    rfl

end Sys2Proof.Machine

/-!
PROOFS. The Fire Link (07_the_fire_link.md): what the end of a packet, a symbol and a header leave of the lane, the Link
Monitor and the forward buffer.
-/

namespace Sys2Proof.Machine

open Sys2Proof

/-! ### What arrives while the link is UP -/

theorem whenPowered_on {s : State} (f : State → State) (on : s.powered = true) : whenPowered s f = .next (f s) :=
  congrArg Host.Outcome.next (if_pos on)

/-- A command that a part with power carries out. -/
theorem exec_on {i : Instr} {s t : State} {f : State → State} (meaning : exec i s = whenPowered s f)
    (on : s.powered = true) (carried : f s = t) : exec i s = .next t := by
  rw [meaning, whenPowered_on f on, carried]

theorem State.symbolReceived_up {s : State} (up : s.link.up = true) :
    s.symbolReceived = { s with link := { s.link with timer := some (s.time + 50) } } := if_pos up

theorem State.rxEnds_up {s : State} (up : s.link.up = true) (bytes : Nat) :
    s.rxEnds bytes = { s with forward := s.forward.send bytes, link := s.linkAfter .idle none } := by
  have received := State.symbolReceived_up (s := s.send bytes) up
  simp only [State.rxEnds, received]
  rfl

theorem State.rxEnds_lost {s : State} (lost : s.link.up = false) (bytes : Nat) :
    s.rxEnds bytes = { s with forward := s.forward.send bytes, link := { s.link with rx := .idle } } := by
  have received : (s.send bytes).symbolReceived = s.send bytes := if_neg (by simp [lost])
  simp only [State.rxEnds, received]
  rfl

/-- R137: a packet counts once, good or failed. -/
theorem State.countCheck_linkAfter (s : State) (f : Forward) (rx : RxState) (good : Bool) :
    State.countCheck { s with forward := f, link := s.linkAfter rx none } good =
      { s with forward := f, link := s.linkAfter rx (some good) } := by
  cases good <;> rfl

theorem State.ensureBegun_within {s : State} (h : withinPacket s) : s.ensureBegun = s := if_pos ⟨h.2.1, h.2.2⟩

theorem State.packetArrives_within {s : State} (h : withinPacket s) (bytes : Nat) :
    s.packetArrives bytes = { s with forward := s.forward.send (bytes + 5), link := s.linkAfter .idle none } := by
  rw [State.packetArrives, State.ensureBegun_within h]
  exact State.rxEnds_up h.2.1 (bytes + 5)

/-! ### The packet of a request -/

theorem State.packetBegins_up (s : State) : s.packetBegins.link.up = true := by
  unfold State.packetBegins
  split
  · next up => rw [State.symbolReceived_up up]; exact up
  · rfl

theorem State.ensureBegun_up (s : State) : s.ensureBegun.link.up = true := by
  unfold State.ensureBegun
  split
  · next h => exact h.1
  · exact State.packetBegins_up _

theorem State.ensureBegun_time (s : State) : s.ensureBegun.time = s.time := by
  have keeps : keepsBut [.link, .forward, .notices] s s.ensureBegun := by simp
  exact keeps.2.2 .time (by decide)

/-- Settles O13: a packet that is no command's own start begins with the request, and then it arrives. -/
theorem requestPacketArrives : Obligations.RequestPacketArrives := by
  intro s fields
  let begun := s.ensureBegun.send (laneBytes (fields.length + 2))
  have received : begun.symbolReceived = { begun with link := { begun.link with timer := some (begun.time + 50) } } :=
    State.symbolReceived_up s.ensureBegun_up
  have link : (s.requestArrives fields).link =
      (State.countGood
        { begun with link := { begun.link with timer := some (begun.time + 50), rx := .idle } }).link := by
    rw [State.requestArrives, State.packetArrives, received]
  refine ⟨by simp, ?_, ?_, ?_, fun up receiving => ?_⟩
  · rw [link]
    exact s.ensureBegun_up
  · rw [link]
    exact congrArg (fun t => some (t + 50)) s.ensureBegun_time
  · rw [link]
    rfl
  · have begins : s.ensureBegun = s := if_pos ⟨up, receiving⟩
    have arrives : s.requestArrives fields =
        { s with
          forward := s.forward.send (fields.length + 7)
          link := s.linkAfter .idle (some true) } := by
      rw [State.requestArrives, State.packetArrives, begins]
      refine (congrArg State.countGood (State.rxEnds_up up _)).trans ?_
      exact State.countCheck_linkAfter s _ .idle true
    rw [arrives]
    exact ⟨rfl, rfl, rfl, rfl⟩

/-! ### Packets that are not forwarded -/

theorem Grade.rise_spec (g : Grade) (start : Time) :
    (g.rise start).counter = min 255 (g.counter + 1) ∧ (g.rise start).leak = g.leak ∧
      (g.rise start).asserted = g.asserted ∧
      (g.rise start).timer = if g.counter = 0 then (if g.asserted then none else some start) else g.timer := by
  unfold Grade.rise
  split
  · next zero => simp [zero]
  · simp [satAdd, *]

theorem Grade.leaks_spec (g : Grade) (limit : Nat) (start : Time) :
    (g.leaks limit start).asserted = g.asserted ∧
      (g.leak + 1 < limit → g.leaks limit start = { g with leak := g.leak + 1 }) ∧
      (limit ≤ g.leak + 1 →
        (g.leaks limit start).leak = 0 ∧ (g.leaks limit start).counter = g.counter - 1 ∧
          (g.leaks limit start).timer =
            if g.counter = 1 then (if g.asserted then some start else none) else g.timer) := by
  unfold Grade.leaks
  by_cases below : g.leak + 1 < limit
  · simp [below, Nat.not_le.mpr below]
  · by_cases one : g.counter = 1
    · simp [below, one]
    · simp [below, one]

/-- Settles O36: each of these packets arrives to its end, and its check, kind or size is judged. -/
theorem unforwardedPacketsCount : Obligations.UnforwardedPacketsCount := by
  refine ⟨fun s n payload check => ⟨fun h => ?_, fun header left on up rx => ?_⟩, Grade.rise_spec, Grade.leaks_spec⟩
  · have fails (bytes : Nat) (good : Bool) : (s.packetArrives bytes).countCheck good =
        { s with forward := s.forward.send (bytes + 5), link := s.linkAfter .idle (some good) } := by
      rw [State.packetArrives_within h]
      exact State.countCheck_linkAfter s _ .idle good
    refine ⟨fun bad => ?_, fun good => ?_, ?_, ?_, ?_, ?_⟩
    · exact exec_on (f := fun s => s.mgmtFails payload check) rfl h.1 ((if_neg bad).trans (fails _ false))
    · exact exec_on (f := fun s => s.mgmtFails payload check) rfl h.1 (if_pos good)
    · exact exec_on (f := fun s => s.framingFault n) rfl h.1 (fails n false)
    · exact exec_on (f := fun s => s.framingFault n) rfl h.1 (fails n false)
    · exact exec_on (f := fun s => s.mgmtTagless n) rfl h.1 (fails n true)
    · refine exec_on (f := fun s => s.refusedEnds payload check) rfl h.1 ?_
      simp only [State.refusedEnds, h.2.2]
      exact fails _ _
  · refine exec_on (f := fun s => s.refusedEnds payload check) rfl on ?_
    simp only [State.refusedEnds, rx]
    split
    · rw [State.rxEnds_up up]
      exact State.countCheck_linkAfter s _ .idle _
    · rfl

/-! ### Symbols -/

/-- A symbol that cuts no packet, while the link is UP. -/
theorem State.symbolArrives_up {s t : State} {symbol : LaneSymbol} {arrived : List Byte} (cut : s.cutPacket arrived = t)
    (up : t.link.up = true) :
    s.symbolArrives symbol arrived =
      { t with
        forward := t.forward.send 1
        link := { t.link with timer := some (t.time + 50), rx := rxAfter symbol } } := by
  have begins : (t.send 1).packetBegins = { t.send 1 with link := { t.link with timer := some (t.time + 50) } } :=
    (if_pos up).trans (State.symbolReceived_up up)
  simp only [State.symbolArrives, cut, begins]
  cases symbol <;> rfl

theorem State.symbolArrives_lost {s : State} {symbol : LaneSymbol} {arrived : List Byte}
    (cut : s.cutPacket arrived = s) (lost : s.link.up = false) :
    s.symbolArrives symbol arrived =
      { s with
        forward := s.forward.send 1
        link := { s.linkAfter (rxAfter symbol) none with up := true }
        notices :=
          s.notices.take s.settings.mask[NoticeKind.link.position] .link .none
            (.link .restored true s.link.minor.counter s.link.major.counter s.link.minor.asserted
              s.link.major.asserted) } := by
  have begins : (s.send 1).packetBegins =
      State.raiseLink { s.send 1 with link := { s.link with up := true, timer := some (s.time + 50) } } .restored :=
    if_neg (by simp [lost])
  simp only [State.symbolArrives, cut, begins]
  cases symbol <;> rfl

/-- Between packets a symbol cuts none. -/
theorem State.cutPacket_between {s : State} (h : s.link.rx = .idle ∨ s.link.rx = .lostRest) (arrived : List Byte) :
    s.cutPacket arrived = s := by
  rcases h with h | h <;> rw [State.cutPacket, h]

/-- Data symbols of no packet. -/
theorem State.rxEnds_eq (s : State) (bytes : Nat) :
    s.rxEnds bytes =
      { s with
        forward := s.forward.send bytes
        link := if s.link.up then s.linkAfter .idle none else { s.link with rx := .idle } } := by
  cases up : s.link.up
  · rw [State.rxEnds_lost up]; rfl
  · rw [State.rxEnds_up up]; rfl

/-! ### The symbols that the forward buffer sends -/

theorem passSymbols_zero (ps : List ForwardPacket) : passSymbols 0 ps = ps := by
  induction ps with
  | nil => rfl
  | cons p ps ih => simp [passSymbols, ih]

/-- R138: the bytes that a symbol time sends of these packets: one where the next symbol is a byte, and none where it is
a start symbol or a fill symbol. -/
def bytesSent (ps : List ForwardPacket) : Nat :=
  match ps.find? fun p => decide (0 < p.unsent) with
  | some p => if p.sent = 0 then 0 else 1
  | none => 0

theorem passSymbols_one_bytesLeft (ps : List ForwardPacket) :
    ((passSymbols 1 ps).map ForwardPacket.bytesLeft).sum + bytesSent ps = (ps.map ForwardPacket.bytesLeft).sum := by
  induction ps with
  | nil => rfl
  | cons p ps ih =>
    have left : p.unsent = p.placed.length + 1 - p.sent := rfl
    by_cases ready : 0 < p.unsent
    · have none_left : 1 - p.unsent = 0 := by omega
      have sent : bytesSent (p :: ps) = if p.sent = 0 then 0 else 1 := by simp [bytesSent, ready]
      rw [sent]
      simp only [passSymbols, none_left, passSymbols_zero, List.map_cons, List.sum_cons, ForwardPacket.bytesLeft]
      split <;> omega
    · have gone : p.unsent = 0 := by omega
      have later : bytesSent (p :: ps) = bytesSent ps := by simp [bytesSent, ready]
      rw [later]
      simp only [passSymbols, gone, List.map_cons, List.sum_cons, ForwardPacket.bytesLeft, Nat.min_zero, Nat.add_zero,
        Nat.sub_zero]
      omega

/-- R138: the backlog after one symbol time, by the symbol that is sent in it. -/
theorem Forward.send_one_backlog {f : Forward} (placed : ∀ p ∈ f.buffer, p.placed.length ≤ p.total)
    (early : f.early = 0) :
    (f.send 1).backlog =
      match f.sends with
      | .data _ => f.backlog - 1
      | _ => f.backlog := by
  have backlog : (f.send 1).backlog = _ := f.send_backlog 1 placed
  have taken := passSymbols_one_bytesLeft f.passed
  rw [early, Nat.sub_zero] at backlog
  have next : bytesSent f.passed = match f.sends with | .data _ => 1 | _ => 0 := by
    unfold bytesSent Forward.sends
    cases f.passed.find? fun p => decide (0 < p.unsent) with
    | none => rfl
    | some p => by_cases start : p.sent = 0 <;> simp [ForwardPacket.next, start]
  have before : f.backlog = (f.passed.map ForwardPacket.bytesLeft).sum := rfl
  rw [next] at taken
  cases symbol : f.sends <;> simp only [symbol] at taken ⊢ <;> omega

theorem Forward.send_placed {f : Forward} (placed : ∀ p ∈ f.buffer, p.placed.length ≤ p.total) (n : Nat) :
    ∀ p ∈ (f.send n).buffer, p.placed.length ≤ p.total := fun p hp =>
  sendSymbols_placed_le _ _ placed p (List.mem_of_mem_filter hp)

/-- A packet of which nothing was sent joins the symbols to send. -/
theorem Forward.toSend_append {f : Forward} (held : f.held ≤ unsentSymbols f.buffer) {p : ForwardPacket}
    (fresh : p.sent = 0) :
    Forward.toSend { f with buffer := f.buffer ++ [p] } = f.toSend + (p.placed.length + 1) := by
  simp only [Forward.toSend, unsentSymbols, List.map_append, List.sum_append, List.map_cons, List.map_nil,
    List.sum_cons, List.sum_nil, ForwardPacket.unsent, fresh] at held ⊢
  omega

/-- R138: a line packet, whose start symbol and header take their symbol times before the header is placed, and whose
rest takes its own, adds nothing to what is to be sent. -/
theorem Forward.line_adds_nothing {f : Forward} (placed : ∀ p ∈ f.buffer, p.placed.length ≤ p.total)
    (early : f.early = 0) (enough : 10 ≤ f.toSend) {p : ForwardPacket} (rest : List Byte) (fresh : p.sent = 0)
    (header : p.placed.length = 9) (total : p.total = (p.placed ++ rest).length) :
    let opened := (f.send 1).send 9
    Forward.toSend { opened with buffer := opened.buffer ++ [p] } = f.toSend ∧
      (Forward.send { opened with buffer := opened.buffer ++ [{ p with placed := p.placed ++ rest }] }
          rest.length).toSend =
        f.toSend := by
  intro opened
  have once := Forward.send_placed placed 1
  have twice := Forward.send_placed once 9
  have sent : opened.toSend = f.toSend - 10 := by
    have nine : opened.toSend = (f.send 1).toSend - (9 - (f.send 1).early) := (f.send 1).send_toSend 9 once
    have one : (f.send 1).toSend = f.toSend - (1 - f.early) := f.send_toSend 1 placed
    have early_one : (f.send 1).early = f.early - 1 := rfl
    omega
  have early_opened : opened.early = 0 := by
    have : opened.early = f.early - 1 - 9 := rfl
    omega
  have held : opened.held ≤ unsentSymbols opened.buffer := (f.send 1).send_held_le 9
  have whole : ∀ q ∈ opened.buffer ++ [{ p with placed := p.placed ++ rest }], q.placed.length ≤ q.total := by
    intro q hq
    rcases List.mem_append.mp hq with old | new
    · exact twice q old
    · rw [List.mem_singleton.mp new, total]
  refine ⟨?_, ?_⟩
  · rw [Forward.toSend_append held fresh]
    omega
  · refine (Forward.send_toSend _ rest.length whole).trans ?_
    have appended := Forward.toSend_append held (p := { p with placed := p.placed ++ rest }) fresh
    rw [appended]
    simp only [List.length_append, early_opened]
    omega

/-- Settles O37: a symbol between packets, the data symbols of no packet, and the symbols that leave meanwhile. -/
theorem symbolsKeepTheLink : Obligations.SymbolsKeepTheLink := by
  refine ⟨fun s symbol on between => ?_, fun s rest check on => ?_, fun f symbols placed => ?_⟩
  · have cut := State.cutPacket_between between []
    have meaning : exec (match symbol with | .start => .startSymbolReceived | .fill => .fillSymbolReceived) s =
        whenPowered s fun s => s.symbolArrives symbol [] := by
      cases symbol <;> rfl
    exact ⟨fun up => exec_on meaning on (State.symbolArrives_up cut up), fun lost =>
      exec_on meaning on (State.symbolArrives_lost cut lost)⟩
  · refine ⟨fun stray => ?_, fun stray => ?_⟩
    · refine exec_on (f := fun s => s.refusedEnds rest check) rfl on ?_
      have discarded : s.refusedEnds rest check = s.rxEnds (rest.length + 2) := by
        rcases stray with lostRest | ⟨idle, long⟩
        · simp only [State.refusedEnds, State.strayData, lostRest]
        · simp only [State.refusedEnds, State.strayData, idle, if_neg (Nat.not_lt.mpr long)]
      exact discarded.trans (s.rxEnds_eq _)
    · refine exec_on (f := fun s => s.upstreamEnds rest check) rfl on ?_
      have discarded : s.upstreamEnds rest check = s.rxEnds (rest.length + 2) := by
        rcases stray with rx | rx <;> simp only [State.upstreamEnds, State.strayData, rx]
      exact discarded.trans (s.rxEnds_eq _)
  · exact ⟨⟨f.send_toSend symbols placed, rfl, rfl⟩, f.backlog_le, f.sends_fill_iff, Forward.send_one_backlog placed,
      fun p rest early enough fresh header total =>
        Forward.line_adds_nothing placed early enough rest fresh header total⟩

/-! ### Packets that are cut -/

theorem onNewest_append (f : ForwardPacket → ForwardPacket) (ahead : List ForwardPacket) (p : ForwardPacket) :
    onNewest f (ahead ++ [p]) = ahead ++ [f p] := by
  induction ahead with
  | nil => rfl
  | cons q ahead ih => cases ahead <;> simp_all [onNewest]

theorem onNewestFlight_append (f : Flight → Flight) (earlier : List Flight) (l : Flight) :
    onNewestFlight f (earlier ++ [l]) = earlier ++ [f l] := by
  induction earlier with
  | nil => rfl
  | cons q earlier ih => cases earlier <;> simp_all [onNewestFlight]

/-- R142, R144: a poisoned packet has its whole length. -/
theorem ForwardPacket.poison_length {p : ForwardPacket} (room : 2 ≤ p.total) : p.poison.placed.length = p.total := by
  simp [ForwardPacket.poison, poisonedCheck, word16]
  omega

/-- R136, R141: the arriving line once it is cut. -/
theorem State.cutLine_eq {s : State} {earlier : List Flight} {l : Flight} {ahead : List ForwardPacket}
    {p : ForwardPacket} (flights : s.forward.flights = earlier ++ [l]) (buffer : s.forward.buffer = ahead ++ [p])
    (arrived : List Byte) :
    let levels := arrived.take (l.nozzles / 4)
    let counted (level : BitVec 2) := if l.blanked then 0 else countLevel level levels
    s.cutLine arrived =
      { s with
        forward :=
          { s.forward with
            buffer := ahead ++ [{ p with placed := p.placed ++ levelsPlaced l.blanked levels }.poison]
            flights :=
              earlier ++ [{ l with n1 := counted 1, n2 := counted 2, n3 := counted 3, upstream := .failed }] } } := by
  intro levels counted
  have last : s.forward.flights.getLast? = some l := by simp [flights]
  simp only [State.cutLine, State.placeLevels, last]
  simp only [flights, buffer, onNewest_append, onNewestFlight_append]
  rfl

/-- Settles O38: the packet in progress is cut by the symbol, and counts once where it is one. -/
theorem packetCutIsOneFault : Obligations.PacketCutIsOneFault := by
  refine ⟨fun s symbol arrived on up => ⟨fun rx => ?_, fun earlier l ahead p rx flights buffer => ?_, fun rx => ?_⟩,
    fun p room => ⟨rfl, ForwardPacket.poison_length room⟩⟩
  · have cut : s.cutPacket arrived = (s.send arrived.length).countFailure := by
      rcases rx with rx | ⟨header, left, rx⟩ <;> simp only [State.cutPacket, rx]
    exact exec_on (f := fun s => s.symbolArrives symbol arrived) rfl on (State.symbolArrives_up cut up)
  · have cut : s.cutPacket arrived = ((s.cutLine arrived).send arrived.length).countFailure := by
      simp only [State.cutPacket, rx]
    rw [State.cutLine_eq flights buffer arrived] at cut
    exact exec_on (f := fun s => s.symbolArrives symbol arrived) rfl on (State.symbolArrives_up cut up)
  · have cut : s.cutPacket arrived = s.send arrived.length := by simp only [State.cutPacket, rx]
    exact exec_on (f := fun s => s.symbolArrives symbol arrived) rfl on (State.symbolArrives_up cut up)

/-! ### HEAD packets -/

/-- Settles O39: the check is judged first, and the room after the packet's own symbols have left. -/
theorem headPacketIsForwarded : Obligations.HeadPacketIsForwarded := by
  intro s payload check h body forward
  have ends (good : Bool) : (s.packetArrives payload.length).countCheck good =
      { s with forward := forward, link := s.linkAfter .idle (some good) } := by
    rw [State.packetArrives_within h]
    exact State.countCheck_linkAfter s _ .idle good
  have judged (good : Bool) (is : decide (crc16 body = check) = good) :
      s.headEnds payload check =
        if good then State.forwardHead { s with forward := forward, link := s.linkAfter .idle (some good) } payload check
        else { s with forward := forward, link := s.linkAfter .idle (some good) } := by
    have shape : s.headEnds payload check =
        if decide (crc16 body = check) then
          ((s.packetArrives payload.length).countCheck (decide (crc16 body = check))).forwardHead payload check
        else (s.packetArrives payload.length).countCheck (decide (crc16 body = check)) := rfl
    rw [shape, is, ends]
  refine ⟨fun bad => ?_, fun good room => ?_, fun good full => ?_⟩
  · exact exec_on (f := fun s => s.headEnds payload check) rfl h.1 (judged false (decide_eq_false bad))
  · refine exec_on (f := fun s => s.headEnds payload check) rfl h.1 ((judged true (decide_eq_true good)).trans ?_)
    exact if_neg (Nat.not_lt.mpr room)
  · refine exec_on (f := fun s => s.headEnds payload check) rfl h.1 ((judged true (decide_eq_true good)).trans ?_)
    have up : (s.linkAfter .idle (some true)).up = true := h.2.1
    refine (if_pos rfl).trans ((if_pos full).trans ?_)
    simp only [State.raiseLink, up]
    rfl

end Sys2Proof.Machine

namespace Sys2Proof.Machine

open Sys2Proof

/-! ### Headers -/

/-- A header of a packet within its sizes is tested once its nine bytes have arrived. -/
theorem exec_lineHeader {s : State} (h : withinPacket s) (x : LineHead) (least : 6 ≤ x.length.toNat)
    (most : x.length.toNat ≤ 518) :
    exec (.lineHeader x.channel x.lineNumber x.waveformSet x.nozzles x.length) s =
      .next (State.testHeader { s with forward := s.forward.send 9, link := s.linkAfter .receiving none } x) := by
  refine exec_on (f := fun s => s.headerCompletes x) rfl h.1 ?_
  have received : ((s.ensureBegun.send headerBytes).symbolReceived) =
      { s with forward := s.forward.send 9, link := s.linkAfter .receiving none } := by
    rw [State.ensureBegun_within h]
    refine (State.symbolReceived_up (s := s.send headerBytes) h.2.1).trans ?_
    simp only [State.linkAfter, ← h.2.2]
    rfl
  simp only [State.headerCompletes, received]
  exact if_neg (by omega)

/-- R139: a header that a test refuses. -/
theorem State.testHeader_refused {s : State} {x : LineHead} {r : RefuseReason} (test : s.headerRefused x = some r) :
    s.testHeader x = s.refuseHeader x r := by
  simp only [State.testHeader, test]

theorem numberOf_eq_some {n v : Nat} {i : Fin n} (h : v = i.val) : numberOf n v = some i := by
  rw [h, numberOf_val]

/-- Settles O40: the four tests of R139 in order. -/
theorem lineHeaderIsRefused : Obligations.LineHeaderIsRefused := by
  intro s channel lineNumber set nozzles length h least most forward refused
  let x : LineHead := ⟨channel, lineNumber, set, nozzles, length⟩
  let t : State := { s with forward := forward, link := s.linkAfter .receiving none }
  have answered {r : RefuseReason} {subject : Subject} {configured : Option Nat} (test : t.headerRefused x = some r)
      (names : refusedSubject channel = subject)
      (holds : (numberOf 12 channel.toNat).map (fun c => (s.routeCfg c).nozzles) = configured) :
      refused r subject configured := by
    refine (exec_lineHeader h x least most).trans (congrArg _ ((State.testHeader_refused test).trans ?_))
    subst names holds
    rfl
  refine ⟨fun out => ?_, fun c is => ?_⟩
  · have absent : numberOf 12 channel.toNat = none := numberOf_eq_none out
    refine answered ?_ ?_ ?_
    · simp only [State.headerRefused, x, absent]
    · simp only [refusedSubject, absent]
    · rw [absent]; rfl
  · have present : numberOf 12 channel.toNat = some c := numberOf_eq_some is
    have subject : refusedSubject channel = .channel c := by simp only [refusedSubject, present]
    have configured : (numberOf 12 channel.toNat).map (fun c => (s.routeCfg c).nozzles) =
        some (s.routeCfg c).nozzles := by rw [present]; rfl
    have tested : t.headerRefused x =
        if nozzles.toNat ≠ (s.routeCfg c).nozzles then some .count
        else if length.toNat ≠ 6 + nozzles.toNat / 4 then some .length
        else if forward.free < length.toNat + 5 then some .noRoom
        else none := by
      simp only [State.headerRefused, x, present]
      rfl
    refine ⟨fun count => ?_, fun count size => ?_, fun count size full => ?_⟩
    · exact answered (tested.trans (if_pos count)) subject configured
    · exact answered (tested.trans ((if_neg (not_not.mpr count)).trans (if_pos size))) subject configured
    · exact answered (tested.trans ((if_neg (not_not.mpr count)).trans
        ((if_neg (not_not.mpr size)).trans (if_pos full)))) subject configured

/-! ### A line's upstream end -/

theorem State.lineArrives_eq {s : State} {earlier : List Flight} {l : Flight} {ahead : List ForwardPacket}
    {p : ForwardPacket} (up : s.link.up = true) (flights : s.forward.flights = earlier ++ [l])
    (buffer : s.forward.buffer = ahead ++ [p]) (levels : List Byte) (check : BitVec 16) :
    let good := decide (crc16 (p.placed ++ levels) = check)
    s.lineArrives l levels check =
      { s with
        link := s.linkAfter .idle (some good)
        forward :=
          Forward.send
            { s.forward with
              buffer := ahead ++ [p.complete l.blanked good levels check]
              flights := earlier ++ [l.arrive good levels] }
            (levels.length + 2) } := by
  intro good
  have bytes : s.lineBytes levels = p.placed ++ levels := by simp [State.lineBytes, buffer]
  simp only [State.lineArrives, bytes, flights, buffer, onNewest_append, onNewestFlight_append]
  let u : State :=
    { s with
      forward :=
        { s.forward with
          buffer := ahead ++ [p.complete l.blanked good levels check]
          flights := earlier ++ [l.arrive good levels] } }
  have ends := State.rxEnds_up (s := u) up (levels.length + 2)
  exact (congrArg (fun t : State => t.countCheck good) ends).trans (State.countCheck_linkAfter u _ .idle good)

/-- Settles O42: the line that arrives is the newest in flight, its packet the newest in the buffer. -/
theorem lineUpstreamEndCompletesThePacket : Obligations.LineUpstreamEndCompletesThePacket := by
  refine ⟨fun s levels check earlier l ahead p on up rx flights buffer size => ?_, fun p levels check => ?_⟩
  · intro good counted
    refine exec_on (f := fun s => s.upstreamEnds levels check) rfl on ?_
    have last : s.forward.flights.getLast? = some l := by simp [flights]
    have ends : s.upstreamEnds levels check = s.lineArrives l levels check := by
      simp only [State.upstreamEnds, rx, last]
      exact if_pos size
    exact ends.trans (State.lineArrives_eq up flights buffer levels check)
  · intro zeros
    refine ⟨?_, ?_, ?_, ?_⟩ <;> simp [ForwardPacket.complete, levelsPlaced, poisonedCheck, zeros]

/-! ### The return lane -/

theorem State.grantArriving_eq_false {s : State} (h : s.returns.grant ≠ .headret) : s.grantArriving = false := by
  unfold State.grantArriving
  split
  · next e _ => exact absurd e h
  · rfl

/-- The arbiter's choice, once the packet has ended and no start-up waits for it. -/
theorem State.returnEnds_chooses {s t : State} (arriving : s.grantArriving = false) (finished : s.finishGrant = t)
    (held : t.nvm.startUpHeld = false) : s.returnEnds = t.chooseGrant := by
  simp [State.returnEnds, arriving, finished, held]

/-- Settles O47: each grant that ends leaves its queue, and the arbiter chooses from what is left. -/
theorem returnLaneChoosesTheNextPacket : Obligations.ReturnLaneChoosesTheNextPacket := by
  unfold Obligations.ReturnLaneChoosesTheNextPacket
  intro chosen
  have choice (u : State) : u.chooseGrant = chosen u := rfl
  refine ⟨fun s on free => ⟨fun grant => ?_, fun bytes r rest grant replies => ?_, fun bytes n rest grant queue => ?_,
    fun h rest grant buffer => ?_⟩, fun s bytes r rest on held grant replies sent => ?_⟩
  · have finished : s.finishGrant = s := by simp only [State.finishGrant, grant]
    rw [← choice]
    exact exec_on (f := State.returnEnds) rfl on
      (State.returnEnds_chooses (State.grantArriving_eq_false (by simp [grant])) finished free)
  · have finished : s.finishGrant = { s with requests := { s.requests with replies := rest } } := by
      simp only [State.finishGrant, grant, State.replySent, replies, List.drop_succ_cons, List.drop_zero]
    rw [← choice]
    exact exec_on (f := State.returnEnds) rfl on
      (State.returnEnds_chooses (State.grantArriving_eq_false (by simp [grant])) finished free)
  · intro left
    have finished : s.finishGrant = { s with notices := { s.notices with queue := left, merged := none } } := by
      simp only [State.finishGrant, grant, NoticeUnit.sent, queue]
      cases merged : s.notices.merged with
      | none => simp [left, merged]
      | some k => cases k <;> simp [left, merged]
    rw [← choice]
    exact exec_on (f := State.returnEnds) rfl on
      (State.returnEnds_chooses (State.grantArriving_eq_false (by simp [grant])) finished free)
  · refine exec_on (f := State.returnEnds) rfl on ?_
    have arriving : s.grantArriving = h.arriving := by simp only [State.grantArriving, grant, buffer]
    have finished : s.finishGrant = { s with returns := { s.returns with buffer := rest } } := by
      simp only [State.finishGrant, grant, buffer, List.drop_succ_cons, List.drop_zero]
    rw [← choice]
    cases still : h.arriving with
    | true => exact if_pos (arriving.trans still)
    | false => exact State.returnEnds_chooses (arriving.trans still) finished free
  · refine exec_on (f := State.returnEnds) rfl on ?_
    have finished : s.finishGrant = { s with requests := { s.requests with replies := rest } } := by
      simp only [State.finishGrant, grant, State.replySent, replies, List.drop_succ_cons, List.drop_zero]
    have none_waits : RequestUnit.restartWaits { s.requests with replies := rest } = false := by
      simpa [RequestUnit.restartWaits, imp_iff_not_or] using sent
    have arriving := State.grantArriving_eq_false (s := s) (by simp [grant])
    simp [State.returnEnds, arriving, finished, held, none_waits]

/-! ### Expiries -/

/-- What an expiry that is waited for keeps. -/
@[simp] theorem State.reach_fields (s : State) (e : Time) :
    (s.reach e).settings = s.settings ∧ (s.reach e).slots = s.slots ∧ (s.reach e).lines = s.lines ∧
      (s.reach e).sense = s.sense ∧ (s.reach e).meters = s.meters ∧ (s.reach e).heads = s.heads ∧
      (s.reach e).waste = s.waste ∧ (s.reach e).routes = s.routes ∧ (s.reach e).trace = s.trace ∧
      (s.reach e).digest = s.digest ∧ (s.reach e).history = s.history ∧ (s.reach e).requests = s.requests ∧
      (s.reach e).notices = s.notices ∧ (s.reach e).link = s.link ∧ (s.reach e).returns = s.returns ∧
      (s.reach e).pins = s.pins ∧ (s.reach e).nvm = s.nvm ∧ (s.reach e).powered = s.powered ∧
      (s.reach e).pending = s.pending ∧ (s.reach e).draws = s.draws := by
  obtain ⟨n, f, waited⟩ := s.reach_cases e
  simp [waited]

/-- Settles O48: the expiry is waited for, and then the grade or the head changes. -/
theorem gradeAndStaleTimersExpire : Obligations.GradeAndStaleTimersExpire := by
  intro s e on
  obtain ⟨n, f, waited⟩ := s.reach_cases e
  refine ⟨fun timer => ?_, fun timer => ?_, fun h timer => ?_⟩
  · have ran : exec (.gradeTimerExpiry .minor) s = .next ((s.reach e).changeGrade .minor) :=
      exec_on (f := fun s => s.gradeExpires .minor) rfl on (by simp only [State.gradeExpires, Link.grade, timer])
    refine ⟨_, ⟨ran, by simp⟩, ?_, ?_⟩
    · rw [waited]; rfl
    · rw [waited]
      cases asserted : s.link.minor.asserted <;> simp [State.changeGrade, Link.grade, Link.putGrade, gradeEvent, asserted] <;> rfl
  · have ran : exec (.gradeTimerExpiry .major) s = .next ((s.reach e).changeGrade .major) :=
      exec_on (f := fun s => s.gradeExpires .major) rfl on (by simp only [State.gradeExpires, Link.grade, timer])
    refine ⟨_, ⟨ran, by simp⟩, ?_, ?_⟩
    · rw [waited]; rfl
    · rw [waited]
      cases asserted : s.link.major.asserted <;> simp [State.changeGrade, Link.grade, Link.putGrade, gradeEvent, asserted] <;> rfl
  · have ran : exec (.staleTimerExpiry h) s = .next ((s.reach e).goStale h) :=
      exec_on (f := fun s => s.staleExpires h) rfl on (by simp only [State.staleExpires, timer])
    have same (k : HeadNo) : (s.reach e).head k = s.head k := by simp [State.head]
    refine ⟨_, ⟨ran, by simp⟩, ?_, fun k other => ?_, ?_⟩
    · exact (State.putHead_same _ h _).trans (by rw [same])
    · exact (State.putHead_other _ _ other).trans (same k)
    · have read : ((s.reach e).putHead h { (s.reach e).head h with staleTimer := none }).head h =
          { s.head h with staleTimer := none } := (State.putHead_same _ h _).trans (by rw [same])
      rw [State.goStale, State.raiseTemp, read]
      simp [State.raise]

end Sys2Proof.Machine

namespace Sys2Proof.Machine

open Sys2Proof

/-! ### The heads, one after another -/

/-- Each head in turn takes a new record and raises its notice, both from its own record: so they do it of the heads as
they stood before. -/
theorem foldl_heads {s : State} {f : State → HeadNo → State} {new : HeadNo → Head → Head}
    {notice : HeadNo → Head → NoticeUnit → NoticeUnit}
    (step : ∀ u h, u.settings = s.settings → u.time = s.time →
      f u h = { u.putHead h (new h (u.head h)) with notices := notice h (u.head h) u.notices })
    (hs : List HeadNo) (once : hs.Nodup) (u : State) (settings : u.settings = s.settings) (time : u.time = s.time) :
    (hs.foldl f u).notices = hs.foldl (fun n h => notice h (u.head h) n) u.notices ∧
      ∀ k : HeadNo, (hs.foldl f u).head k = if k ∈ hs then new k (u.head k) else u.head k := by
  induction hs generalizing u with
  | nil => exact ⟨rfl, fun k => rfl⟩
  | cons h hs ih =>
    obtain ⟨fresh, once⟩ := List.nodup_cons.mp once
    let v : State := { u.putHead h (new h (u.head h)) with notices := notice h (u.head h) u.notices }
    have first : f u h = v := step u h settings time
    have same : v.head h = new h (u.head h) := State.putHead_same u h _
    have others (k : HeadNo) (other : k ≠ h) : v.head k = u.head k := State.putHead_other u _ other
    obtain ⟨notices, heads⟩ := ih once v settings time
    rw [List.foldl_cons, first]
    refine ⟨?_, fun k => ?_⟩
    · rw [notices, List.foldl_cons]
      refine List.foldl_ext _ _ _ fun n k listed => ?_
      rw [others k fun e => fresh (e ▸ listed)]
    · rw [heads k]
      by_cases is : k = h
      · subst is
        simp [fresh, same]
      · simp [is, others k is]

theorem State.putHead_self (s : State) (h : HeadNo) : s.putHead h (s.head h) = s := by
  simp [State.putHead, State.head]

/-! ### HEAD STATUS -/

/-- R146: the record of a head whose temperature value was read. -/
def Head.reads (s : State) (payload : List Byte) (h : HeadNo) (x : Head) : Head :=
  let v := (byteAt payload (1 + h.val)).toNat
  if v = 255 then x
  else { reading := some v, readAt := s.time, staleTimer := some (s.after s.settings.temp.staleTime) }

/-- R36: the TEMP notice of a head that becomes fresh by it. -/
def Head.readNotice (s : State) (payload : List Byte) (h : HeadNo) (x : Head) (u : NoticeUnit) : NoticeUnit :=
  let v := (byteAt payload (1 + h.val)).toNat
  if v = 255 ∨ x.staleTimer.isSome then u
  else u.take s.settings.mask[NoticeKind.temp.position] .temp (.head h) (.temp true (some v))

theorem State.takeTemperature_eq {s u : State} (settings : u.settings = s.settings) (time : u.time = s.time)
    (payload : List Byte) (h : HeadNo) :
    State.takeTemperature payload u h =
      { u.putHead h (Head.reads s payload h (u.head h)) with
        notices := Head.readNotice s payload h (u.head h) u.notices } := by
  unfold State.takeTemperature State.takeReading Head.reads Head.readNotice
  by_cases none_read : (byteAt payload (1 + h.val)).toNat = 255
  · simp only [none_read, if_true, true_or, State.putHead_self]
  · by_cases fresh : (u.head h).staleTimer.isSome = true
    · simp only [none_read, fresh, if_false, if_true, or_true, State.after, settings, time]
      rfl
    · simp only [none_read, fresh, if_false, or_self, State.raiseTemp, State.putHead_same, State.after, settings, time,
        State.raise, State.putHead_fields, Bool.false_eq_true]

theorem onNewestReturn_append (f : HeadReturn → HeadReturn) (ahead : List HeadReturn) (h : HeadReturn) :
    onNewestReturn f (ahead ++ [h]) = ahead ++ [f h] := by
  induction ahead with
  | nil => rfl
  | cons q ahead ih => cases ahead <;> simp_all [onNewestReturn]

/-- A packet that starts between HEADRETs cuts none. -/
theorem State.returnStarts_eq {s : State} (rx : s.returns.rx ≠ .headret) (kind : Byte) (length : BitVec 16) :
    s.returnStarts kind length =
      if kind = 0x31#8 then
        if 123 < length.toNat then
          State.raiseLink { s with returns := { s.returns with rx := .discarding } } .returnOversize
        else s.placeReturn length
      else { s with returns := { s.returns with rx := .discarding } } := by
  have cut : s.cutReturn [] = { s with returns := { s.returns with rx := .idle } } := by
    unfold State.cutReturn
    split
    · next e => exact absurd e rx
    · rfl
  have size : (largestHeadret < laneBytes length.toNat) ↔ 123 < length.toNat := by
    simp only [largestHeadret, laneBytes]
    omega
  simp only [State.returnStarts, cut, size]
  rfl

/-- Settles O46: a HEADRET starts, is cut or is whole, and a good HEAD STATUS is read head by head. -/
theorem headReturnsAreForwardedAndRead : Obligations.HeadReturnsAreForwardedAndRead := by
  intro s on
  refine ⟨fun kind length rx => ⟨fun is fits => ?_, fun is large => ?_, fun other => ?_⟩,
    fun ahead h rx buffer => ⟨fun arrived => ?_, fun payload check size => ?_⟩⟩
  · refine exec_on (f := fun s => s.returnStarts kind length) rfl on ((State.returnStarts_eq rx kind length).trans ?_)
    exact (if_pos is).trans (if_neg (Nat.not_lt.mpr fits))
  · refine exec_on (f := fun s => s.returnStarts kind length) rfl on ((State.returnStarts_eq rx kind length).trans ?_)
    exact (if_pos is).trans (if_pos large)
  · refine exec_on (f := fun s => s.returnStarts kind length) rfl on ((State.returnStarts_eq rx kind length).trans ?_)
    exact if_neg other
  · refine exec_on (f := fun s => s.cutReturn arrived) rfl on ?_
    simp only [State.cutReturn, rx, buffer, onNewestReturn_append]
    rfl
  · intro returns status
    let u : State := { s with returns := returns }
    have last : s.returns.buffer.getLast? = some h := by simp [buffer]
    have whole : s.returnArrives payload check = u.readHeadStatus payload check := by
      simp only [State.returnArrives, rx, last]
      refine (if_pos size).trans ?_
      simp only [buffer, onNewestReturn_append]
      rfl
    refine ⟨fun bad => ?_, fun good => ?_⟩
    · exact exec_on (f := fun s => s.returnArrives payload check) rfl on (whole.trans (if_neg bad))
    · have read : s.returnArrives payload check = headNos.foldl (State.takeTemperature payload) u :=
        whole.trans (if_pos good)
      obtain ⟨notices, heads⟩ := foldl_heads (s := s) (f := State.takeTemperature payload)
        (new := Head.reads s payload) (notice := Head.readNotice s payload)
        (fun v k settings time => State.takeTemperature_eq settings time payload k) headNos (List.nodup_finRange 8) u
        rfl rfl
      have frame (v : State) : keepsBut [.heads, .notices] v (headNos.foldl (State.takeTemperature payload) v) := by
        simp
      refine ⟨_, ⟨exec_on (f := fun s => s.returnArrives payload check) rfl on read, ?_⟩, ?_, notices, fun k => ?_⟩
      · refine keepsBut.trans (t := u) ?_ ((frame u).mono (by decide))
        simp [u]
      · exact (frame u).2.2 .returns (by decide)
      · exact (heads k).trans (if_pos (List.mem_finRange k))

/-! ### A header that opens a line -/

theorem Gate.isOpen_eq (g : Gate) : g.isOpen = decide (g = ⟨false, false, false, false, false⟩) := by
  obtain ⟨save, route, hold, supply, settle⟩ := g
  simp [Gate.isOpen, Bool.and_assoc]

/-- R66: the channel's record once a header was taken. -/
theorem State.settleCountdown_route (s : State) (c : Channel) :
    let r := s.route c
    (s.settleCountdown c).route c =
      { r with
        settleCount := r.settleCount - 1
        gate := if r.settleCount = 1 then { r.gate with settle := false } else r.gate } := by
  intro r
  unfold State.settleCountdown
  by_cases zero : r.settleCount = 0
  · refine (congrArg (fun u : State => u.route c) (if_pos zero)).trans ?_
    change r = _
    generalize r = x at zero
    cases x
    simp_all
  · by_cases one : r.settleCount = 1
    · simp only [r] at one ⊢
      simp [one, State.setGate_route]
    · simp only [r] at zero one ⊢
      simp [zero, one]

theorem State.gateRaised_same (s : State) (u : NoticeUnit) (c : Channel) (g : Gate) : s.gateRaised u c g g = u :=
  if_pos rfl

/-- R66, R64: a settle count that comes to 0 raises a GATE notice where SETTLE was the primary reason. -/
theorem State.settleCountdown_notices (s : State) (c : Channel) :
    (s.settleCountdown c).notices =
      s.gateRaised s.notices c (s.route c).gate ((s.settleCountdown c).route c).gate := by
  rw [State.settleCountdown_route]
  unfold State.settleCountdown
  by_cases one : (s.route c).settleCount = 1
  · simp [one, State.setGate_notices]
    rfl
  · by_cases zero : (s.route c).settleCount = 0
    · simp only [zero, if_true, if_neg (by decide : ¬(0 = 1)), State.gateRaised_same]
    · simp only [zero, one, if_false, State.gateRaised_same]
      rfl

theorem State.settleCountdown_otherRoutes (s : State) (c : Channel) : otherRoutes c s (s.settleCountdown c) := by
  unfold State.settleCountdown
  simp [otherRoutes.refl]

/-- R140, step 3, for the channel's meter record. -/
theorem State.countBlanked_meter (s : State) (c : Channel) (blanked : Bool) :
    (s.countBlanked c blanked).meter c =
      { s.meter c with linesBlanked := (s.meter c).linesBlanked + if blanked then 1 else 0 } := by
  cases blanked
  · simp [State.countBlanked]
  · simp [State.countBlanked]

theorem State.countBlanked_otherMeters (s : State) (c : Channel) (blanked : Bool) :
    otherMeters c s (s.countBlanked c blanked) := by
  intro d other
  cases blanked
  · rfl
  · exact State.putMeter_other s _ other

theorem State.drawnFor_draws (s : State) (set : Byte) :
    (s.drawnFor set).draws = s.draws + if set.toNat < 4 then 0 else 1 := by
  unfold State.drawnFor
  split <;> rfl

/-- Settles O41: the header is taken in the order of R140, each step in a block of its own. -/
theorem lineHeaderOpensALine : Obligations.LineHeaderOpensALine := by
  intro s c lineNumber set nozzles length h count size most forward r opened room
  let x : LineHead := ⟨BitVec.ofNat 8 c.val, lineNumber, set, nozzles, length⟩
  let u : State := { s with forward := forward, link := s.linkAfter .receiving none }
  have channel : numberOf 12 (BitVec.ofNat 8 c.val).toNat = some c := numberOf_ofNat c (by decide)
  have passes : u.headerRefused x = none := by
    simp only [State.headerRefused, x, channel]
    refine (if_neg (not_not.mpr count)).trans ((if_neg (not_not.mpr size)).trans (if_neg (Nat.not_lt.mpr room)))
  have taken : u.testHeader x = u.acceptHeader c x := by
    simp only [State.testHeader, passes, x, channel]
  let v := (u.recordLine c lineNumber).settleCountdown c
  let w := (v.countBlanked c (!opened)).drawnFor set
  have latched : u.latchLine c x =
      { channel := c, lineNumber := lineNumber, source := r.active.map fun i => (i, (s.slot i).tenure)
        volumes := s.volumesFor c set, head := (s.routeCfg c).head, blanked := !opened
        nozzles := nozzles.toNat, n1 := 0, n2 := 0, n3 := 0, upstream := .arriving } := by
    simp only [State.latchLine, Gate.isOpen_eq]
    rfl
  let t : State :=
    { w with
      forward :=
        { forward with
          buffer := forward.buffer ++ [x.forwarded]
          flights := forward.flights ++ [u.latchLine c x] }
      link := s.linkAfter .line none }
  have quiet : keepsBut [.routes, .notices, .meters, .draws] u w := by simp [w, v]
  have accepted : u.acceptHeader c x = t := by
    have link : w.link = u.link := quiet.2.2 .link (by decide)
    have buffer : w.forward = u.forward := quiet.2.2 .forward (by decide)
    have shape : u.acceptHeader c x =
        { w with
          forward :=
            { w.forward with
              buffer := w.forward.buffer ++ [x.forwarded]
              flights := w.forward.flights ++ [u.latchLine c x] }
          link := { w.link with rx := .line } } := by
      have blanked : (u.latchLine c x).blanked = !opened := by rw [latched]
      simp only [State.acceptHeader, blanked]
      rfl
    rw [shape, link, buffer]
    rfl
  have ran := exec_lineHeader h x (by change 6 ≤ length.toNat; omega) most
  have routes : keepsBut [.meters, .draws] v w := by simp [w]
  have recorded : (u.recordLine c lineNumber).route c = { r with lastLine := some lineNumber } :=
    State.putRoute_same u c _
  have route : v.route c =
      { r with
        lastLine := some lineNumber, settleCount := r.settleCount - 1
        gate := if r.settleCount = 1 then { r.gate with settle := false } else r.gate } := by
    have counted := State.settleCountdown_route (u.recordLine c lineNumber) c
    rw [recorded] at counted
    exact counted
  have route_w (d : Channel) : w.route d = v.route d := by
    rw [State.route, State.route, routes.2.2 .routes (by decide)]
  have meters : keepsBut [.routes, .notices] u v := by simp [v]
  have meter_v (d : Channel) : v.meter d = s.meter d :=
    (congrArg (fun m : Vector Meter 12 => m[d]) (meters.2.2 .meters (by decide))).trans rfl
  have meter_w (d : Channel) : w.meter d = (v.countBlanked c (!opened)).meter d := by
    have keeps : keepsBut [.draws] (v.countBlanked c (!opened)) w := by simp [w]
    rw [State.meter, State.meter, keeps.2.2 .meters (by decide)]
  refine ⟨t, ⟨ran.trans (congrArg _ (taken.trans accepted)), ?_⟩, rfl, rfl, rfl, ?_, rfl, fun d other => ?_,
    (route_w c).trans route, fun d other => ?_, ?_, ?_, ?_⟩
  · have begun : keepsBut [.link, .forward, .notices, .routes, .meters, .draws] s u := by simp [u]
    have changed : keepsBut [.link, .forward, .notices, .routes, .meters, .draws] w t := by simp [t]
    exact (begun.trans (quiet.mono (by decide))).trans changed
  · exact congrArg (fun l => forward.flights ++ [l]) latched
  · refine (route_w d).trans ((State.settleCountdown_otherRoutes _ c d other).trans ?_)
    exact State.putRoute_other u _ other
  · exact (meter_w d).trans ((State.countBlanked_otherMeters v c _ d other).trans (meter_v d))
  · refine (meter_w c).trans ((State.countBlanked_meter v c _).trans ?_)
    rw [meter_v]
    cases opened <;> rfl
  · have draws : (v.countBlanked c (!opened)).draws = s.draws := by
      have keeps : keepsBut [.routes, .notices, .meters] u (v.countBlanked c (!opened)) := by simp [v]
      exact keeps.2.2 .draws (by decide)
    exact (State.drawnFor_draws _ set).trans (by rw [draws])
  · have noticed := State.settleCountdown_notices (u.recordLine c lineNumber) c
    have kept : w.notices = v.notices := routes.2.2 .notices (by decide)
    refine kept.trans (noticed.trans ?_)
    rw [recorded, State.gateRaised_congr (s := s) (by rfl)]
    exact congrArg (fun x : Route => s.gateRaised s.notices c r.gate x.gate) (route_w c).symm

end Sys2Proof.Machine

/-!
PROOFS. The slot lines (05_the_cartridge_bus.md): what a line takes of its pending entries, the steps of an attempt, and
the loss of the link, which makes checkpoints due.
-/

namespace Sys2Proof.Machine

open Sys2Proof

/-! ### Pending entries -/

theorem otherLines.refl (i : SlotNo) (s : State) : otherLines i s s := fun _ _ => rfl

theorem otherLines.trans {i : SlotNo} {s t u : State} (h : otherLines i s t) (k : otherLines i t u) :
    otherLines i s u := fun j other => (k j other).trans (h j other)

theorem State.putLine_otherLines (s : State) (i : SlotNo) (l : LineCtl) : otherLines i s (s.putLine i l) :=
  fun _ other => State.putLine_other s l other

theorem State.putLine_putLine (s : State) (i : SlotNo) (l k : LineCtl) :
    (s.putLine i l).putLine i k = s.putLine i k := by
  simp [State.putLine]

/-- R105: a line that is not IDLE takes nothing. -/
theorem State.takePending_busy {s : State} {i : SlotNo} (busy : (s.line i).state ≠ .idle) : s.takePending i = s :=
  if_pos busy

section
variable {s : State} {i : SlotNo} (idle : (s.line i).state = .idle)
include idle

theorem State.takePending_identify (probe : (s.line i).pendProbe = some .identify) :
    s.takePending i =
      s.putLine i (LineCtl.sendBreak { s.line i with pendProbe := none }
        (Transaction.start .identify (s.slot i).tenure) s.policy.bitRate (s.after 3)) := by
  simp only [State.takePending, idle, probe]
  rfl

theorem State.takePending_readFill (probe : (s.line i).pendProbe = some .readFill) :
    s.takePending i =
      s.putLine i (LineCtl.sendRequest { s.line i with pendProbe := none }
        (Transaction.start .readFill (s.slot i).tenure) s.policy.bitRate) := by
  simp only [State.takePending, idle, probe]
  rfl

theorem State.takePending_challenge {n : Nonce} (probe : (s.line i).pendProbe = none)
    (challenge : (s.line i).pendChallenge = some n) :
    s.takePending i =
      s.putLine i (LineCtl.sendRequest { s.line i with pendChallenge := none }
        { Transaction.start .challenge (s.slot i).tenure with nonce := n } s.policy.bitRate) := by
  simp only [State.takePending, idle, probe, challenge]
  rfl

theorem State.takePending_checkpoint (probe : (s.line i).pendProbe = none) (challenge : (s.line i).pendChallenge = none)
    (due : (s.line i).pendCheckpoint = true) : s.takePending i = s.startCheckpoint i := by
  simp [State.takePending, idle, probe, challenge, due]

theorem State.takePending_nothing (probe : (s.line i).pendProbe = none) (challenge : (s.line i).pendChallenge = none)
    (due : (s.line i).pendCheckpoint = false) : s.takePending i = s := by
  simp [State.takePending, idle, probe, challenge, due]

end

/-- R107: a checkpoint begins: the line waits for the write tag that the Digest Engine is asked for. -/
theorem State.startCheckpoint_eq (s : State) (i : SlotNo) :
    s.startCheckpoint i =
      { s.putLine i ((s.line i).checkpointing (s.slot i)) with digest := s.digestWithWriteTag s.digest i (s.slot i) } :=
  rfl

/-- What a line takes is one of the four entries, or nothing; only a checkpoint asks the Digest Engine. -/
theorem State.takePending_cases (s : State) (i : SlotNo) :
    (∃ l, s.takePending i = s.putLine i l) ∨ s.takePending i = s.startCheckpoint i := by
  by_cases idle : (s.line i).state = .idle
  · cases probe : (s.line i).pendProbe with
    | some step =>
      cases step with
      | identify => exact .inl ⟨_, State.takePending_identify idle probe⟩
      | readFill => exact .inl ⟨_, State.takePending_readFill idle probe⟩
    | none =>
      cases challenge : (s.line i).pendChallenge with
      | some n => exact .inl ⟨_, State.takePending_challenge idle probe challenge⟩
      | none =>
        cases due : (s.line i).pendCheckpoint with
        | true => exact .inr (State.takePending_checkpoint idle probe challenge due)
        | false =>
          refine .inl ⟨s.line i, (State.takePending_nothing idle probe challenge due).trans ?_⟩
          simp [State.putLine, State.line]
  · refine .inl ⟨s.line i, (State.takePending_busy idle).trans ?_⟩
    simp [State.putLine, State.line]

theorem State.takePending_otherLines (s : State) (i : SlotNo) : otherLines i s (s.takePending i) := by
  rcases s.takePending_cases i with ⟨l, e⟩ | e <;> rw [e]
  · exact s.putLine_otherLines i l
  · exact s.putLine_otherLines i _

theorem LineCtl.takesCheckpoint_iff (l : LineCtl) :
    l.takesCheckpoint = true ↔ l.state = .idle ∧ l.pendProbe = none ∧ l.pendChallenge = none := by
  simp [LineCtl.takesCheckpoint, and_assoc]

/-- R105, R107: a checkpoint that becomes due on a line that takes it begins. -/
theorem State.placeCheckpoint_takes {s : State} {i : SlotNo} (takes : (s.line i).takesCheckpoint = true) :
    s.placeCheckpoint i =
      { s.putLine i ((s.line i).checkpointing (s.slot i)) with digest := s.digestWithWriteTag s.digest i (s.slot i) } := by
  obtain ⟨idle, probe, challenge⟩ := (s.line i).takesCheckpoint_iff.mp takes
  let t := s.putLine i { s.line i with pendCheckpoint := true }
  have line : t.line i = { s.line i with pendCheckpoint := true } := State.putLine_same s i _
  have begins : t.takePending i = t.startCheckpoint i :=
    State.takePending_checkpoint (by rw [line]; exact idle) (by rw [line]; exact probe) (by rw [line]; exact challenge)
      (by rw [line])
  refine begins.trans ((State.startCheckpoint_eq t i).trans ?_)
  rw [line, State.putLine_putLine]
  rfl

theorem State.placeCheckpoint_busy {s : State} {i : SlotNo} (busy : (s.line i).state ≠ .idle) :
    s.placeCheckpoint i = s.putLine i { s.line i with pendCheckpoint := true } :=
  State.takePending_busy (by rw [State.putLine_same]; exact busy)

theorem State.placeCheckpoint_otherLines (s : State) (i : SlotNo) : otherLines i s (s.placeCheckpoint i) :=
  (s.putLine_otherLines i _).trans (State.takePending_otherLines _ i)

/-- R107: the Digest Engine is asked only by a checkpoint that begins. -/
theorem State.placeCheckpoint_digest (s : State) (i : SlotNo) :
    (s.placeCheckpoint i).digest =
      if (s.line i).takesCheckpoint then s.digestWithWriteTag s.digest i (s.slot i) else s.digest := by
  cases takes : (s.line i).takesCheckpoint with
  | true => rw [State.placeCheckpoint_takes takes]; rfl
  | false =>
    by_cases idle : (s.line i).state = .idle
    · let t := s.putLine i { s.line i with pendCheckpoint := true }
      have line : t.line i = { s.line i with pendCheckpoint := true } := State.putLine_same s i _
      have idle_t : (t.line i).state = .idle := by rw [line]; exact idle
      change (t.takePending i).digest = s.digest
      cases probe : (s.line i).pendProbe with
      | some step =>
        cases step with
        | identify => rw [State.takePending_identify idle_t (by rw [line]; exact probe)]; rfl
        | readFill => rw [State.takePending_readFill idle_t (by rw [line]; exact probe)]; rfl
      | none =>
        cases challenge : (s.line i).pendChallenge with
        | some n =>
          rw [State.takePending_challenge idle_t (by rw [line]; exact probe) (by rw [line]; exact challenge)]; rfl
        | none => simp [LineCtl.takesCheckpoint, idle, probe, challenge] at takes
    · rw [State.placeCheckpoint_busy idle]; rfl

/-! ### The steps of an attempt -/

/-- R101: a reply has ended by its length byte. -/
theorem replyEnded_iff (reply : List Byte) :
    replyEnded reply = true ↔
      2 ≤ reply.length ∧
        (if (byteAt reply 1).toNat ≤ 40 then 3 + (byteAt reply 1).toNat ≤ reply.length else 43 ≤ reply.length) := by
  match reply with
  | [] => simp [replyEnded]
  | [_] => simp [replyEnded]
  | kind :: len :: rest =>
    have length : (byteAt (kind :: len :: rest) 1) = len := rfl
    rw [length]
    simp only [replyEnded, List.length_cons]
    split <;> simp

theorem foldl_toNat_eq_sum (bytes : List Byte) (n : Nat) :
    bytes.foldl (fun n b => n + b.toNat) n = n + (bytes.map BitVec.toNat).sum := by
  induction bytes generalizing n with
  | nil => simp
  | cons b bytes ih => simp [ih, Nat.add_assoc]

theorem sumsToZero_iff (bytes : List Byte) : sumsToZero bytes = true ↔ (bytes.map BitVec.toNat).sum % 256 = 0 := by
  simp [sumsToZero, foldl_toNat_eq_sum]

/-- R102: the failure kind of an attempt with a reply, where no error was noted. -/
theorem judgeAttempt_ended (kind : TransKind) (reply : List Byte) (fits : (byteAt reply 1).toNat ≤ 40) :
    judgeAttempt kind none .ended reply =
      if ¬(reply.map BitVec.toNat).sum % 256 = 0 then some .check
      else if byteAt reply 0 ≠ kind.replyKind then some .kind
      else if (byteAt reply 1).toNat ≠ kind.replyLength then some .length
      else if kind = .identify ∧ byteAt reply 15 = 0#8 then some .content
      else none := by
  have short : ¬40 < (byteAt reply 1).toNat := Nat.not_lt.mpr fits
  have check : (!sumsToZero reply) = true ↔ ¬(reply.map BitVec.toNat).sum % 256 = 0 := by
    rw [← sumsToZero_iff]
    simp
  simp [judgeAttempt, short, ← check]

theorem judgeAttempt_noted (kind : TransKind) (k : FailKind) {how : ReplyEnd} (reply : List Byte) (h : how ≠ .noReply) :
    judgeAttempt kind (some k) how reply = some k := by
  simp [judgeAttempt, h]

theorem judgeAttempt_long (kind : TransKind) {how : ReplyEnd} {reply : List Byte} (h : how ≠ .noReply)
    (long : 40 < (byteAt reply 1).toNat) : judgeAttempt kind none how reply = some .length := by
  simp [judgeAttempt, h, long]

theorem judgeAttempt_gap (kind : TransKind) {reply : List Byte} (fits : (byteAt reply 1).toNat ≤ 40) :
    judgeAttempt kind none .gap reply = some .gap := by
  simp [judgeAttempt, Nat.not_lt.mpr fits]

/-- The end of an attempt, with its judgement written as the two lines it leaves. -/
theorem State.endAttempt_eq {s : State} {i : SlotNo} {t : Transaction} (trans : (s.line i).trans = some t)
    (how : ReplyEnd) :
    s.endAttempt i how =
      match judgeAttempt t.kind t.noted how (s.line i).received with
      | none =>
        s.putLine i
          { s.line i with
            state := .quiet, timer := some (s.time + 1), trans := some { t with judged := some .good } }
      | some k =>
        s.putLine i
          { s.line i with
            state := .quiet, timer := some (s.time + 1), trans := some { t with judged := some (.failed k) }
            lastFailure := some { kind := t.kind, attempt := t.attempt, failure := k } } := by
  simp only [State.endAttempt, trans, LineCtl.endAttempt]
  cases judgeAttempt t.kind t.noted how (s.line i).received <;> rfl

theorem State.reachLine_cases (s : State) (i : SlotNo) :
    ∃ n f, s.reachLine i = { s with time := n, forward := f } := by
  unfold State.reachLine
  split
  · exact ⟨s.time, s.forward, rfl⟩
  · exact s.reach_cases _

theorem State.reachLine_line (s : State) (i j : SlotNo) : (s.reachLine i).line j = s.line j := by
  obtain ⟨n, f, waited⟩ := s.reachLine_cases i
  rw [waited]
  rfl

/-- R93: the parity bit that makes the count of 1s odd. -/
theorem frameOf_spec (b : Byte) :
    ∃ parity : Bool,
      frameOf b = false :: ((List.finRange 8).map (fun k => b.getLsbD k.val) ++ [parity, true]) ∧
        (((List.finRange 8).filter fun k => b.getLsbD k.val).length + parity.toNat) % 2 = 1 ∧
        frameError b parity true = none := by
  revert b
  decide +kernel

theorem frameError_spec (data : Byte) (parity : Bool) :
    frameError data parity false = some .framing ∧
      frameError data parity true =
        if (((List.finRange 8).filter fun k => data.getLsbD k.val).length + parity.toNat) % 2 = 1 then none
        else some .parity := by
  revert data parity
  decide +kernel

end Sys2Proof.Machine

/-!
PROOFS. The steps of an attempt on a slot line (R93, R94, R100 to R102).
-/

namespace Sys2Proof.Machine

open Sys2Proof

/-! ### The line after each step -/

theorem State.breakEnds_eq {s : State} {i : SlotNo} (h : (s.line i).state = .break) :
    s.breakEnds i = (s.reachLine i).putLine i { s.line i with state := .sending, timer := none } := if_pos h

theorem State.requestEnds_eq {s : State} {i : SlotNo} (h : (s.line i).state = .sending) :
    s.requestEnds i = s.putLine i { s.line i with state := .awaiting, timer := some (s.time + 3) } := if_pos h

/-- R100, R101: a byte joins the reply while the line waits for one, or within a reply that has not ended. -/
theorem State.byteReceived_eq {s : State} {i : SlotNo} (data : Byte) (parity stop : Bool)
    (h : (s.line i).state = .awaiting ∨ (s.line i).state = .receiving ∧ replyEnded (s.line i).received = false) :
    s.byteReceived i data parity stop =
      s.putLine i ((s.line i).receive data (frameError data parity stop) (s.time + 2)) := by
  rcases h with awaiting | ⟨receiving, goesOn⟩
  · simp only [State.byteReceived, awaiting]
    rfl
  · simp only [State.byteReceived, receiving, goesOn]
    rfl

theorem State.responseExpires_eq {s : State} {i : SlotNo} (h : (s.line i).state = .awaiting) :
    s.responseExpires i = (s.reachLine i).endAttempt i .noReply := if_pos h

theorem State.replyEnds_eq {s : State} {i : SlotNo} (h : (s.line i).state = .receiving)
    (ended : replyEnded (s.line i).received = true) : s.replyEnds i = s.endAttempt i .ended := by
  simp [State.replyEnds, h, ended]

theorem State.gapExpires_eq {s : State} {i : SlotNo} (h : (s.line i).state = .receiving)
    (goesOn : replyEnded (s.line i).received = false) :
    s.gapExpires i =
      ((s.reachLine i).putLine i
        { s.line i with
          trans := (s.line i).trans.map fun x => x.note (gapError (s.line i).received) }).endAttempt i .gap := by
  simp [State.gapExpires, h, goesOn]

/-- R94: the level of a break from what is left of its timer. -/
theorem State.breakLevel_of_ahead {s : State} {i : SlotNo} {e : Time} (timer : (s.line i).timer = some e)
    (ahead : (e - s.time).toNat < 2147483648) : s.breakLevel i = decide ((e - s.time).toNat ≤ 1) := by
  simp only [State.breakLevel, timer, State.leftOf, State.left, State.ahead, decide_eq_true ahead]
  rfl

/-- Settles O56: by the line's state, and the first failure kind that applies. -/
theorem attemptsRunOnTheLine : Obligations.AttemptsRunOnTheLine := by
  refine ⟨fun s i on => ⟨fun state => ?_, fun state => ?_, fun data parity stop state => ?_, fun t trans =>
      ⟨fun state => ?_, fun state ended => ?_, fun state goesOn => ?_⟩⟩,
    replyEnded_iff, fun kind noted reply => ⟨rfl, fun k how h => judgeAttempt_noted kind k reply h,
      fun how h long => judgeAttempt_long kind h long,
      fun fits => ⟨judgeAttempt_gap kind fits, judgeAttempt_ended kind reply fits⟩⟩,
    fun s i e _ timer ahead => State.breakLevel_of_ahead timer ahead, fun l => rfl, frameOf_spec, frameError_spec⟩
  · exact exec_on (f := fun s => s.breakEnds i) rfl on (State.breakEnds_eq state)
  · exact exec_on (f := fun s => s.requestEnds i) rfl on (State.requestEnds_eq state)
  · exact exec_on (f := fun s => s.byteReceived i data parity stop) rfl on (State.byteReceived_eq data parity stop state)
  · refine exec_on (f := fun s => s.responseExpires i) rfl on ((State.responseExpires_eq state).trans ?_)
    have kept : (s.reachLine i).line i = s.line i := s.reachLine_line i i
    rw [State.endAttempt_eq (kept.symm ▸ trans : ((s.reachLine i).line i).trans = some t), kept] <;> rfl
  · exact exec_on (f := fun s => s.replyEnds i) rfl on ((State.replyEnds_eq state ended).trans (State.endAttempt_eq trans _))
  · refine exec_on (f := fun s => s.gapExpires i) rfl on ((State.gapExpires_eq state goesOn).trans ?_)
    have noted : (s.line i).trans.map (fun x => x.note (gapError (s.line i).received)) =
        some (t.note (gapError (s.line i).received)) := by rw [trans]; rfl
    rw [State.endAttempt_eq ((congrArg LineCtl.trans (State.putLine_same _ i _)).trans noted)]
    simp only [State.putLine_same, State.putLine_putLine]
    rfl

end Sys2Proof.Machine

/-!
PROOFS. The loss of the link (R150): the checkpoints it makes due, slot by slot, and the lines it abandons.
-/

namespace Sys2Proof.Machine

open Sys2Proof

/-! ### The checkpoints that become due -/

/-- R23: microlitres were drawn that no checkpoint has written. -/
def Slot.hasDrawn (x : Slot) : Bool := x.state.supplies && decide (0 < x.drawn)

/-- R150, R105, R107: what the loss of the link makes of a slot's line. -/
def LineCtl.dueOnLoss (l k : LineCtl) (x : Slot) : Prop :=
  (x.hasDrawn = false → k = l) ∧
    (x.hasDrawn = true → l.state ≠ .idle → k = { l with pendCheckpoint := true }) ∧
    ((x.hasDrawn && l.takesCheckpoint) = true → k = l.checkpointing x)

theorem State.linkLostDue_eq (s : State) (i : SlotNo) :
    s.linkLostDue i = if (s.slot i).hasDrawn then s.placeCheckpoint i else s := rfl

theorem State.linkLostDue_line (s : State) (i : SlotNo) :
    (s.line i).dueOnLoss ((s.linkLostDue i).line i) (s.slot i) := by
  rw [State.linkLostDue_eq]
  refine ⟨fun none => ?_, fun due busy => ?_, fun begins => ?_⟩
  · rw [if_neg (by simp [none])]
  · rw [if_pos due, State.placeCheckpoint_busy busy, State.putLine_same]
  · obtain ⟨due, takes⟩ := Bool.and_eq_true_iff.mp begins
    rw [if_pos due, State.placeCheckpoint_takes takes]
    exact State.putLine_same s i _

theorem State.linkLostDue_otherLines (s : State) (i : SlotNo) : otherLines i s (s.linkLostDue i) := by
  rw [State.linkLostDue_eq]
  split
  · exact s.placeCheckpoint_otherLines i
  · exact otherLines.refl i s

theorem State.linkLostDue_digest (s : State) (i : SlotNo) :
    (s.linkLostDue i).digest =
      if (s.slot i).hasDrawn && (s.line i).takesCheckpoint then s.digestWithWriteTag s.digest i (s.slot i)
      else s.digest := by
  rw [State.linkLostDue_eq]
  cases (s.slot i).hasDrawn
  · rfl
  · exact s.placeCheckpoint_digest i

theorem State.linkLostDue_slot (s : State) (i j : SlotNo) : (s.linkLostDue i).slot j = s.slot j := by
  have kept : keepsBut [.lines, .digest] s (s.linkLostDue i) := by simp
  exact congrArg (fun slots : Vector Slot 16 => slots[j]) (kept.2.2 .slots (by decide))

theorem State.linkLostDue_writeTag (s : State) (i : SlotNo) :
    (s.linkLostDue i).digestWithWriteTag = s.digestWithWriteTag := by
  have kept : keepsBut [.lines, .digest] s (s.linkLostDue i) := by simp
  have nvm : (s.linkLostDue i).nvm = s.nvm := kept.2.2 .nvm (by decide)
  funext d j x
  unfold State.digestWithWriteTag
  rw [nvm]

theorem foldl_linkLostDue_line_other (order : List SlotNo) (s : State) {j : SlotNo} (h : j ∉ order) :
    (order.foldl State.linkLostDue s).line j = s.line j := by
  induction order generalizing s with
  | nil => rfl
  | cons i order ih =>
    rw [List.foldl_cons, ih _ fun later => h (.tail i later)]
    exact s.linkLostDue_otherLines i j fun same => h (same ▸ .head order)

theorem foldl_linkLostDue_line (order : List SlotNo) (once : order.Nodup) (s : State) {j : SlotNo} (h : j ∈ order) :
    (s.line j).dueOnLoss ((order.foldl State.linkLostDue s).line j) (s.slot j) := by
  induction order generalizing s with
  | nil => cases h
  | cons i order ih =>
    obtain ⟨away, once⟩ := List.nodup_cons.mp once
    rw [List.foldl_cons]
    rcases List.mem_cons.mp h with same | later
    · subst same
      rw [foldl_linkLostDue_line_other order _ away]
      exact s.linkLostDue_line j
    · have apart : j ≠ i := fun same => away (same ▸ later)
      have step := ih once (s.linkLostDue i) later
      rwa [s.linkLostDue_otherLines i j apart, s.linkLostDue_slot i j] at step

/-- The Digest Engine is asked in ascending slot number, by the lines that take their checkpoint at once. -/
theorem foldl_linkLostDue_digest (order : List SlotNo) (once : order.Nodup) (s : State) :
    (order.foldl State.linkLostDue s).digest =
      (order.filter fun i => (s.slot i).hasDrawn && (s.line i).takesCheckpoint).foldl
        (fun d i => s.digestWithWriteTag d i (s.slot i)) s.digest := by
  induction order generalizing s with
  | nil => rfl
  | cons i order ih =>
    obtain ⟨away, once⟩ := List.nodup_cons.mp once
    have same : (order.filter fun j =>
          ((s.linkLostDue i).slot j).hasDrawn && ((s.linkLostDue i).line j).takesCheckpoint) =
        order.filter fun j => (s.slot j).hasDrawn && (s.line j).takesCheckpoint := by
      refine List.filter_congr fun j hj => ?_
      rw [s.linkLostDue_slot i j, s.linkLostDue_otherLines i j fun eq => away (eq ▸ hj)]
    rw [List.foldl_cons, ih once, same]
    simp only [s.linkLostDue_slot i, s.linkLostDue_writeTag i, s.linkLostDue_digest i]
    rw [List.filter_cons]
    split <;> rfl

/-! ### The forward buffer -/

/-- The level bytes placed, but for the counts in the line's record. -/
theorem State.placeLevels_forward (s : State) (arrived : List Byte) :
    (s.placeLevels arrived).forward =
      { s.forward.levelsPlaced arrived with flights := (s.placeLevels arrived).forward.flights } := by
  unfold State.placeLevels Forward.levelsPlaced
  cases flights : s.forward.flights.getLast? with
  | none => rfl
  | some l =>
    cases buffer : s.forward.buffer.getLast? with
    | none =>
      rw [List.getLast?_eq_none_iff] at buffer
      simp only [buffer]
      simp [onNewest, ← buffer]
    | some p =>
      obtain ⟨ahead, all⟩ := List.getLast?_eq_some_iff.mp buffer
      simp only [all, onNewest_append, List.dropLast_concat]
      rfl

/-- What is sent, and what of it the abandonment leaves, does not depend on the records of the lines. -/
theorem State.reach_send_abandoned (s t : State) (f : List Flight) (n : Nat) (e : Time) (time : t.time = s.time)
    (forward : t.forward = { s.forward with flights := f }) :
    ((t.send n).reach e).time = ((s.send n).reach e).time ∧
      ((t.send n).reach e).forward.abandoned = ((s.send n).reach e).forward.abandoned := by
  have ahead : (t.send n).ahead e = (s.send n).ahead e := congrArg (fun u => decide ((e - u).toNat < 2147483648)) time
  simp only [State.reach, ahead]
  split
  · refine ⟨rfl, ?_⟩
    simp only [State.waits, State.send, time, forward]
    rfl
  · refine ⟨time, ?_⟩
    simp only [State.send, forward]
    rfl

/-! ### The loss -/

/-- R150: the part once the link is declared lost and the service level has ended, before the checkpoints. -/
def State.linkDown (s : State) : State :=
  State.endService (State.dropArriving { s with link := { s.link with up := false, timer := none } })

theorem State.linkDown_link (s : State) :
    s.linkDown.link =
      { s.link with
        up := false, timer := none
        rx := match s.link.rx with | .refusedLine _ _ => .lostRest | _ => .idle } := by
  unfold State.linkDown
  rw [State.endService_eq]
  cases rx : s.link.rx <;> split <;> simp [State.dropArriving, State.abandonLines, State.raiseUnlock, State.raise, rx] <;> rfl

theorem State.linkDown_forward (s : State) : s.linkDown.forward = s.forward.abandoned := by
  unfold State.linkDown
  rw [State.endService_eq]
  split <;> rfl

theorem State.loseLink_eq (s : State) : s.loseLink = (slotNos.foldl State.linkLostDue s.linkDown).raiseLink .lost := rfl

theorem State.linkDown_notices (s : State) :
    s.linkDown.notices =
      if s.requests.access = .service then
        s.notices.take s.settings.mask[NoticeKind.unlock.position] .unlock .none
          (.unlock .levelEnded .operate s.requests.failedUnlocks (s.leftOf s.requests.lockout))
      else s.notices := by
  refine (State.endService_notices _).trans ?_
  congr 1

theorem State.loseLink_notices (s : State) :
    s.loseLink.notices =
      s.linkDown.notices.take s.settings.mask[NoticeKind.link.position] .link .none
        (.link .lost false s.link.minor.counter s.link.major.counter s.link.minor.asserted s.link.major.asserted) := by
  have due : keepsBut [.lines, .digest] s.linkDown (slotNos.foldl State.linkLostDue s.linkDown) := by simp
  have notices := due.2.2 .notices (by decide)
  have link := due.2.2 .link (by decide)
  have settings := due.2.2 .settings (by decide)
  have mask : s.linkDown.settings = s.settings := by
    have down : keepsBut [.link, .forward, .requests, .notices] s s.linkDown := by simp [State.linkDown]
    exact down.2.2 .settings (by decide)
  simp only [sameBlock] at notices link settings
  rw [State.loseLink_eq]
  simp only [State.raiseLink, State.raise, notices, link, settings, mask, s.linkDown_link]

/-- R141: the part with the level bytes placed, but for the counts in the lines' records. -/
theorem State.bytesArrive_eq (s : State) (arrived : List Byte) :
    ∃ f : List Flight,
      let placed := if s.link.rx = .line then s.forward.levelsPlaced arrived else s.forward
      s.bytesArrive arrived = State.send { s with forward := { placed with flights := f } } arrived.length := by
  by_cases line : s.link.rx = .line
  · refine ⟨(s.placeLevels arrived).forward.flights, ?_⟩
    have shape : s.placeLevels arrived = { s with forward := (s.placeLevels arrived).forward } := by
      unfold State.placeLevels
      split <;> rfl
    simp only [State.bytesArrive, line]
    exact congrArg (fun t => State.send t arrived.length)
      (shape.trans (congrArg (fun f => { s with forward := f }) (s.placeLevels_forward arrived)))
  · refine ⟨s.forward.flights, ?_⟩
    rw [if_neg line]
    unfold State.bytesArrive
    split
    · next rx => exact absurd rx line
    · rfl

/-- Settles O45: the lines are abandoned and the level ends, and then each slot's checkpoint becomes due. -/
theorem linkLossEndsLines : Obligations.LinkLossEndsLines := by
  intro s arrived e on up timer
  obtain ⟨f, arrives⟩ := s.bytesArrive_eq arrived
  intro placed expired due begins
  obtain ⟨w, isReached⟩ : ∃ w, w = (s.bytesArrive arrived).reach e := ⟨_, rfl⟩
  have ran : exec (.linkLost arrived) s = .next w.loseLink :=
    exec_on (f := fun s => s.linkExpires arrived) rfl on (by simp only [State.linkExpires, up, timer, isReached])
  obtain ⟨time, forward⟩ := State.reach_send_abandoned { s with forward := placed }
    { s with forward := { placed with flights := f } } f arrived.length e rfl rfl
  have reached : w = State.reach _ e :=
    isReached.trans (congrArg (fun u => State.reach u e) arrives)
  replace time : w.time = expired.time := (congrArg State.time reached).trans time
  replace forward : w.forward.abandoned = expired.forward.abandoned :=
    (congrArg (fun u => u.forward.abandoned) reached).trans forward
  have waited : keepsBut [.time, .forward] s w := by simp [isReached]
  have expiry : keepsBut [.time, .forward] s expired := by
    simp only [expired]
    rw [State.reach_keeps (by simp)]
    simp [keepsBut_iff]
  clear_value expired
  have down : keepsBut [.link, .forward, .requests, .notices] w w.linkDown := by simp [State.linkDown]
  have line (i : SlotNo) : w.linkDown.line i = s.line i :=
    congrArg (fun lines : Vector LineCtl 16 => lines[i])
      ((down.2.2 .lines (by decide)).trans (waited.2.2 .lines (by decide)))
  have slot (i : SlotNo) : w.linkDown.slot i = s.slot i :=
    congrArg (fun slots : Vector Slot 16 => slots[i])
      ((down.2.2 .slots (by decide)).trans (waited.2.2 .slots (by decide)))
  have nvm : w.linkDown.nvm = s.nvm := (down.2.2 .nvm (by decide)).trans (waited.2.2 .nvm (by decide))
  have digest : w.linkDown.digest = s.digest := (down.2.2 .digest (by decide)).trans (waited.2.2 .digest (by decide))
  have link : w.link = s.link := waited.2.2 .link (by decide)
  have requests : w.requests = s.requests := waited.2.2 .requests (by decide)
  have notices : w.notices = s.notices := waited.2.2 .notices (by decide)
  have settings : w.settings = s.settings := waited.2.2 .settings (by decide)
  have lost := fun i => foldl_linkLostDue_line slotNos (List.nodup_finRange 16) w.linkDown (List.mem_finRange i)
  have asked := foldl_linkLostDue_digest slotNos (List.nodup_finRange 16) w.linkDown
  have kept : keepsBut [.link, .forward, .requests, .notices, .lines, .digest] expired w.loseLink := by
    rw [State.loseLink_keeps (by simp)]
    have others : keepsBut [.forward] expired w := by
      rw [keepsBut_iff] at waited expiry ⊢
      simp_all
    exact others.mono (by simp)
  refine ⟨w.loseLink, ⟨ran, kept⟩, ?_, ?_, ?_, ?_, fun i => ?_, ?_⟩
  · have later : keepsBut [.lines, .digest, .notices] w.linkDown w.loseLink := by simp [State.loseLink_eq]
    exact (later.2.2 .link (by decide)).trans (w.linkDown_link.trans (by rw [link] <;> rfl))
  · have later : keepsBut [.lines, .digest, .notices] w.linkDown w.loseLink := by simp [State.loseLink_eq]
    exact (later.2.2 .forward (by decide)).trans (w.linkDown_forward.trans forward)
  · rw [State.loseLink_requests, requests]
    rfl
  · rw [State.loseLink_notices, State.linkDown_notices, link, requests, notices, settings, State.leftOf_congr time]
  · have ofLine := lost i
    rw [line, slot] at ofLine
    rw [State.loseLink_eq]
    generalize slotNos.foldl State.linkLostDue w.linkDown = u at ofLine ⊢
    exact ofLine
  · have tags : w.linkDown.digestWithWriteTag = s.digestWithWriteTag := by
      funext d j x
      unfold State.digestWithWriteTag
      rw [nvm]
    simp only [slot, line, digest, tags] at asked
    rw [State.loseLink_eq]
    generalize slotNos.foldl State.linkLostDue w.linkDown = u at asked ⊢
    exact asked

end Sys2Proof.Machine

/-!
PROOFS. The filters of the inputs (09_pins.md): what leaves every filter as it is, and the start and the end of a filter
timer.
-/

namespace Sys2Proof.Machine

open Sys2Proof

/-! ### What leaves the filters

The Route Unit drives the VALVE outputs, which stand beside the filters; nothing that a filtered change hands on, or
that a slot's record or line does, touches a filter. -/

/-- The filters stand in the pin block. -/
theorem State.filter_of_pins {s t : State} (h : t.pins = s.pins) (p : Pin) : t.filter p = s.filter p := by
  cases p <;> simp [State.filter, h]

/-- A frame that keeps the pin block keeps the filters. -/
theorem keepsBut.filter {bs : List Block} {s t : State} (k : keepsBut bs s t) (h : .pins ∉ bs) (p : Pin) :
    t.filter p = s.filter p :=
  State.filter_of_pins (k.2.2 .pins h) p

section
variable (s : State) (p : Pin)

@[simp] theorem State.raise_filter (k : NoticeKind) (u : Subject) (d : Details) : (s.raise k u d).filter p = s.filter p := by
  cases p <;> rfl

@[simp] theorem State.putRoute_filter (c : Channel) (r : Route) : (s.putRoute c r).filter p = s.filter p := by
  cases p <;> rfl

@[simp] theorem State.putSlot_filter (i : SlotNo) (x : Slot) : (s.putSlot i x).filter p = s.filter p := by
  cases p <;> rfl

@[simp] theorem State.putLine_filter (i : SlotNo) (l : LineCtl) : (s.putLine i l).filter p = s.filter p := by
  cases p <;> rfl

@[simp] theorem State.putSense_filter (i : SlotNo) (x : Sense) : (s.putSense i x).filter p = s.filter p := by
  cases p <;> rfl

@[simp] theorem State.driveValve_filter (c : Channel) : (s.driveValve c).filter p = s.filter p := by
  cases p <;> rfl

@[simp] theorem State.addTrace_filter (e : TraceEntry) : (s.addTrace e).filter p = s.filter p := by
  cases p <;> rfl

@[simp] theorem State.raiseRoute_filter (c : Channel) (b : Bool) : (s.raiseRoute c b).filter p = s.filter p :=
  s.raise_filter p _ _ _

@[simp] theorem State.setGate_filter (c : Channel) (g : Gate) : (s.setGate c g).filter p = s.filter p := by
  simp only [State.setGate]
  split <;> simp

@[simp] theorem State.judgeSupply_filter (c : Channel) : (s.judgeSupply c).filter p = s.filter p :=
  s.setGate_filter p c _

@[simp] theorem State.switchTo_filter (c : Channel) (k : SwitchCause) : (s.switchTo c k).filter p = s.filter p := by
  simp [State.switchTo]

@[simp] theorem State.expirePendingAlt_filter (c : Channel) : (s.expirePendingAlt c).filter p = s.filter p := by
  unfold State.expirePendingAlt
  split <;> simp

@[simp] theorem State.enterPendingAlt_filter (c : Channel) : (s.enterPendingAlt c).filter p = s.filter p := by
  simp only [State.enterPendingAlt]
  split <;> simp

@[simp] theorem State.judgeOnDefault_filter (c : Channel) : (s.judgeOnDefault c).filter p = s.filter p := by
  unfold State.judgeOnDefault
  split <;> simp

@[simp] theorem State.expirePendingDefault_filter (c : Channel) : (s.expirePendingDefault c).filter p = s.filter p := by
  simp [State.expirePendingDefault]

@[simp] theorem State.expireRevert_filter (c : Channel) : (s.expireRevert c).filter p = s.filter p := by
  simp [State.expireRevert]

@[simp] theorem State.enterPendingDefault_filter (c : Channel) : (s.enterPendingDefault c).filter p = s.filter p := by
  simp only [State.enterPendingDefault]
  split <;> simp

@[simp] theorem State.judgeRevert_filter (c : Channel) : (s.judgeRevert c).filter p = s.filter p := by
  simp only [State.judgeRevert]
  split
  · split
    · rfl
    · split <;> simp
  · simp

@[simp] theorem State.cancelPending_filter (c : Channel) (b : RouteState) : (s.cancelPending c b).filter p = s.filter p := by
  simp [State.cancelPending]

/-- R53: judging a channel leaves the filters, whatever its route state. -/
@[simp] theorem State.judgeRoute_filter (c : Channel) : (s.judgeRoute c).filter p = s.filter p := by
  unfold State.judgeRoute
  split
  case h_1 => rfl
  case h_2 => exact s.judgeOnDefault_filter p c
  case h_3 =>
    unfold State.judgePendingAlt
    split
    · simp
    · split <;> simp
  case h_4 =>
    unfold State.judgeOnAlternate
    split <;> simp
  case h_5 =>
    unfold State.judgePendingDefault
    split <;> simp

theorem foldl_filter {α : Type} {f : State → α → State} {p : Pin} (h : ∀ u a, (f u a).filter p = u.filter p) (l : List α)
    (s : State) : (l.foldl f s).filter p = s.filter p := by
  induction l generalizing s with
  | nil => rfl
  | cons a l ih => exact (ih _).trans (h s a)

@[simp] theorem State.judgeChannels_filter (named : Channel → Bool) : (s.judgeChannels named).filter p = s.filter p :=
  foldl_filter (fun u c => by split <;> simp) channels s

@[simp] theorem State.handFitness_filter (before : State) (i : SlotNo) (c : Channel) :
    (State.handFitness before i s c).filter p = s.filter p := by
  simp only [State.handFitness]
  split <;> split <;> simp

@[simp] theorem State.judgeFitness_filter (before : State) (i : SlotNo) :
    (s.judgeFitness before i).filter p = s.filter p :=
  foldl_filter (fun u c => u.handFitness_filter p before i c) channels s

@[simp] theorem State.dropCheckpoint_filter (i : SlotNo) : (s.dropCheckpoint i).filter p = s.filter p :=
  s.putLine_filter p i _

@[simp] theorem State.changeSlot_filter (i : SlotNo) (x : Slot) (k : Option (TransKind × FailKind)) :
    (s.changeSlot i x k).filter p = s.filter p := by
  simp only [State.changeSlot]
  split <;> simp

@[simp] theorem State.compareWatch_filter (i : SlotNo) (n : WatchNo) : (s.compareWatch i n).filter p = s.filter p := by
  simp only [State.compareWatch]
  split <;> simp

@[simp] theorem State.moveSlot_filter (i : SlotNo) (x : Slot) (k : Option (TransKind × FailKind)) :
    (s.moveSlot i x k).filter p = s.filter p := by
  simp [State.moveSlot, State.compareWatches]

@[simp] theorem State.markRefill_filter (i : SlotNo) : (s.markRefill i).filter p = s.filter p := by
  have kept : keepsBut [.slots, .history, .nvm, .notices] s (s.markRefill i) := by simp
  exact kept.filter (by decide) p

@[simp] theorem State.levelSenseFinding_filter (i : SlotNo) : (s.levelSenseFinding i).filter p = s.filter p := by
  have finding (u : State) : (u.levelFinding i).filter p = u.filter p := by
    simp only [State.levelFinding]
    split <;> simp
  simp only [State.levelSenseFinding]
  split <;> simp [finding]

@[simp] theorem State.levelLow_filter (i : SlotNo) : (s.levelLow i).filter p = s.filter p := by
  unfold State.levelLow
  split <;> simp

@[simp] theorem State.levelWet_filter (i : SlotNo) : (s.levelWet i).filter p = s.filter p := by
  unfold State.levelWet
  split <;> simp

@[simp] theorem State.placeProbe_filter (i : SlotNo) (step : ProbeStep) : (s.placeProbe i step).filter p = s.filter p := by
  have kept : keepsBut [.lines, .digest] s (s.placeProbe i step) := by simp
  exact kept.filter (by decide) p

@[simp] theorem State.digestDrop_filter (i : SlotNo) (k : PassKind → Bool) : (s.digestDrop i k).filter p = s.filter p := by
  cases p <;> rfl

@[simp] theorem State.presenceAsserted_filter (i : SlotNo) : (s.presenceAsserted i).filter p = s.filter p := by
  simp only [State.presenceAsserted]
  split <;> simp

@[simp] theorem State.presenceLost_filter (i : SlotNo) : (s.presenceLost i).filter p = s.filter p := by
  simp only [State.presenceLost]
  split <;> simp

/-- R174: what a filtered change hands on leaves every filter. -/
@[simp] theorem State.handOnInput_filter (q : Pin) : (s.handOnInput q).filter p = s.filter p := by
  cases q with
  | presence i =>
    simp only [State.handOnInput, State.presenceChanges]
    split <;> simp
  | level i =>
    simp only [State.handOnInput, State.levelChanges, State.judgeLevel]
    split
    · split <;> simp
    · rfl
  | aux n => simp [State.handOnInput, State.auxChanges]
  | powerFail => rfl

end

end Sys2Proof.Machine

/-!
PROOFS. What a filtered change hands on does not depend on the upstream forward lane (log 15): a filter whose delay is 0
does the same whether its expiry is taken at once or as the command of its timer.
-/

namespace Sys2Proof.Machine

open Sys2Proof

/-- The state with another forward buffer. -/
def State.onForward (s : State) (f : Forward) : State := { s with forward := f }

/-- A change that neither reads nor changes the forward buffer. -/
def IgnoresForward (g : State → State) : Prop := ∀ s f, g (s.onForward f) = (g s).onForward f

namespace IgnoresForward

theorem comp {g k : State → State} (hg : IgnoresForward g) (hk : IgnoresForward k) : IgnoresForward fun s => k (g s) :=
  fun s f => (congrArg k (hg s f)).trans (hk (g s) f)

theorem ite {p : State → Prop} [DecidablePred p] {g k : State → State} (same : ∀ s f, p (State.onForward s f) ↔ p s)
    (hg : IgnoresForward g) (hk : IgnoresForward k) : IgnoresForward fun s => if p s then g s else k s := by
  intro s f
  by_cases h : p s
  · simpa only [if_pos h, if_pos ((same s f).mpr h)] using hg s f
  · simpa only [if_neg h, if_neg (mt (same s f).mp h)] using hk s f

theorem foldl {α : Type} {g : State → α → State} (h : ∀ a, IgnoresForward fun s => g s a) (l : List α) :
    IgnoresForward fun s => l.foldl g s := by
  intro s f
  induction l generalizing s with
  | nil => rfl
  | cons a l ih => exact (congrArg (fun u => l.foldl g u) (h a s f)).trans (ih (g s a))

/-- A change of the routing reads the routing and the slots (R53). -/
theorem of_reroutes {g : State → State} (h : ∀ s, Reroutes s g) : IgnoresForward g := by
  intro s f
  obtain ⟨routes, trace, pins, raised, _, does⟩ := h s
  rw [does s (sameRead.refl s), does (s.onForward f) (sameRead.refl s)]
  rfl

theorem judgeFitness (i : SlotNo) : IgnoresForward fun s => s.judgeFitness s i := by
  intro s f
  have before : (s.onForward f).judgeFitness (s.onForward f) i = (s.onForward f).judgeFitness s i :=
    State.judgeFitness_before (fun _ => rfl) (fun _ => rfl) _
  exact before.trans (of_reroutes (fun u => State.judgeFitness_reroutes s u i) s f)

/-- R10, R12: a record replaced, a notice, and the fitness handed on. -/
theorem thenFitness {i : SlotNo} {g : State → State} (h : IgnoresForward g) :
    IgnoresForward fun s => (g s).judgeFitness s i := by
  intro s f
  have before : (g (s.onForward f)).judgeFitness (s.onForward f) i = (g (s.onForward f)).judgeFitness s i :=
    State.judgeFitness_before (fun _ => rfl) (fun _ => rfl) _
  refine before.trans ?_
  rw [h s f]
  exact of_reroutes (fun u => State.judgeFitness_reroutes s u i) (g s) f

theorem judgeRoute (c : Channel) : IgnoresForward fun s => s.judgeRoute c :=
  of_reroutes fun s => s.judgeRoute_reroutes c

theorem judgeChannels {named : State → Channel → Bool} (same : ∀ s f c, named (State.onForward s f) c = named s c) :
    IgnoresForward fun s => s.judgeChannels (named s) := by
  intro s f
  have asked : named (s.onForward f) = named s := funext fun c => same s f c
  simp only [asked]
  exact foldl (g := fun t c => if named s c then t.judgeRoute c else t)
    (fun c => ite (fun _ _ => Iff.rfl) (judgeRoute c) fun _ _ => rfl) channels s f

theorem compareWatch (i : SlotNo) (n : WatchNo) : IgnoresForward fun s => s.compareWatch i n := by
  unfold State.compareWatch
  exact ite (fun _ _ => Iff.rfl) (thenFitness fun _ _ => rfl) fun _ _ => rfl

theorem changeSlot (i : SlotNo) {x : State → Slot} (same : ∀ s f, x (State.onForward s f) = x s)
    (k : Option (TransKind × FailKind)) : IgnoresForward fun s => s.changeSlot i (x s) k := by
  unfold State.changeSlot
  refine thenFitness (g := fun s => State.raise _ _ _ _) ?_
  intro s f
  simp only [same s f]
  have supplies : ((s.onForward f).slot i) = s.slot i := rfl
  rw [supplies]
  split <;> rfl

theorem moveSlot (i : SlotNo) {x : State → Slot} (same : ∀ s f, x (State.onForward s f) = x s)
    (k : Option (TransKind × FailKind)) : IgnoresForward fun s => s.moveSlot i (x s) k :=
  comp (g := fun s => s.changeSlot i (x s) k) (k := fun s => s.compareWatches i) (changeSlot i same k)
    (comp (g := fun s => s.compareWatch i .w0) (k := fun s => s.compareWatch i .w1) (compareWatch i .w0)
      (compareWatch i .w1))

/-! ### The history -/

theorem renumberIfFull : IgnoresForward State.renumberIfFull := by
  intro s f
  have queued : IgnoresForward fun t => entryNos.foldl (fun t n => if (t.entry n).isSome then t.queueEntry n else t) t :=
    foldl (fun n => ite (p := fun t => (t.entry n).isSome = true) (fun _ _ => Iff.rfl) (fun _ _ => rfl) fun _ _ => rfl)
      entryNos
  have history : (s.onForward f).history = s.history := rfl
  simp only [State.renumberIfFull, history]
  split
  · rfl
  · exact queued { s with history := s.history.renumber } f

theorem moveEntry (n : EntryNo) : IgnoresForward fun s => s.moveEntry n := by
  intro s f
  have full := renumberIfFull s f
  have entry : (s.renumberIfFull.onForward f).entry n = s.renumberIfFull.entry n := rfl
  simp only [State.moveEntry, full, entry]
  cases s.renumberIfFull.entry n <;> rfl

theorem insertEntry (s : State) (f : Forward) (e : HistoryEntry) :
    (s.onForward f).insertEntry e = ((s.insertEntry e).1.onForward f, (s.insertEntry e).2) :=
  Prod.ext (moveEntry s.history.vacancy ((s.forgetIndex s.history.vacancy).putEntry s.history.vacancy (some e)) f) rfl

theorem findOrInsert (s : State) (f : Forward) (serial : Serial) (e : HistoryEntry) :
    (s.onForward f).findOrInsert serial e = ((s.findOrInsert serial e).1.onForward f, (s.findOrInsert serial e).2) := by
  have history : (s.onForward f).history = s.history := rfl
  simp only [State.findOrInsert, history]
  cases s.history.lookup serial
  · exact insertEntry s f e
  · rfl

theorem evict (k : Option Serial) : IgnoresForward fun s => s.evict k := by
  intro s f
  have history : (s.onForward f).history = s.history := rfl
  have entry : (s.onForward f).entry = s.entry := rfl
  simp only [State.evict, history, entry]
  cases s.history.leastRecent HistoryEntry.locked with
  | none => rfl
  | some n =>
    cases h : s.entry n with
    | none => simp only [h]
    | some e =>
      simp only [h]
      rfl

theorem addMarks (n : EntryNo) (a b : Bool) : IgnoresForward fun s => s.addMarks n a b := by
  intro s f
  have entry : (s.onForward f).entry = s.entry := rfl
  have history : (s.onForward f).history = s.history := rfl
  simp only [State.addMarks, entry, history]
  cases s.entry n with
  | none => rfl
  | some e =>
    dsimp only
    split
    · exact congrArg (fun t => State.putEntry t n _) (evict (some e.serial) s f)
    · rfl

theorem markRefill (i : SlotNo) : IgnoresForward fun s => s.markRefill i := by
  intro s f
  have slot : (s.onForward f).slot i = s.slot i := rfl
  simp only [State.markRefill, State.historyUpdate, slot]
  cases (s.slot i).serial with
  | none => rfl
  | some serial =>
    dsimp only
    rw [findOrInsert s f serial]
    generalize s.findOrInsert serial ((s.slot i).historyEntry serial) = found
    exact comp (addMarks found.2 false true) (comp (moveEntry found.2) (k := fun t => t.closeUpdate i found.2) fun _ _ => rfl)
      found.1 f

/-! ### What an input hands on -/

theorem takePending (i : SlotNo) : IgnoresForward fun s => s.takePending i := by
  intro s f
  beta_reduce
  by_cases idle : (s.line i).state = .idle
  · cases probe : (s.line i).pendProbe with
    | some step =>
      cases step with
      | identify =>
        rw [State.takePending_identify (s := s.onForward f) idle probe, State.takePending_identify idle probe]
        rfl
      | readFill =>
        rw [State.takePending_readFill (s := s.onForward f) idle probe, State.takePending_readFill idle probe]
        rfl
    | none =>
      cases challenge : (s.line i).pendChallenge with
      | some n =>
        rw [State.takePending_challenge (s := s.onForward f) idle probe challenge,
          State.takePending_challenge idle probe challenge]
        rfl
      | none =>
        cases due : (s.line i).pendCheckpoint with
        | true =>
          rw [State.takePending_checkpoint (s := s.onForward f) idle probe challenge due,
            State.takePending_checkpoint idle probe challenge due]
          rfl
        | false =>
          rw [State.takePending_nothing (s := s.onForward f) idle probe challenge due,
            State.takePending_nothing idle probe challenge due]
  · rw [State.takePending_busy (s := s.onForward f) idle, State.takePending_busy idle]

theorem placeProbe (i : SlotNo) (step : ProbeStep) : IgnoresForward fun s => s.placeProbe i step :=
  comp (g := fun s => s.putLine i { s.line i with pendProbe := some step }) (fun _ _ => rfl) (takePending i)

theorem presenceAsserted (i : SlotNo) : IgnoresForward fun s => s.presenceAsserted i := by
  unfold State.presenceAsserted
  refine ite (fun _ _ => Iff.rfl) (thenFitness ?_) fun _ _ => rfl
  intro s f
  have placed := placeProbe i .identify (s.putSlot i { s.slot i with state := .probing, present := true }) f
  exact congrArg (fun u => State.raise u .slot (.slot i)
    (slotDetails (s.slot i) { s.slot i with state := .probing, present := true } none)) placed

theorem presenceLost (i : SlotNo) : IgnoresForward fun s => s.presenceLost i := by
  unfold State.presenceLost
  exact ite (fun _ _ => Iff.rfl) (fun _ _ => rfl) (thenFitness fun _ _ => rfl)

theorem levelFinding (i : SlotNo) : IgnoresForward fun s => s.levelFinding i := by
  unfold State.levelFinding
  exact ite (fun _ _ => Iff.rfl) (fun _ _ => rfl) (moveSlot i (fun _ _ => rfl) none)

theorem levelSenseFinding (i : SlotNo) : IgnoresForward fun s => s.levelSenseFinding i :=
  comp
    (comp
      (comp (g := fun s => s.raise .refill (.slot i) (.levelSense (s.slot i).serial s.policy.refill (s.slot i).state))
        (fun _ _ => rfl) (levelFinding i))
      (k := fun t => if (t.senseOf i).proven then t.markRefill i else t)
      (ite (fun _ _ => Iff.rfl) (markRefill i) fun _ _ => rfl))
    (k := fun t => t.putSense i { t.senseOf i with lowSeen := false }) fun _ _ => rfl

theorem levelLow (i : SlotNo) : IgnoresForward fun s => s.levelLow i :=
  ite (fun _ _ => Iff.rfl) (fun _ _ => rfl) fun _ _ => rfl

theorem levelWet (i : SlotNo) : IgnoresForward fun s => s.levelWet i :=
  ite (fun _ _ => Iff.rfl) (levelSenseFinding i) fun _ _ => rfl

theorem levelChanges (i : SlotNo) : IgnoresForward fun s => s.levelChanges i := by
  unfold State.levelChanges
  refine ite (fun _ _ => Iff.rfl) ?_ fun _ _ => rfl
  exact comp (ite (fun _ _ => Iff.rfl) (levelLow i) (levelWet i)) (judgeChannels (named := fun u c =>
    decide ((u.routeCfg c).source = .levelLow) && decide ((u.routeCfg c).defaultSlot = some i)) fun _ _ _ => rfl)

theorem auxChanges (n : Fin 4) : IgnoresForward fun s => s.auxChanges n := by
  intro s f
  have judged := judgeChannels (named := fun u c => decide ((u.routeCfg c).source.aux = some n)) (fun _ _ _ => rfl) s f
  exact congrArg (fun u => State.raise u .pin (.pin (.aux n)) (.pin (s.filter (.aux n)).filtered s.time)) judged

/-- R174: what a filtered change hands on. -/
theorem handOnInput (p : Pin) : IgnoresForward fun s => s.handOnInput p := by
  cases p with
  | presence i => exact ite (fun _ _ => Iff.rfl) (presenceAsserted i) (presenceLost i)
  | level i => exact levelChanges i
  | aux n => exact auxChanges n
  | powerFail => exact fun _ _ => rfl

theorem inputChanges (p : Pin) : IgnoresForward fun s => s.inputChanges p := by
  refine comp (g := fun s => s.putFilter p ((s.filter p).settle p)) ?_ (handOnInput p)
  intro s f
  cases p <;> rfl

end IgnoresForward

end Sys2Proof.Machine

/-!
PROOFS. The start, the cancelling and the expiry at once of a filter timer (R174).
-/

namespace Sys2Proof.Machine

open Sys2Proof

theorem State.putFilter_putFilter (s : State) (p : Pin) (f g : Filter) :
    (s.putFilter p f).putFilter p g = s.putFilter p g := by
  cases p <;> simp [State.putFilter]

/-- An expiry at this count is reached at once; the forward buffer is what it is after no symbol time. -/
theorem State.reach_now (s : State) : s.reach s.time = s.onForward (s.forward.send 0) := by
  have none : (s.time - s.time).toNat = 0 := by simp
  have ahead : s.ahead s.time = true := by simp [State.ahead]
  rw [State.reach, if_pos ahead, none]
  rfl

theorem State.inputChanges_filter (s : State) (p : Pin) : (s.inputChanges p).filter p = (s.filter p).settle p :=
  (State.handOnInput_filter _ p p).trans (State.putFilter_same s p _)

theorem State.inputChanges_time (s : State) (p : Pin) : (s.inputChanges p).time = s.time := by
  have kept : keepsBut [.slots, .lines, .routes, .pins, .trace, .notices, .history, .nvm, .sense, .digest] s
      (s.inputChanges p) := by simp
  exact kept.2.2 .time (by decide)

theorem State.inputChanges_forward (s : State) (p : Pin) : (s.inputChanges p).forward = s.forward := by
  have kept : keepsBut [.slots, .lines, .routes, .pins, .trace, .notices, .history, .nvm, .sense, .digest] s
      (s.inputChanges p) := by simp
  exact kept.2.2 .forward (by decide)

/-- R174: the level that starts a filter timer. -/
theorem State.rawChanges_starts {s : State} {p : Pin} {asserted : Bool} (raw : (s.filter p).raw ≠ asserted)
    (filtered : (s.filter p).filtered ≠ asserted) :
    s.rawChanges p asserted =
      let t := s.putFilter p
        { s.filter p with
          raw := asserted, timer := some ⟨s.time, s.after (s.settings.pins.delay p asserted)⟩ }
      if s.settings.pins.immediate p asserted then t.inputChanges p else t := by
  simp [State.rawChanges, raw, filtered, State.startFilter, State.startTimer, State.putRaw, State.putFilter_putFilter,
    State.after]

/-- The expiry of an input's filter timer, for the inputs that hand on through the Pin Unit. -/
theorem exec_filterExpiry {s : State} {p : Pin} {e : FilterTimer} (arrived : List Byte) (on : s.powered = true)
    (timer : (s.filter p).timer = some e) (input : p ≠ .powerFail) :
    exec (.filterTimerExpiry ⟨p, arrived⟩) s = .next ((s.reach e.expiry).inputChanges p) := by
  refine exec_on (f := fun s => s.filterExpires p arrived) rfl on ?_
  simp only [State.filterExpires, timer]
  cases p with
  | powerFail => exact absurd rfl input
  | _ => rfl

/-- Settles O53: by the raw and the filtered level, and the delay for the new one. -/
theorem rawLevelsStartAndCancelFilters : Obligations.RawLevelsStartAndCancelFilters := by
  intro s p asserted on f cfg delay
  have carried : exec (.pinRawChange p asserted) s = .next (s.rawChanges p asserted) :=
    congrArg Host.Outcome.next (if_pos on)
  have delayed : cfg.delay p asserted = delay := by cases p <;> cases asserted <;> rfl
  refine ⟨fun raw => ?_, fun raw filtered => ?_, fun raw filtered => ⟨fun later => ?_, fun atOnce input => ?_⟩⟩
  · exact carried.trans (congrArg Host.Outcome.next (if_pos raw))
  · rw [carried, State.rawChanges, if_neg raw, if_pos filtered, State.cancelTimer, State.putRaw, State.putFilter_same,
      State.putFilter_putFilter]
  · have waits : cfg.immediate p asserted = false := by
      rcases later with positive | power
      · simp [PinCfg.immediate, delayed, Nat.ne_of_gt positive]
      · simp [PinCfg.immediate, power]
    have waits : s.settings.pins.immediate p asserted = false := waits
    have delayed : s.settings.pins.delay p asserted = delay := delayed
    rw [carried, State.rawChanges_starts raw filtered, waits, delayed]
    rfl
  · have now : s.settings.pins.immediate p asserted = true := by
      have delayed : s.settings.pins.delay p asserted = 0 := delayed.trans atOnce
      simp [PinCfg.immediate, delayed, input]
    have delayed : s.settings.pins.delay p asserted = 0 := delayed.trans atOnce
    have after : s.after 0 = s.time := by simp [State.after]
    let started := s.putFilter p { f with raw := asserted, timer := some ⟨s.time, s.time⟩ }
    have at_once : exec (.pinRawChange p asserted) s = .next (started.inputChanges p) := by
      rw [carried, State.rawChanges_starts raw filtered, now, delayed, after]
      rfl
    have own : started.filter p = { f with raw := asserted, timer := some ⟨s.time, s.time⟩ } := State.putFilter_same s p _
    have time : started.time = s.time := by simp [started]
    have forward : started.forward = s.forward := by simp [started]
    have power : started.powered = true := by simpa [started] using on
    have changed : Pin.hasChanged p = true := by
      cases p with
      | powerFail => exact absurd rfl input
      | _ => rfl
    refine ⟨started.inputChanges p, at_once, ?_, (started.inputChanges_time p).trans time,
      (started.inputChanges_forward p).trans forward, fun arrived => ?_⟩
    · rw [State.inputChanges_filter, own]
      simp [Filter.settle, changed]
    · refine (exec_filterExpiry arrived power (congrArg Filter.timer own) input).trans ?_
      have reached : started.reach s.time = started.onForward (s.forward.send 0) := by
        rw [← time, State.reach_now, forward]
      exact congrArg Host.Outcome.next
        ((congrArg (fun u => State.inputChanges u p) reached).trans
          (IgnoresForward.inputChanges p started (s.forward.send 0)))

end Sys2Proof.Machine

/-!
PROOFS. The fields of the requests about routes, watches, grace and tables: how they read back, and what their checks
answer (R69, R21, R156).
-/

namespace Sys2Proof.Machine

open Sys2Proof

/-! ### Fields that read back -/

@[simp] theorem natOf_one (b : Byte) : natOf [b] = b.toNat := by simp [natOf]

/-- A word of two bytes, the more significant first. -/
@[simp] theorem natOf_word16 (w : BitVec 16) : natOf (word16 w) = w.toNat := by
  simp [natOf, word16, BitVec.extractLsb'_toNat, Nat.shiftRight_eq_div_pow]
  omega

theorem numberOf_of_lt {n v : Nat} (h : v < n) : numberOf n v = some ⟨v, h⟩ := dif_pos h

theorem numberOf_isNone {n v : Nat} : numberOf n v = none ↔ n ≤ v := by
  refine ⟨fun h => Nat.not_lt.mp fun lt => ?_, fun h => dif_neg (Nat.not_lt.mpr h)⟩
  rw [numberOf_of_lt lt] at h
  cases h

theorem boolOf_onOff (b : Bool) : boolOf (onOff b).toNat = some b := by cases b <;> rfl

theorem slotField_slotByte (d : Option SlotNo) : slotField (slotByte d).toNat = some d := by
  cases d with
  | none => rfl
  | some i => revert i; decide

theorem condSourceOf_ctorIdx (src : CondSource) : condSourceOf (BitVec.ofNat 8 src.ctorIdx).toNat = some src := by
  cases src <;> rfl

/-! ### Enumerations -/

theorem boolOf_isNone {v : Nat} : boolOf v = none ↔ 1 < v := by
  match v with
  | 0 => decide
  | 1 => decide
  | v + 2 => exact iff_of_true rfl (by omega)

theorem condSourceOf_isNone {v : Nat} : condSourceOf v = none ↔ 7 < v := by
  match v with
  | 0 | 1 | 2 | 3 | 4 | 5 | 6 | 7 => decide
  | v + 8 => exact iff_of_true rfl (by omega)

theorem slotField_isNone {v : Nat} : slotField v = none ↔ 15 < v ∧ v ≠ 255 := by
  unfold slotField
  split
  · next none => simp [none]
  · next some => rw [Option.map_eq_none_iff, numberOf_isNone]; omega

/-- The slot that a field names is another field's when the bytes are the same and not 0xFF. -/
theorem slotField_same {v w : Nat} {d a : Option SlotNo} (hd : slotField v = some d) (ha : slotField w = some a) :
    (a.isSome = true ∧ a = d) ↔ v = w ∧ w ≠ 255 := by
  have reads {v : Nat} {d : Option SlotNo} (h : slotField v = some d) :
      (v = 255 ∧ d = none) ∨ ∃ i : SlotNo, d = some i ∧ i.val = v := by
    unfold slotField at h
    split at h
    · next none => exact .inl ⟨none, (Option.some.inj h).symm⟩
    · next other =>
      obtain ⟨i, number, names⟩ := Option.map_eq_some_iff.mp h
      refine .inr ⟨i, names.symm, ?_⟩
      unfold numberOf at number
      split at number
      · exact congrArg Fin.val (Option.some.inj number).symm
      · cases number
  rcases reads hd with ⟨rfl, rfl⟩ | ⟨i, rfl, rfl⟩ <;> rcases reads ha with ⟨rfl, rfl⟩ | ⟨j, rfl, rfl⟩
  · simp
  · simp [eq_comm]
  · simp
  · simp [Fin.ext_iff, eq_comm]
    omega

/-! ### Set Route -/

/-- R69: the checks of Set Route, with each field read. -/
theorem setRouteOperand_of {f : List Byte} {c : Channel} {d a : Option SlotNo} {h : HeadNo} {src : CondSource}
    {rev inv : Bool} (channel : numberOf 12 (fieldAt f 0 1) = some c) (dflt : slotField (fieldAt f 5 1) = some d)
    (alt : slotField (fieldAt f 6 1) = some a) (head : numberOf 8 (fieldAt f 2 1) = some h)
    (source : condSourceOf (fieldAt f 7 1) = some src) (revert : boolOf (fieldAt f 10 1) = some rev)
    (invert : boolOf (fieldAt f 14 1) = some inv) :
    setRouteOperand f =
      if 31 < fieldAt f 1 1 ∨ (a.isSome = true ∧ a = d) then .error .badValue
      else
        .ok (c,
          { ink := fieldAt f 1 1, head := h, nozzles := clampNozzles (fieldAt f 3 2), defaultSlot := d,
            alternate := a, source := src, switchDelay := min 60000 (fieldAt f 8 2), revertEnable := rev,
            revertDelay := min 60000 (fieldAt f 11 2), settleLines := min 255 (fieldAt f 13 1), valveInvert := inv,
            fullAllowance := min 15 (fieldAt f 15 1), runLength := clamp 1 16 (fieldAt f 16 1) }) := by
  simp only [setRouteOperand, channel, dflt, alt, head, source, revert, invert]
  by_cases ink : 31 < fieldAt f 1 1
  · rw [if_pos ink, if_pos (.inl ink)]
  · rw [if_neg ink]
    by_cases same : a.isSome = true ∧ a = d
    · rw [if_pos (Bool.and_eq_true_iff.mpr ⟨same.1, decide_eq_true same.2⟩), if_pos (Or.inr same)]
    · rw [if_neg (by simpa using same), if_neg (by simpa [ink] using same)]

theorem setRouteOperand_badSubject {f : List Byte}
    (h : numberOf 12 (fieldAt f 0 1) = none ∨ slotField (fieldAt f 5 1) = none ∨ slotField (fieldAt f 6 1) = none ∨
      numberOf 8 (fieldAt f 2 1) = none) : setRouteOperand f = .error .badSubject := by
  unfold setRouteOperand
  cases channel : numberOf 12 (fieldAt f 0 1) with
  | none => rfl
  | some c =>
    dsimp only
    split
    · next d a head dflt alt number => simp [channel, dflt, alt, number] at h
    · rfl

theorem setRouteOperand_badValue {f : List Byte} {c : Channel} {d a : Option SlotNo} {h : HeadNo}
    (channel : numberOf 12 (fieldAt f 0 1) = some c) (dflt : slotField (fieldAt f 5 1) = some d)
    (alt : slotField (fieldAt f 6 1) = some a) (head : numberOf 8 (fieldAt f 2 1) = some h)
    (out : condSourceOf (fieldAt f 7 1) = none ∨ boolOf (fieldAt f 10 1) = none ∨ boolOf (fieldAt f 14 1) = none) :
    setRouteOperand f = .error .badValue := by
  simp only [setRouteOperand, channel, dflt, alt, head]
  split
  · next src rev inv source revert invert => simp [source, revert, invert] at out
  · rfl

theorem byteAt_toNat_le (f : List Byte) (n : Nat) : (byteAt f n).toNat ≤ 255 := by
  have := (byteAt f n).isLt
  omega

/-- Settles O20: the fields of the encoding read back, and the checks are those of the enumerations. -/
theorem routeFieldsAreReadAndChecked : Obligations.RouteFieldsAreReadAndChecked := by
  refine ⟨fun c ink head nozzles d a src delay revDelay settle full run rev inv => ?_,
    fun tag fields o s h size => ⟨?_, fun refused => ?_⟩⟩
  · generalize parts : routeFields (BitVec.ofNat 8 c.val) ink (BitVec.ofNat 8 head.val) nozzles (slotByte d) (slotByte a)
      (BitVec.ofNat 8 src.ctorIdx) delay (onOff rev) revDelay settle (onOff inv) full run = f
    have one (n : Nat) (b : Byte) (h : (f.drop n).take 1 = [b]) : fieldAt f n 1 = b.toNat := by rw [fieldAt, h, natOf_one]
    have two (n : Nat) (w : BitVec 16) (h : (f.drop n).take 2 = word16 w) : fieldAt f n 2 = w.toNat := by
      rw [fieldAt, h, natOf_word16]
    have channel := one 0 (BitVec.ofNat 8 c.val) (by rw [← parts]; rfl)
    have ink_ := one 1 ink (by rw [← parts]; rfl)
    have head_ := one 2 (BitVec.ofNat 8 head.val) (by rw [← parts]; rfl)
    have nozzles_ := two 3 nozzles (by rw [← parts]; rfl)
    have dflt := one 5 (slotByte d) (by rw [← parts]; rfl)
    have alt := one 6 (slotByte a) (by rw [← parts]; rfl)
    have source := one 7 (BitVec.ofNat 8 src.ctorIdx) (by rw [← parts]; rfl)
    have delay_ := two 8 delay (by rw [← parts]; rfl)
    have revert := one 10 (onOff rev) (by rw [← parts]; rfl)
    have revDelay_ := two 11 revDelay (by rw [← parts]; rfl)
    have settle_ := one 13 settle (by rw [← parts]; rfl)
    have invert := one 14 (onOff inv) (by rw [← parts]; rfl)
    have full_ := one 15 full (by rw [← parts]; rfl)
    have run_ := one 16 run (by rw [← parts]; rfl)
    have small : min 255 settle.toNat = settle.toNat := by
      have := settle.isLt
      omega
    rw [setRouteOperand_of (channel ▸ numberOf_ofNat c (by omega)) (dflt ▸ slotField_slotByte d)
      (alt ▸ slotField_slotByte a) (head_ ▸ numberOf_ofNat head (by omega)) (source ▸ condSourceOf_ctorIdx src)
      (revert ▸ boolOf_onOff rev) (invert ▸ boolOf_onOff inv)]
    simp only [ink_, nozzles_, delay_, revDelay_, settle_, full_, run_, small, clampNozzles, clamp]
  · have field (n : Nat) (h : n < 17) : fieldAt fields n 1 = (byteAt fields n).toNat :=
      fieldAt_one_byteAt fields n (by omega)
    intro at_ badSubject badValue
    have subjects : (numberOf 12 (fieldAt fields 0 1) = none ∨ slotField (fieldAt fields 5 1) = none ∨
        slotField (fieldAt fields 6 1) = none ∨ numberOf 8 (fieldAt fields 2 1) = none) ↔ badSubject := by
      rw [field 0 (by omega), field 2 (by omega), field 5 (by omega), field 6 (by omega)]
      simp only [numberOf_isNone, slotField_isNone, badSubject, at_]
      have five := byteAt_toNat_le fields 5
      have six := byteAt_toNat_le fields 6
      omega
    have values : (condSourceOf (fieldAt fields 7 1) = none ∨ boolOf (fieldAt fields 10 1) = none ∨
        boolOf (fieldAt fields 14 1) = none) ↔ 7 < at_ 7 ∨ 1 < at_ 10 ∨ 1 < at_ 14 := by
      rw [field 7 (by omega), field 10 (by omega), field 14 (by omega), condSourceOf_isNone, boolOf_isNone, boolOf_isNone]
    have subjectsGood (good : ¬badSubject) : ∃ c d a head, numberOf 12 (fieldAt fields 0 1) = some c ∧
        slotField (fieldAt fields 5 1) = some d ∧ slotField (fieldAt fields 6 1) = some a ∧
        numberOf 8 (fieldAt fields 2 1) = some head := by
      rw [← subjects] at good
      simp only [not_or, ← ne_eq, Option.ne_none_iff_exists'] at good
      obtain ⟨⟨c, channel⟩, ⟨d, dflt⟩, ⟨a, alt⟩, ⟨head, number⟩⟩ := good
      exact ⟨c, d, a, head, channel, dflt, alt, number⟩
    have lastChecks {d a : Option SlotNo} (dflt : slotField (fieldAt fields 5 1) = some d)
        (alt : slotField (fieldAt fields 6 1) = some a) :
        (31 < fieldAt fields 1 1 ∨ (a.isSome = true ∧ a = d)) ↔ 31 < at_ 1 ∨ (at_ 5 = at_ 6 ∧ at_ 6 < 255) := by
      rw [slotField_same dflt alt, field 1 (by omega), field 5 (by omega), field 6 (by omega)]
      have six := byteAt_toNat_le fields 6
      simp only [at_]
      omega
    refine ⟨fun bad => setRouteOperand_badSubject (subjects.mpr bad), fun good bad => ?_, fun good fine => ?_⟩
    · obtain ⟨c, d, a, head, channel, dflt, alt, number⟩ := subjectsGood good
      by_cases out : 7 < at_ 7 ∨ 1 < at_ 10 ∨ 1 < at_ 14
      · exact setRouteOperand_badValue channel dflt alt number (values.mpr out)
      · have read := mt values.mp out
        simp only [not_or, ← ne_eq, Option.ne_none_iff_exists'] at read
        obtain ⟨⟨src, source⟩, ⟨rev, revert⟩, ⟨inv, invert⟩⟩ := read
        rw [setRouteOperand_of channel dflt alt number source revert invert, if_pos ((lastChecks dflt alt).mpr (by omega))]
    · obtain ⟨c, d, a, head, channel, dflt, alt, number⟩ := subjectsGood good
      have read := mt values.mp (by omega)
      simp only [not_or, ← ne_eq, Option.ne_none_iff_exists'] at read
      obtain ⟨⟨src, source⟩, ⟨rev, revert⟩, ⟨inv, invert⟩⟩ := read
      rw [setRouteOperand_of channel dflt alt number source revert invert, if_neg (mt (lastChecks dflt alt).mp (by omega))]
      exact ⟨_, rfl⟩
  · exact refusedWith h rfl rfl ((sized_eq size).trans (by rw [refused]))

end Sys2Proof.Machine

/-!
PROOFS. Set Watch, Grant Grace and Rescan Slot (R21, R22, R7).
-/

namespace Sys2Proof.Machine

open Sys2Proof

/-! ### Fields -/

theorem natOf_u32 (v : BitVec 32) : natOf (u32 v.toNat) = v.toNat := by
  have := v.isLt
  simp [natOf, u32, bigEndian]
  omega

theorem watchNoOf_ctorIdx (n : WatchNo) : watchNoOf (BitVec.ofNat 8 n.ctorIdx).toNat = some n := by cases n <;> rfl

theorem watchKindOf_ctorIdx (k : WatchKind) : watchKindOf (BitVec.ofNat 8 k.ctorIdx).toNat = some k := by cases k <;> rfl

theorem watchActionOf_ctorIdx (a : WatchAction) : watchActionOf (BitVec.ofNat 8 a.ctorIdx).toNat = some a := by
  cases a <;> rfl

theorem armModeOf_onOff (arm : Bool) : armModeOf (onOff !arm).toNat = some arm := by cases arm <;> rfl

theorem watchNoOf_isNone {v : Nat} : watchNoOf v = none ↔ 1 < v := by
  match v with
  | 0 | 1 => decide
  | v + 2 => exact iff_of_true rfl (by omega)

theorem armModeOf_isNone {v : Nat} : armModeOf v = none ↔ 1 < v := by
  match v with
  | 0 | 1 => decide
  | v + 2 => exact iff_of_true rfl (by omega)

theorem watchKindOf_isNone {v : Nat} : watchKindOf v = none ↔ 2 < v := by
  match v with
  | 0 | 1 | 2 => decide
  | v + 3 => exact iff_of_true rfl (by omega)

theorem watchActionOf_isNone {v : Nat} : watchActionOf v = none ↔ 1 < v := by
  match v with
  | 0 | 1 => decide
  | v + 2 => exact iff_of_true rfl (by omega)

/-! ### Set Watch -/

/-- R21: the fields of Set Watch. -/
def watchFields (i : SlotNo) (n : WatchNo) (arm : Bool) (k : WatchKind) (limit : BitVec 32) (a : WatchAction) : List Byte :=
  [BitVec.ofNat 8 i.val, BitVec.ofNat 8 n.ctorIdx, onOff (!arm), BitVec.ofNat 8 k.ctorIdx] ++ u32 limit.toNat ++
    [BitVec.ofNat 8 a.ctorIdx]

theorem setWatchOperand_fields (i : SlotNo) (n : WatchNo) (arm : Bool) (k : WatchKind) (limit : BitVec 32)
    (a : WatchAction) :
    setWatchOperand (watchFields i n arm k limit a) =
      .ok (i, n, arm,
        { kind := k, limit := min 2000000 limit.toNat, action := a, state := if arm then .armed else .off }) := by
  generalize parts : watchFields i n arm k limit a = f
  have one (p : Nat) (b : Byte) (h : (f.drop p).take 1 = [b]) : fieldAt f p 1 = b.toNat := by rw [fieldAt, h, natOf_one]
  have slot := one 0 (BitVec.ofNat 8 i.val) (by rw [← parts]; rfl)
  have watch := one 1 (BitVec.ofNat 8 n.ctorIdx) (by rw [← parts]; rfl)
  have mode := one 2 (onOff !arm) (by rw [← parts]; rfl)
  have kind := one 3 (BitVec.ofNat 8 k.ctorIdx) (by rw [← parts]; rfl)
  have action := one 8 (BitVec.ofNat 8 a.ctorIdx) (by rw [← parts]; rfl)
  have limit_ : fieldAt f 4 4 = limit.toNat := (congrArg natOf (by rw [← parts]; rfl)).trans (natOf_u32 limit)
  simp only [setWatchOperand, slot, watch, mode, kind, action, limit_, numberOf_ofNat i (by omega), watchNoOf_ctorIdx,
    watchKindOf_ctorIdx, watchActionOf_ctorIdx, armModeOf_onOff]

theorem setWatchOperand_badValue {f : List Byte} {i : SlotNo} (slot : numberOf 16 (fieldAt f 0 1) = some i)
    (out : watchNoOf (fieldAt f 1 1) = none ∨ armModeOf (fieldAt f 2 1) = none ∨ watchKindOf (fieldAt f 3 1) = none ∨
      watchActionOf (fieldAt f 8 1) = none) : setWatchOperand f = .error .badValue := by
  simp only [setWatchOperand, slot]
  split
  · next n arm k a number mode kind action => simp [number, mode, kind, action] at out
  · rfl

/-- R21, R20: the watch as it stands once it was compared. -/
theorem State.configureWatch_eq (s : State) (i : SlotNo) (n : WatchNo) (w : Watch) :
    let x := s.slot i
    let fires := decide (w.state = .armed) && w.condition x
    let raised := if fires then s.raise .watch (.slot i) (.watch n w.kind w.limit w.action (w.quantity x)) else s
    s.configureWatch i n w =
      (raised.putSlot i (x.putWatch n (if fires then { w with state := .fired } else w))).judgeFitness s i := by
  simp only [State.configureWatch]
  split <;> rfl

/-- What the handing on of a slot's fitness leaves of its own record and the others. -/
theorem State.putSlot_judgeFitness_slot (s before : State) (i j : SlotNo) (x : Slot) :
    ((s.putSlot i x).judgeFitness before i).slot j = if j = i then x else s.slot j := by
  have slots : ((s.putSlot i x).judgeFitness before i).slot j = (s.putSlot i x).slot j :=
    congrArg (fun slots : Vector Slot 16 => slots[j]) (State.judgeFitness_keepsSlots before (s.putSlot i x) i).1
  rw [slots]
  split
  · next same => rw [same, State.putSlot_same]
  · next other => exact State.putSlot_other s x other

/-- Settles O23: the fields read back, and the watch is compared before the fitness is handed on. -/
theorem watchIsSet : Obligations.WatchIsSet := by
  refine fun tag s h => ⟨fun i n arm k limit a => ?_, fun fields size => ⟨fun high => ?_, fun low out => ?_⟩⟩
  · intro w
    have sets (u : State) : setWatch (watchFields i n arm k limit a) u =
        done (u.configureWatch i n w) (u32 (min 2000000 limit.toNat)) := by
      rw [setWatch, sized_eq (by rfl : (watchFields i n arm k limit a).length = 9), setWatchOperand_fields]
    have kept (u : State) : keepsBut [.notices, .slots, .routes, .trace, .pins] u (u.configureWatch i n w) := by simp
    have same : s.requestArrives (watchFields i n arm k limit a) = s.requestArrives (List.replicate 9 0#8) :=
      requestArrives_length s rfl
    refine ⟨((s.requestArrives (watchFields i n arm k limit a)).configureWatch i n w).addReply _,
      doneWith h rfl rfl (sets _) (kept _) (by simp), ?_⟩
    have slot (j : SlotNo) : (s.requestArrives (List.replicate 9 0#8)).slot j = s.slot j := by simp [State.slot]
    have armed : decide (w.state = .armed) = arm := by cases arm <;> rfl
    rw [same]
    generalize s.requestArrives (List.replicate 9 0#8) = u at slot ⊢
    have configured := u.configureWatch_eq i n w
    simp only [armed, slot] at configured
    rw [configured]
    refine ⟨fun j other => ?_, ?_⟩
    · refine (State.putSlot_judgeFitness_slot _ u i j _).trans ?_
      rw [if_neg other]
      split <;> exact slot j
    · intro x fires z details arrived raised handed
      refine ⟨(State.putSlot_judgeFitness_slot _ u i i _).trans (if_pos rfl), ⟨rfl, rfl, rfl⟩, rfl, ?_⟩
      have moved : (raised.putSlot i z).settings = handed.settings :=
        (State.judgeFitness_keepsSlots u (raised.putSlot i z) i).2.symm
      refine State.judgeFitness_noticesWere (b := u) (m := raised.putSlot i z) (i := i) (by decide) (by decide) ?_ ?_
        moved rfl
      · change raised.notices = raisedOnto handed.settings.mask _ u.notices
        rw [← moved]
        simp only [raised]
        split <;> rfl
      · split <;> simp
  · refine refusedWith (k := setWatch fields) h rfl rfl ((sized_eq size).trans ?_)
    have none : numberOf 16 (fieldAt fields 0 1) = none := by
      rw [numberOf_isNone, fieldAt_one_byteAt _ _ (by omega)]
      exact high
    rw [setWatchOperand, none]
  · refine refusedWith (k := setWatch fields) h rfl rfl ((sized_eq size).trans ?_)
    have slot : numberOf 16 (fieldAt fields 0 1) = some ⟨(byteAt fields 0).toNat, by omega⟩ := by
      rw [fieldAt_one_byteAt _ _ (by omega)]
      exact numberOf_of_lt _
    rw [setWatchOperand_badValue slot]
    rw [fieldAt_one_byteAt _ _ (by omega), fieldAt_one_byteAt _ _ (by omega), fieldAt_one_byteAt _ _ (by omega),
      fieldAt_one_byteAt _ _ (by omega), watchNoOf_isNone, armModeOf_isNone, watchKindOf_isNone, watchActionOf_isNone]
    exact out

end Sys2Proof.Machine

/-!
PROOFS. What the Slot Table's operations leave of the other slots' records, and Grant Grace (R22).
-/

namespace Sys2Proof.Machine

open Sys2Proof

/-! ### The other slots -/

theorem otherSlots.refl (i : SlotNo) (s : State) : otherSlots i s s := fun _ _ => rfl

theorem otherSlots.trans {i : SlotNo} {s t u : State} (h : otherSlots i s t) (k : otherSlots i t u) : otherSlots i s u :=
  fun j other => (k j other).trans (h j other)

/-- A change that keeps the slot block. -/
theorem otherSlots.of_slots {i : SlotNo} {s t : State} (h : t.slots = s.slots) : otherSlots i s t :=
  fun j _ => congrArg (fun slots : Vector Slot 16 => slots[j]) h

theorem State.slot_of_slots {s t : State} (h : t.slots = s.slots) (j : SlotNo) : t.slot j = s.slot j :=
  congrArg (fun slots : Vector Slot 16 => slots[j]) h

theorem State.putSlot_otherSlots (s : State) (i : SlotNo) (x : Slot) : otherSlots i s (s.putSlot i x) :=
  fun _ other => State.putSlot_other s x other

theorem State.judgeFitness_slots (before s : State) (i : SlotNo) : (s.judgeFitness before i).slots = s.slots :=
  (State.judgeFitness_keepsSlots before s i).1

theorem State.changeSlot_otherSlots (s : State) (i : SlotNo) (x : Slot) (k : Option (TransKind × FailKind)) :
    otherSlots i s (s.changeSlot i x k) := by
  refine (s.putSlot_otherSlots i x.leaveChallenge).trans (otherSlots.of_slots ?_)
  refine (State.judgeFitness_slots s _ i).trans ?_
  cases (s.slot i).state.supplies && !x.leaveChallenge.state.supplies <;> rfl

theorem State.compareWatch_otherSlots (s : State) (i : SlotNo) (n : WatchNo) : otherSlots i s (s.compareWatch i n) := by
  simp only [State.compareWatch]
  split
  · exact (s.putSlot_otherSlots i _).trans (otherSlots.of_slots (State.judgeFitness_slots s _ i))
  · exact otherSlots.refl i s

theorem State.compareWatches_otherSlots (s : State) (i : SlotNo) : otherSlots i s (s.compareWatches i) :=
  (s.compareWatch_otherSlots i .w0).trans (State.compareWatch_otherSlots _ i .w1)

theorem State.moveSlot_otherSlots (s : State) (i : SlotNo) (x : Slot) (k : Option (TransKind × FailKind)) :
    otherSlots i s (s.moveSlot i x k) :=
  (s.changeSlot_otherSlots i x k).trans (State.compareWatches_otherSlots _ i)

/-! ### Notices -/

theorem State.raise_noticesWere (s : State) (k : NoticeKind) (u : Subject) (d : Details) {kinds : List NoticeKind}
    (h : k ∈ kinds) : noticesWere kinds [(k, u, d)] s.notices (s.raise k u d) :=
  ⟨[(k, u, d)], by simp [h], rfl⟩

/-- R10, R19, R20: the notices of a move, of its SLOT notice and of the watches that it fires. -/
theorem State.moveSlot_noticesWere (s : State) (i : SlotNo) (x : Slot) (k : Option (TransKind × FailKind)) :
    noticesWere [.slot, .watch]
      ((.slot, .slot i, slotDetails (s.slot i) x.leaveChallenge k) :: x.leaveChallenge.firings i) s.notices
      (s.moveSlot i x k) := by
  obtain ⟨-, -, fired⟩ := s.moveSlot_handsOn i x k (kinds := [.slot, .watch]) (by decide) (by decide) (by decide)
  refine (s.raise_noticesWere .slot (.slot i) (slotDetails (s.slot i) x.leaveChallenge k) (by decide)).append fired ?_
  have kept : keepsBut [.slots, .lines, .routes, .pins, .trace, .notices] s (s.moveSlot i x k) := by simp
  exact kept.2.2 .settings (by decide)

/-! ### Grant Grace -/

theorem graceAmount_fields (i : SlotNo) (amount : BitVec 32) :
    graceAmount (BitVec.ofNat 8 i.val :: u32 amount.toNat) = max 1 (min 2000000 amount.toNat) := by
  have read : fieldAt (BitVec.ofNat 8 i.val :: u32 amount.toNat) 1 4 = amount.toNat := natOf_u32 amount
  rw [graceAmount, read, clamp]

section
variable {u : State} (level : u.requests.access = .service) (i : SlotNo) (amount : BitVec 32)
include level

/-- R22: Grant Grace at SERVICE. -/
theorem grantGrace_service :
    grantGrace (BitVec.ofNat 8 i.val :: u32 amount.toNat) u =
      let c := max 1 (min 2000000 amount.toNat)
      match (u.slot i).state with
      | .grace => done (u.putSlot i { u.slot i with grace := satAdd 2000000 (u.slot i).grace c }) (u32 c)
      | .spent => done (u.moveSlot i { u.slot i with state := .grace, grace := c } none) (u32 c)
      | _ => refuse u .badState := by
  have size : (BitVec.ofNat 8 i.val :: u32 amount.toNat).length = 5 := rfl
  rw [grantGrace, sized_eq size, needsService_service level, onSlot_number, graceAmount_fields] <;> rfl

theorem grantGrace_grace (state : (u.slot i).state = .grace) :
    let c := max 1 (min 2000000 amount.toNat)
    grantGrace (BitVec.ofNat 8 i.val :: u32 amount.toNat) u =
      done (u.putSlot i { u.slot i with grace := min 2000000 ((u.slot i).grace + c) }) (u32 c) := by
  rw [grantGrace_service level i amount]
  dsimp only
  split <;> simp_all [satAdd]

theorem grantGrace_spent (state : (u.slot i).state = .spent) :
    let c := max 1 (min 2000000 amount.toNat)
    grantGrace (BitVec.ofNat 8 i.val :: u32 amount.toNat) u =
      done (u.moveSlot i { u.slot i with state := .grace, grace := c } none) (u32 c) := by
  rw [grantGrace_service level i amount]
  dsimp only
  split <;> simp_all

theorem grantGrace_badState (notGrace : (u.slot i).state ≠ .grace) (notSpent : (u.slot i).state ≠ .spent) :
    grantGrace (BitVec.ofNat 8 i.val :: u32 amount.toNat) u = refuse u .badState := by
  rw [grantGrace_service level i amount]
  dsimp only
  split <;> simp_all

end

/-- R26: a slot that keeps or takes up supplying keeps its pending checkpoint, and so its line. -/
theorem State.moveSlot_keepsLines {bs : List Block} (hb : [.slots, .routes, .pins, .trace, .notices] ⊆ bs) (s : State)
    (i : SlotNo) (x : Slot) (k : Option (TransKind × FailKind))
    (supplies : ((s.slot i).state.supplies && !x.leaveChallenge.state.supplies) = false) :
    keepsBut bs s (s.moveSlot i x k) := by
  simp only [List.cons_subset, List.nil_subset, and_true] at hb
  simp [State.moveSlot, State.changeSlot, supplies, hb]

/-- Settles O24: by the access level and the slot's state; a slot that was SPENT moves to GRACE. -/
theorem graceIsGranted : Obligations.GraceIsGranted := by
  intro tag i amount s h c fields request arrived
  have slot : arrived.slot i = s.slot i := by simp [arrived, State.slot]
  refine ⟨fun level => refusedLevel_of_operate (fields := fields) rfl h rfl (by simp [serviceCodes]) rfl level,
    fun level => ?_⟩
  have service : arrived.requests.access = .service := by simpa [arrived] using level
  refine ⟨fun state => ?_, fun state => ?_, fun notGrace notSpent => ?_, fun n rest high size => ?_⟩
  · have granted := grantGrace_grace service i amount (by rw [slot]; exact state)
    rw [slot] at granted
    have kept (u : State) (x : Slot) : keepsBut [.notices, .slots] u (u.putSlot i x) := by simp
    refine ⟨_, doneWith h rfl rfl granted (kept _ _) (by simp), fun j other => ?_, ?_, rfl⟩
    · exact (State.putSlot_other arrived _ other).trans (by simp [arrived, State.slot])
    · exact State.putSlot_same arrived i _
  · have granted := grantGrace_spent service i amount (by rw [slot]; exact state)
    rw [slot] at granted
    generalize isNew : ({ s.slot i with state := .grace, grace := c } : Slot) = new
    replace granted : grantGrace fields arrived = done (arrived.moveSlot i new none) (u32 c) := isNew ▸ granted
    have left : new.leaveChallenge = { s.slot i with state := .grace, grace := c, nonce := none, tag := none } := by
      rw [← isNew]
      rfl
    have kept : keepsBut [.notices, .slots, .routes, .trace, .pins] arrived (arrived.moveSlot i new none) :=
      arrived.moveSlot_keepsLines (by simp) i new none (by rw [slot, state]; rfl)
    obtain ⟨record, ⟨routes, trace, pins⟩, -⟩ :=
      arrived.moveSlot_handsOn i new none (kinds := [.slot, .watch]) (by decide) (by decide) (by decide)
    have raised := arrived.moveSlot_noticesWere i new none
    have others := arrived.moveSlot_otherSlots i new none
    have details : slotDetails (s.slot i) new.leaveChallenge none =
        .slot .grace .spent (s.slot i).tenure (some (s.slot i).causes) none := by
      rw [left, slotDetails, state]
      rfl
    rw [slot, details, left] at raised
    rw [left] at record routes trace pins
    refine ⟨_, doneWith h rfl rfl granted kept (by simp), ?_⟩
    generalize arrived.moveSlot i new none = t at others record routes trace pins raised ⊢
    exact ⟨fun j other => (others j other).trans (by simp [arrived, State.slot]), record, routes, trace, pins, raised⟩
  · exact refusedWith h rfl rfl (grantGrace_badState service i amount (by rwa [slot]) (by rwa [slot]))
  · refine refusedWith (k := grantGrace (n :: rest)) h rfl rfl ?_
    rw [grantGrace, sized_eq (by simp [size]), needsService_service (by simpa using level), onSlot_badSubject _ _ _ high]

end Sys2Proof.Machine

/-!
PROOFS. A probe placed on a line, the watches of a slot whose state compares none, and Rescan Slot (R7).
-/

namespace Sys2Proof.Machine

open Sys2Proof

/-! ### Watches that compare nothing -/

/-- R19: the states in which a watch's condition may be true. -/
def SlotState.watched (x : SlotState) : Bool := x.supplies || decide (x = .grace) || decide (x = .spent)

theorem Watch.condition_unwatched (w : Watch) {x : Slot} (h : x.state.watched = false) : w.condition x = false := by
  obtain ⟨supplies, grace⟩ : x.state.supplies = false ∧ (decide (x.state = .grace) || decide (x.state = .spent)) = false := by
    simpa [SlotState.watched, and_assoc] using h
  have depleted : x.state ≠ .depleted := fun e => by rw [e] at supplies; cases supplies
  unfold Watch.condition
  split
  · rw [supplies]; rfl
  · rw [grace]; rfl
  · rw [decide_eq_false depleted]; rfl

/-- R19: in the other states no watch fires. -/
theorem State.compareWatches_unwatched {s : State} {i : SlotNo} (h : (s.slot i).state.watched = false) :
    s.compareWatches i = s := by
  have quiet (n : WatchNo) : s.compareWatch i n = s := by
    simp [State.compareWatch, Watch.condition_unwatched _ h]
  rw [State.compareWatches, quiet, quiet]

/-! ### A probe placed -/

theorem State.placeProbe_otherLines (s : State) (i : SlotNo) (step : ProbeStep) : otherLines i s (s.placeProbe i step) :=
  (s.putLine_otherLines i _).trans (State.takePending_otherLines _ i)

/-- R104: a probe-step waits on a line that is not IDLE. -/
theorem State.placeProbe_busy {s : State} {i : SlotNo} (busy : (s.line i).state ≠ .idle) (step : ProbeStep) :
    s.placeProbe i step = s.putLine i { s.line i with pendProbe := some step } :=
  State.takePending_busy (by rw [State.putLine_same]; exact busy)

/-- R105, R94: IDENTIFY placed on an IDLE line begins with a break. -/
theorem State.placeProbe_identify {s : State} {i : SlotNo} (idle : (s.line i).state = .idle) :
    s.placeProbe i .identify =
      s.putLine i (LineCtl.sendBreak { s.line i with pendProbe := none }
        (Transaction.start .identify (s.slot i).tenure) s.policy.bitRate (s.after 3)) := by
  let t := s.putLine i { s.line i with pendProbe := some .identify }
  have line : t.line i = { s.line i with pendProbe := some .identify } := State.putLine_same s i _
  refine (State.takePending_identify (s := t) (by rw [line]; exact idle) (by rw [line])).trans ?_
  rw [line, State.putLine_putLine]
  rfl

/-- R105, R95: READ FILL placed on an IDLE line is sent at once. -/
theorem State.placeProbe_readFill {s : State} {i : SlotNo} (idle : (s.line i).state = .idle) :
    s.placeProbe i .readFill =
      s.putLine i (LineCtl.sendRequest { s.line i with pendProbe := none }
        (Transaction.start .readFill (s.slot i).tenure) s.policy.bitRate) := by
  let t := s.putLine i { s.line i with pendProbe := some .readFill }
  have line : t.line i = { s.line i with pendProbe := some .readFill } := State.putLine_same s i _
  refine (State.takePending_readFill (s := t) (by rw [line]; exact idle) (by rw [line])).trans ?_
  rw [line, State.putLine_putLine]
  rfl

/-- R89: a probe-step asks the Digest Engine for nothing. -/
theorem State.placeProbe_digest (s : State) (i : SlotNo) (step : ProbeStep) : (s.placeProbe i step).digest = s.digest := by
  by_cases idle : (s.line i).state = .idle
  · cases step with
    | identify => rw [State.placeProbe_identify idle]; rfl
    | readFill => rw [State.placeProbe_readFill idle]; rfl
  · rw [State.placeProbe_busy idle]; rfl

/-! ### Rescan Slot -/

/-- R7: the record of a slot that is probed again within its tenure. -/
def Slot.rescanned (x : Slot) : Slot := { x with state := .probing, writeFailures := 0, nonce := none, tag := none }

/-- R7, R88, R111: the slot probed again, before its SLOT notice and the handing on of its fitness. -/
def State.rescanning (s : State) (i : SlotNo) : State :=
  let t := (s.putSlot i (s.slot i).rescanned).putLine i (s.line i).rescan
  let t := t.digestDrop i PassKind.ofChallenge
  (t.putSense i { t.senseOf i with proven := false }).placeProbe i .identify

theorem State.rescanning_keeps (s : State) (i : SlotNo) :
    keepsBut [.lines, .digest, .sense] (s.putSlot i (s.slot i).rescanned) (s.rescanning i) := by
  simp [State.rescanning]

/-- R7: no watch is compared in PROBING. -/
theorem State.rescan_eq (s : State) (i : SlotNo) :
    s.rescan i =
      ((s.rescanning i).raise .slot (.slot i)
        (.slot .probing (s.slot i).state (s.slot i).tenure none none)).judgeFitness s i := by
  refine State.compareWatches_unwatched (s := ((s.rescanning i).raise .slot (.slot i)
    (.slot .probing (s.slot i).state (s.slot i).tenure none none)).judgeFitness s i) ?_
  have slots := (State.judgeFitness_slots s ((s.rescanning i).raise .slot (.slot i)
    (.slot .probing (s.slot i).state (s.slot i).tenure none none)) i).trans ((s.rescanning_keeps i).2.2 .slots (by decide))
  rw [State.slot_of_slots slots i, State.putSlot_same]
  rfl

/-- The state in which the new probe is placed. -/
def State.rescanPlaces (s : State) (i : SlotNo) : State :=
  let t := (s.putSlot i (s.slot i).rescanned).putLine i (s.line i).rescan
  let t := t.digestDrop i PassKind.ofChallenge
  t.putSense i { t.senseOf i with proven := false }

theorem State.rescanPlaces_line (s : State) (i : SlotNo) : (s.rescanPlaces i).line i = (s.line i).rescan :=
  State.putLine_same (s.putSlot i (s.slot i).rescanned) i _

theorem State.rescanPlaces_slot (s : State) (i : SlotNo) : (s.rescanPlaces i).slot i = (s.slot i).rescanned :=
  State.putSlot_same s i _

theorem State.rescanning_busy {s : State} {i : SlotNo} (busy : (s.line i).state ≠ .idle) :
    (s.rescanning i).line i = { (s.line i).rescan with pendProbe := some .identify } := by
  have placed : s.rescanning i = (s.rescanPlaces i).placeProbe i .identify := rfl
  rw [placed, State.placeProbe_busy (by rw [State.rescanPlaces_line]; exact busy), State.putLine_same,
    State.rescanPlaces_line]

theorem State.rescanning_idle {s : State} {i : SlotNo} (idle : (s.line i).state = .idle) :
    (s.rescanning i).line i =
      LineCtl.sendBreak { (s.line i).rescan with pendProbe := none } (Transaction.start .identify (s.slot i).tenure)
        s.policy.bitRate (s.after 3) := by
  have placed : s.rescanning i = (s.rescanPlaces i).placeProbe i .identify := rfl
  rw [placed, State.placeProbe_identify (by rw [State.rescanPlaces_line]; exact idle), State.putLine_same,
    State.rescanPlaces_line, State.rescanPlaces_slot]
  rfl

theorem State.rescanning_otherLines (s : State) (i : SlotNo) : otherLines i s (s.rescanning i) :=
  (s.putLine_otherLines i (s.line i).rescan).trans ((s.rescanPlaces i).placeProbe_otherLines i .identify)

theorem State.rescanning_digest (s : State) (i : SlotNo) :
    (s.rescanning i).digest = s.digest.drop i PassKind.ofChallenge :=
  (s.rescanPlaces i).placeProbe_digest i .identify

theorem State.rescanning_sense (s : State) (i : SlotNo) :
    (s.rescanning i).senseOf i = { s.senseOf i with proven := false } := by
  have kept : keepsBut [.lines, .digest] (s.rescanPlaces i) (s.rescanning i) := by
    simp [State.rescanning, State.rescanPlaces]
  refine (congrArg (fun sense : Vector Sense 16 => sense[i]) (kept.2.2 .sense (by decide))).trans ?_
  simp [State.rescanPlaces, State.putSense, State.senseOf, State.digestDrop, State.putLine, State.putSlot]

/-! ### Frames that agree on what is read -/

theorem keepsBut.sameRead {bs : List Block} {s t : State} (k : keepsBut bs s t)
    (h : [Block.time, .settings, .slots, .routes, .trace, .pins].all (fun b => decide (b ∉ bs)) = true) : sameRead s t := by
  simp only [List.all_cons, List.all_nil, Bool.and_true, Bool.and_eq_true, decide_eq_true_eq] at h
  obtain ⟨time, settings, slots, routes, trace, pins⟩ := h
  exact ⟨k.2.2 .time time, k.2.2 .settings settings, k.2.2 .slots slots, k.2.2 .routes routes, k.2.2 .trace trace,
    k.2.2 .pins pins⟩

/-- R7: the slot probed again, with its SLOT notice. -/
def State.rescanRaised (s : State) (i : SlotNo) : State :=
  (s.rescanning i).raise .slot (.slot i) (.slot .probing (s.slot i).state (s.slot i).tenure none none)

theorem State.rescanRaised_keeps (s : State) (i : SlotNo) :
    keepsBut [.lines, .digest, .sense, .notices] (s.putSlot i (s.slot i).rescanned) (s.rescanRaised i) := by
  simp [State.rescanRaised, State.rescanning]

theorem State.rescanRaised_notices (s : State) (i : SlotNo) :
    (s.rescanRaised i).notices =
      (s.raise .slot (.slot i) (.slot .probing (s.slot i).state (s.slot i).tenure none none)).notices := by
  have notices : (s.rescanning i).notices = s.notices := (s.rescanning_keeps i).2.2 .notices (by decide)
  have settings : (s.rescanning i).settings = s.settings := (s.rescanning_keeps i).2.2 .settings (by decide)
  simp only [State.rescanRaised, State.raise, notices, settings]

theorem State.rescan_handsOn (s : State) (i : SlotNo) : s.rescan i = (s.rescanRaised i).judgeFitness s i :=
  s.rescan_eq i

theorem State.rescan_moves (s : State) (i : SlotNo) :
    slotMoves s (s.rescan i) i (s.slot i).rescanned (.slot .probing (s.slot i).state (s.slot i).tenure none none) := by
  have kept := s.rescanRaised_keeps i
  have notices := s.rescanRaised_notices i
  rw [State.rescan_handsOn]
  generalize s.rescanRaised i = w at kept notices ⊢
  exact slotMoves_intro (kept.sameRead (by decide)) notices ⟨rfl, rfl, rfl⟩ rfl
    ((State.judgeFitness_keepsSlots s w i).2.trans (kept.2.2 .settings (by decide)))

theorem State.rescan_slots (s : State) (i : SlotNo) : (s.rescan i).slots = (s.putSlot i (s.slot i).rescanned).slots := by
  rw [State.rescan_handsOn, State.judgeFitness_slots]
  exact (s.rescanRaised_keeps i).2.2 .slots (by decide)

theorem State.rescan_slot (s : State) (i : SlotNo) : (s.rescan i).slot i = (s.slot i).rescanned :=
  (State.slot_of_slots (s.rescan_slots i) i).trans (State.putSlot_same s i _)

theorem State.rescan_otherSlots (s : State) (i : SlotNo) : otherSlots i s (s.rescan i) :=
  (s.putSlot_otherSlots i _).trans (otherSlots.of_slots (s.rescan_slots i))

/-- What the SLOT notice and the handing on of the fitness leave of the line, the sense record and the digest work. -/
theorem State.rescan_blocks (s : State) (i : SlotNo) :
    (s.rescan i).lines = (s.rescanning i).lines ∧ (s.rescan i).sense = (s.rescanning i).sense ∧
      (s.rescan i).digest = (s.rescanning i).digest := by
  rw [State.rescan_eq]
  have kept : keepsBut [.routes, .pins, .trace, .notices] (s.rescanning i)
      (((s.rescanning i).raise .slot (.slot i)
        (.slot .probing (s.slot i).state (s.slot i).tenure none none)).judgeFitness s i) := by simp
  exact ⟨kept.2.2 .lines (by decide), kept.2.2 .sense (by decide), kept.2.2 .digest (by decide)⟩

/-- Settles O22: the probe is placed on the line as Rescan leaves it, and the move is handed on. -/
theorem rescanStartsTheProbe : Obligations.RescanStartsTheProbe := by
  intro tag i s h
  let fields : List Byte := [BitVec.ofNat 8 i.val]
  have slots (u : State) : rescanSlot fields u =
      if (u.slot i).state = .empty then refuse u .badState else done (u.rescan i) [] := by
    rw [rescanSlot, sized_eq (by rfl : fields.length = 1), onSlot_number]
  have slot (j : SlotNo) : (s.requestArrives fields).slot j = s.slot j := by simp [State.slot]
  have line (j : SlotNo) : (s.requestArrives fields).line j = s.line j := by simp [State.line]
  have sense : (s.requestArrives fields).senseOf i = s.senseOf i := by simp [State.senseOf]
  have digest : (s.requestArrives fields).digest = s.digest := by simp
  have after : (s.requestArrives fields).after 3 = s.after 3 := by simp [State.after]
  refine ⟨fun empty => ?_, fun occupied => ?_⟩
  · exact refusedWith h rfl rfl ((slots _).trans (if_pos (by rwa [slot])))
  · have kept (u : State) : keepsBut [.notices, .slots, .lines, .sense, .digest, .routes, .trace, .pins] u (u.rescan i) := by
      simp
    refine ⟨_, doneWith h rfl rfl ((slots _).trans (if_neg (by rwa [slot]))) (kept _) (by simp), ?_⟩
    generalize s.requestArrives fields = u at slot line sense digest after ⊢
    obtain ⟨lines, senses, digests⟩ := u.rescan_blocks i
    have ownLine : (u.rescan i).line i = (u.rescanning i).line i :=
      congrArg (fun lines : Vector LineCtl 16 => lines[i]) lines
    have record : (u.rescan i).slot i = (s.slot i).rescanned := (u.rescan_slot i).trans (by rw [slot])
    have moves := u.rescan_moves i
    rw [slot, ← record] at moves
    have probes := u.rescanning_idle (i := i)
    rw [line, slot, after] at probes
    have others := u.rescan_otherSlots i
    generalize u.rescan i = t at lines senses digests ownLine record moves others ⊢
    refine ⟨record, fun j other => (others j other).trans (slot j), fun j other => ?_, ?_, moves,
      digests.trans ((u.rescanning_digest i).trans (by rw [digest])), fun busy => ?_, fun idle => ?_⟩
    · exact (congrArg (fun lines : Vector LineCtl 16 => lines[j]) lines).trans
        ((u.rescanning_otherLines i j other).trans (line j))
    · exact (congrArg (fun sense : Vector Sense 16 => sense[i]) senses).trans
        ((u.rescanning_sense i).trans (by rw [sense]))
    · exact ownLine.trans ((State.rescanning_busy (by rw [line]; exact busy)).trans (by rw [line]; rfl))
    · have begun := ownLine.trans (probes idle)
      exact ⟨congrArg LineCtl.state begun, congrArg LineCtl.timer begun, congrArg LineCtl.trans begun,
        congrArg LineCtl.pendProbe begun, congrArg LineCtl.pendChallenge begun, congrArg LineCtl.pendCheckpoint begun⟩

end Sys2Proof.Machine

/-!
PROOFS. The requests about tables and settings: the volume banks, the temperature table, the policy (R33 to R36, R159).
-/

namespace Sys2Proof.Machine

open Sys2Proof

/-! ### Volume tables -/

theorem bankOf_isNone {v : Nat} : bankOf v = none ↔ 1 < v := by
  match v with
  | 0 | 1 => decide
  | v + 2 => exact iff_of_true rfl (by omega)

theorem bankOf_ctorIdx (name : BankName) : bankOf (BitVec.ofNat 8 name.ctorIdx).toNat = some name := by cases name <;> rfl

theorem bankOf_byte {b : Byte} (h : b.toNat ≤ 1) : bankOf b.toNat = some (if b = 0#8 then .a else .b) := by
  by_cases zero : b = 0#8
  · subst zero; rfl
  · have one : b = 1#8 := by bv_omega
    subst one; rfl

/-- R33: one entry of the list, in range. -/
theorem writeVolume_get (bank : VolumeBank) {v : VolumeField} (channel : v.channel ≤ 11) (waveform : v.waveform ≤ 3)
    (c : Channel) (w : Fin 4) :
    ((writeVolume bank v)[c])[w] = if (v.channel == c.val && v.waveform == w.val) = true then v.volumes else (bank[c])[w] := by
  have named : numberOf 12 v.channel = some ⟨v.channel, by omega⟩ := numberOf_of_lt _
  have numbered : numberOf 4 v.waveform = some ⟨v.waveform, by omega⟩ := numberOf_of_lt _
  simp only [writeVolume, named, numbered]
  by_cases same : v.channel = c.val
  · by_cases wave : v.waveform = w.val
    · simp [same, wave]
    · simp [same, wave]
  · simp [same]

/-- R33: the later of two entries for one channel and waveform set stands. -/
theorem foldl_writeVolume_get (vs : List VolumeField) (channels : ∀ v ∈ vs, v.channel ≤ 11)
    (waveforms : ∀ v ∈ vs, v.waveform ≤ 3) (bank : VolumeBank) (c : Channel) (w : Fin 4) :
    ((vs.foldl writeVolume bank)[c])[w] =
      match vs.reverse.find? (fun v => v.channel == c.val && v.waveform == w.val) with
      | some v => v.volumes
      | none => (bank[c])[w] := by
  induction vs using List.reverseRecOn with
  | nil => rfl
  | append_singleton vs v ih =>
    rw [List.foldl_append, List.foldl_cons, List.foldl_nil, writeVolume_get _ (channels v (by simp)) (waveforms v (by simp)),
      List.reverse_append, List.reverse_singleton, List.singleton_append, List.find?_cons]
    cases (v.channel == c.val && v.waveform == w.val)
    · simpa using ih (fun u h => channels u (by simp [h])) fun u h => waveforms u (by simp [h])
    · rfl

theorem Settings.loadVolumes_bank (x : Settings) (name other : BankName) (vs : List VolumeField) :
    (x.loadVolumes name vs).bank other = if other = name then vs.foldl writeVolume (x.bank name) else x.bank other := by
  cases name <;> cases other <;> rfl

theorem volumeFields_least (fields : List Byte) {v : VolumeField} (h : v ∈ volumeFields fields) :
    10 ≤ v.volumes.v1 ∧ 10 ≤ v.volumes.v2 ∧ 10 ≤ v.volumes.v3 := by
  obtain ⟨k, -, rfl⟩ := List.mem_map.mp h
  exact ⟨Nat.le_max_left .., Nat.le_max_left .., Nat.le_max_left ..⟩

section
variable {u : State} {fields : List Byte} (size : fields.length = 2 + 8 * (byteAt fields 1).toNat)
include size

/-- R33: a bank in range, and then the checks on the list. -/
theorem loadVolumeTable_eq (inRange : (byteAt fields 0).toNat ≤ 1) :
    loadVolumeTable fields u =
      let name : BankName := if byteAt fields 0 = 0#8 then .a else .b
      let vs := volumeFields fields
      if vs.length = 0 ∨ 12 < vs.length then refuse u .badValue
      else if vs.any fun v => decide (11 < v.channel) then refuse u .badSubject
      else if vs.any fun v => decide (3 < v.waveform) then refuse u .badValue
      else if name = u.settings.active then refuse u .badState
      else done { u with settings := u.settings.loadVolumes name vs } (vs.flatMap VolumeField.echo) := by
  rw [loadVolumeTable, sized_eq (by rw [size, listSize]), fieldAt_one_byteAt _ _ (by omega), bankOf_byte inRange]

theorem loadVolumeTable_noBank (out : 1 < (byteAt fields 0).toNat) : loadVolumeTable fields u = refuse u .badValue := by
  rw [loadVolumeTable, sized_eq (by rw [size, listSize]), fieldAt_one_byteAt _ _ (by omega), bankOf_isNone.mpr out]

end

/-- R34: a bank's name selects it. -/
theorem selectVolumeBank_eq (u : State) (b : Byte) :
    selectVolumeBank [b] u =
      match bankOf b.toNat with
      | none => refuse u .badValue
      | some name => done { u with settings := { u.settings with active := name } } [BitVec.ofNat 8 name.ctorIdx] := by
  rw [selectVolumeBank, sized_eq (by rfl : [b].length = 1), fieldAt_one_byteAt _ _ (by simp)]
  simp only [u8_eq]
  rfl

/-! ### The volumes of the lines in flight -/

theorem onNewestFlight_map {α : Type} {f : Flight → Flight} {g : Flight → α} (same : ∀ l, g (f l) = g l) (ls : List Flight) :
    (onNewestFlight f ls).map g = ls.map g := by
  match ls with
  | [] => rfl
  | [l] => exact congrArg (· :: []) (same l)
  | l :: k :: ls => exact congrArg (g l :: ·) (onNewestFlight_map same (k :: ls))

theorem State.cutLine_volumes (s : State) (arrived : List Byte) :
    (s.cutLine arrived).forward.flights.map Flight.volumes = s.forward.flights.map Flight.volumes := by
  refine (onNewestFlight_map (f := fun l => { l with upstream := .failed }) (fun _ => rfl) _).trans ?_
  unfold State.placeLevels
  split
  · rfl
  · exact onNewestFlight_map (f := fun l => l.count _) (fun _ => rfl) _

/-- R34: the packet of a request leaves the volumes that the lines in flight copied, also of a line that it cuts. -/
theorem State.requestArrives_volumes (s : State) (fields : List Byte) :
    (s.requestArrives fields).forward.flights.map Flight.volumes = s.forward.flights.map Flight.volumes := by
  have cut : (s.cutPacket []).forward.flights.map Flight.volumes = s.forward.flights.map Flight.volumes := by
    unfold State.cutPacket
    split <;> first | rfl | exact s.cutLine_volumes []
  have begins (u : State) : u.packetBegins.forward = u.forward := by
    have kept : keepsBut [.link, .notices] u u.packetBegins := by simp
    exact kept.2.2 .forward (by decide)
  have begun : s.ensureBegun.forward.flights.map Flight.volumes = s.forward.flights.map Flight.volumes := by
    unfold State.ensureBegun
    split
    · rfl
    · exact (congrArg (fun f : Forward => f.flights.map Flight.volumes) (begins ((s.cutPacket []).send 1))).trans cut
  have received (u : State) : u.symbolReceived.forward = u.forward := by
    have kept : keepsBut [.link] u u.symbolReceived := by simp
    exact kept.2.2 .forward (by decide)
  exact (congrArg (fun f : Forward => f.flights.map Flight.volumes)
    (received (s.ensureBegun.send (laneBytes (fields.length + 2))))).trans begun

/-- Settles O25: the checks in order, and the last entry for a channel and waveform set found from the end. -/
theorem volumeBanksAreLoadedAndSelected : Obligations.VolumeBanksAreLoadedAndSelected := by
  refine ⟨fun tag fields s h size => ?_, fun tag s h => ⟨fun name => ?_, fun b high => ?_⟩⟩
  · intro vs
    have active : (s.requestArrives fields).settings = s.settings := by simp
    refine ⟨fun out => refusedWith h rfl rfl (loadVolumeTable_noBank size out), fun inRange => ?_⟩
    have meaning := loadVolumeTable_eq (u := s.requestArrives fields) size inRange
    dsimp only at meaning
    refine ⟨fun count => refusedWith h rfl rfl (meaning.trans (if_pos count)), fun some few => ?_⟩
    rw [if_neg (not_or.mpr ⟨Nat.ne_of_gt some, Nat.not_lt.mpr few⟩)] at meaning
    refine ⟨fun outside => refusedWith h rfl rfl (meaning.trans (if_pos (by simpa using outside))), fun channels => ?_⟩
    rw [if_neg (by simpa using channels)] at meaning
    refine ⟨fun outside => refusedWith h rfl rfl (meaning.trans (if_pos (by simpa using outside))), fun waveforms => ?_⟩
    rw [if_neg (by simpa using waveforms), active] at meaning
    intro name
    refine ⟨fun same => refusedWith h rfl rfl (meaning.trans (if_pos same)), fun other => ?_⟩
    rw [if_neg other] at meaning
    refine ⟨_, doneWith h rfl rfl meaning ((keepsBut_settings (by simp) _ _ _).mpr (keepsBut_refl _ _)) (by simp), rfl, ?_, fun v => volumeFields_least fields, fun c w => ?_⟩
    · exact (Settings.loadVolumes_bank s.settings name s.settings.active vs).trans (if_neg (Ne.symm other))
    · refine (congrArg (fun bank : VolumeBank => (bank[c])[w])
        ((Settings.loadVolumes_bank s.settings name name vs).trans (if_pos rfl))).trans ?_
      exact foldl_writeVolume_get vs channels waveforms _ c w
  · have meaning := selectVolumeBank_eq (s.requestArrives [BitVec.ofNat 8 name.ctorIdx]) (BitVec.ofNat 8 name.ctorIdx)
    have active : (s.requestArrives [BitVec.ofNat 8 name.ctorIdx]).settings = s.settings := by simp
    rw [bankOf_ctorIdx] at meaning
    dsimp only at meaning
    rw [active] at meaning
    refine ⟨_, doneWith h rfl rfl meaning ((keepsBut_settings (by simp) _ _ _).mpr (keepsBut_refl _ _)) (by simp), rfl, State.requestArrives_volumes s _,
      fun c w few => ?_⟩
    have numbered : numberOf 4 w.toNat = some ⟨w.toNat, few⟩ := numberOf_of_lt few
    simp only [State.volumesFor, numbered]
    cases name <;> rfl
  · refine refusedWith h rfl rfl ((selectVolumeBank_eq _ b).trans ?_)
    rw [bankOf_isNone.mpr high]

end Sys2Proof.Machine

/-!
PROOFS. Load Temperature Table (R35, R36): every fresh head judged afresh under a changed stale time.
-/

namespace Sys2Proof.Machine

open Sys2Proof

/-- R36: a fresh head whose reading is older than that stale time. -/
def Head.late (s : State) (stale : Nat) (x : Head) : Bool := x.staleTimer.isSome && decide (stale < s.since x.readAt)

/-- R36: the record of a head judged afresh under that stale time. -/
def Head.rejudged (s : State) (stale : Nat) (x : Head) : Head :=
  if x.staleTimer.isNone then x
  else if stale < s.since x.readAt then { x with staleTimer := none }
  else { x with staleTimer := some (x.readAt + BitVec.ofNat 32 stale) }

/-- R36: the TEMP notice of a head that becomes stale by it. -/
def Head.rejudgedNotice (s : State) (stale : Nat) (h : HeadNo) (x : Head) (u : NoticeUnit) : NoticeUnit :=
  if x.late s stale then
    u.take s.settings.mask[NoticeKind.temp.position] .temp (.head h) (.temp false x.reading)
  else u

theorem State.rejudgeHead_eq {s u : State} (h : HeadNo) (settings : u.settings = s.settings) (time : u.time = s.time) :
    u.rejudgeHead h =
      { u.putHead h ((u.head h).rejudged s s.settings.temp.staleTime) with
        notices := Head.rejudgedNotice s s.settings.temp.staleTime h (u.head h) u.notices } := by
  have since : u.since (u.head h).readAt = s.since (u.head h).readAt := by simp [State.since, time]
  unfold State.rejudgeHead Head.rejudged Head.rejudgedNotice Head.late
  cases fresh : (u.head h).staleTimer with
  | none => simp [fresh, State.putHead_self]
  | some e =>
    by_cases late : s.settings.temp.staleTime < s.since (u.head h).readAt
    · simp [fresh, settings, since, late, State.goStale, State.raiseTemp, State.raise, State.putHead]
      simp [State.head]
    · simp [fresh, settings, since, late, State.putHead]

/-- R36: the heads judged afresh in ascending number. -/
theorem foldl_rejudgeHead (s : State) :
    (headNos.foldl State.rejudgeHead s).notices =
        (headNos.filter fun h => (s.head h).late s s.settings.temp.staleTime).foldl
          (fun u h =>
            u.take s.settings.mask[NoticeKind.temp.position] .temp (.head h) (.temp false (s.head h).reading))
          s.notices ∧
      ∀ h : HeadNo, (headNos.foldl State.rejudgeHead s).head h = (s.head h).rejudged s s.settings.temp.staleTime := by
  obtain ⟨notices, heads⟩ := foldl_heads (s := s) (f := State.rejudgeHead)
    (new := fun _ x => x.rejudged s s.settings.temp.staleTime)
    (notice := fun h x => Head.rejudgedNotice s s.settings.temp.staleTime h x)
    (fun u h => State.rejudgeHead_eq h) headNos (List.nodup_finRange 8) s rfl rfl
  refine ⟨?_, fun h => (heads h).trans (if_pos (List.mem_finRange h))⟩
  rw [notices, List.foldl_filter]
  rfl

/-- R35, R36: the table is replaced, and a change of the stale time judges every head afresh. -/
theorem State.loadTemperature_does (u : State) (table : TempTable) :
    let rejudged (h : HeadNo) : Bool :=
      decide (table.staleTime ≠ u.settings.temp.staleTime) && (u.head h).staleTimer.isSome
    let late (h : HeadNo) : Bool := decide (table.staleTime < u.since (u.head h).readAt)
    (u.loadTemperature table).settings = { u.settings with temp := table } ∧
      (∀ h : HeadNo,
        (u.loadTemperature table).head h =
          if rejudged h = false then u.head h
          else if late h then { u.head h with staleTimer := none }
          else { u.head h with staleTimer := some ((u.head h).readAt + BitVec.ofNat 32 table.staleTime) }) ∧
      (u.loadTemperature table).notices =
        (headNos.filter fun h => rejudged h && late h).foldl
          (fun n h => n.take u.settings.mask[NoticeKind.temp.position] .temp (.head h) (.temp false (u.head h).reading))
          u.notices := by
  intro rejudged late
  obtain ⟨v, isLoaded⟩ : ∃ v : State, v = { u with settings := { u.settings with temp := table } } := ⟨_, rfl⟩
  have loaded : v.settings = { u.settings with temp := table } := by rw [isLoaded]
  have own (k : HeadNo) : v.head k = u.head k := by rw [isLoaded]; rfl
  have arrived : v.notices = u.notices := by rw [isLoaded]
  have since (k : HeadNo) : v.since (u.head k).readAt = u.since (u.head k).readAt := by rw [isLoaded]; rfl
  by_cases same : table.staleTime = u.settings.temp.staleTime
  · have stays : u.loadTemperature table = v := (if_pos same).trans isLoaded.symm
    have none (h : HeadNo) : rejudged h = false := by simp [rejudged, same]
    refine ⟨by rw [stays, loaded], fun h => by rw [stays, own, if_pos (none h)], ?_⟩
    simp only [stays, arrived, none, Bool.false_and, List.filter_false, List.foldl_nil]
  · have judged : u.loadTemperature table = headNos.foldl State.rejudgeHead v := by
      rw [isLoaded]
      exact if_neg same
    have changed (h : HeadNo) : rejudged h = (u.head h).staleTimer.isSome := by simp [rejudged, same]
    obtain ⟨notices, heads⟩ := foldl_rejudgeHead v
    have kept : keepsBut [.heads, .notices] v (headNos.foldl State.rejudgeHead v) := by simp
    rw [judged]
    refine ⟨(kept.2.2 .settings (by decide)).trans loaded, fun k => (heads k).trans ?_, notices.trans ?_⟩
    · simp only [own, loaded, Head.rejudged, since, changed, late]
      cases (u.head k).staleTimer <;> simp
    · simp only [own, loaded, Head.late, since, changed, arrived, late]

theorem tempTableOperand_multiplier (f : List Byte) (b : Fin 16) :
    (tempTableOperand f).multipliers[b] = max 512 (min 2047 (fieldAt f (2 * b.val) 2)) := by
  simp [tempTableOperand, clamp]

/-- Settles O26: the table is stored, and a changed stale time judges the heads afresh. -/
theorem temperatureTableIsLoaded : Obligations.TemperatureTableIsLoaded := by
  intro tag fields s h size table
  refine ⟨tempTableOperand_multiplier fields, fieldAt_one_byteAt fields 32 (by omega), ?_, ?_, rfl, ?_⟩
  · rw [← fieldAt_one_byteAt fields 33 (by omega)]
    rfl
  · rw [← fieldAt_one_byteAt fields 34 (by omega)]
    rfl
  · have meaning (u : State) : loadTemperatureTable fields u = done (u.loadTemperature table) table.bytes := sized_eq size
    have kept (u : State) : keepsBut [.notices, .settings, .heads] u (u.loadTemperature table) := by simp
    refine ⟨_, doneWith h rfl rfl (meaning _) (kept _) (by simp), ?_⟩
    have settings : (s.requestArrives fields).settings = s.settings := by simp
    have head (k : HeadNo) : (s.requestArrives fields).head k = s.head k := by simp [State.head]
    have time : (s.requestArrives fields).time = s.time := by simp
    generalize s.requestArrives fields = u at settings head time ⊢
    have since (k : HeadNo) : u.since (s.head k).readAt = (s.time - (s.head k).readAt).toNat := by
      rw [State.since, time]
    have does := u.loadTemperature_does table
    generalize u.loadTemperature table = t at does ⊢
    simp only [settings, head, since] at does
    exact does

end Sys2Proof.Machine

/-!
PROOFS. Set Policy (R159).
-/

namespace Sys2Proof.Machine

open Sys2Proof

/-! ### The fields of Set Policy -/

theorem nonGenuineOf_isNone {v : Nat} : nonGenuineOf v = none ↔ 1 < v := by
  match v with
  | 0 | 1 => decide
  | v + 2 => exact iff_of_true rfl (by omega)

theorem refillPolicyOf_isNone {v : Nat} : refillPolicyOf v = none ↔ 2 < v := by
  match v with
  | 0 | 1 | 2 => decide
  | v + 3 => exact iff_of_true rfl (by omega)

theorem bitRateOf_isNone {v : Nat} : bitRateOf v = none ↔ 3 < v := by
  match v with
  | 0 | 1 | 2 | 3 => decide
  | v + 4 => exact iff_of_true rfl (by omega)

theorem nonGenuineOf_of_le {v : Nat} (h : v ≤ 1) : ∃ g, nonGenuineOf v = some g ∧ g.ctorIdx = v := by
  match v with
  | 0 => exact ⟨.grace, rfl, rfl⟩
  | 1 => exact ⟨.reject, rfl, rfl⟩
  | v + 2 => omega

theorem refillPolicyOf_of_le {v : Nat} (h : v ≤ 2) : ∃ g, refillPolicyOf v = some g ∧ g.ctorIdx = v := by
  match v with
  | 0 => exact ⟨.acceptLow, rfl, rfl⟩
  | 1 => exact ⟨.grace, rfl, rfl⟩
  | 2 => exact ⟨.reject, rfl, rfl⟩
  | v + 3 => omega

theorem bitRateOf_of_le {v : Nat} (h : v ≤ 3) : ∃ r, bitRateOf v = some r ∧ r.ctorIdx = v := by
  match v with
  | 0 => exact ⟨.r9600, rfl, rfl⟩
  | 1 => exact ⟨.r19200, rfl, rfl⟩
  | 2 => exact ⟨.r38400, rfl, rfl⟩
  | 3 => exact ⟨.r76800, rfl, rfl⟩
  | v + 4 => omega

theorem setPolicyOperand_badValue {f : List Byte}
    (out : nonGenuineOf (fieldAt f 0 1) = none ∨ refillPolicyOf (fieldAt f 1 1) = none ∨
      bitRateOf (fieldAt f 2 1) = none) : setPolicyOperand f = .error .badValue := by
  unfold setPolicyOperand
  split
  · next g r b nonGenuine refill rate => simp [nonGenuine, refill, rate] at out
  · rfl

/-- R159: the policy that the fields give. -/
def policyFields (f : List Byte) (g : NonGenuinePolicy) (r : RefillPolicy) (b : BitRate) : Policy :=
  { nonGenuine := g, refill := r, bitRate := b, graceVolume := min 2000000 (fieldAt f 3 4)
    overdrawLimit := min 65535 (fieldAt f 7 4), checkpointStep := clamp 100 50000 (fieldAt f 11 4)
    wasteNear := max 1 (fieldAt f 15 4), wasteFull := max 1 (fieldAt f 19 4)
    minorWindow := clamp 100 60000 (fieldAt f 23 2), majorWindow := clamp 100 60000 (fieldAt f 25 2) }

theorem setPolicyOperand_of {f : List Byte} {g : NonGenuinePolicy} {r : RefillPolicy} {b : BitRate}
    (nonGenuine : nonGenuineOf (fieldAt f 0 1) = some g) (refill : refillPolicyOf (fieldAt f 1 1) = some r)
    (rate : bitRateOf (fieldAt f 2 1) = some b) : setPolicyOperand f = .ok (policyFields f g r b) := by
  simp only [setPolicyOperand, nonGenuine, refill, rate]
  rfl

/-! ### What the policy hands on -/

/-- R159, R12: the routes judged afresh against the slots' fitness and drawability before. -/
def State.refitted (s : State) (p : Policy) : State :=
  slotNos.foldl (fun u i => State.judgeFitness u s i) { s with settings := { s.settings with policy := p } }

theorem State.replacePolicy_eq (s : State) (p : Policy) :
    s.replacePolicy p = (s.refitted p).judgeWaste s.wasteNear s.wasteFull := rfl

theorem State.refitted_keeps (s : State) (p : Policy) :
    keepsBut [.routes, .pins, .trace, .notices] { s with settings := { s.settings with policy := p } } (s.refitted p) := by
  simp [State.refitted]

/-- R159: with the same overdraw limit no slot's fitness and drawability change. -/
theorem State.refitted_sameLimit {s : State} {p : Policy} (same : p.overdrawLimit = s.policy.overdrawLimit) :
    s.refitted p = { s with settings := { s.settings with policy := p } } := by
  have draws (i : SlotNo) (c : Channel) : s.drawable i c = State.drawable { s with settings := { s.settings with policy := p } } i c :=
    congrArg (fun limit => (s.slot i).drawableFor (s.routeCfg c).ink limit) same.symm
  have stays (i : SlotNo) : State.judgeFitness { s with settings := { s.settings with policy := p } } s i =
      { s with settings := { s.settings with policy := p } } :=
    State.judgeFitness_unchanged (fun _ => rfl) (draws i)
  unfold State.refitted
  generalize ({ s with settings := { s.settings with policy := p } } : State) = u at stays ⊢
  exact List.foldl_fixed' stays slotNos

theorem State.refitted_waste (s : State) (p : Policy) :
    (s.refitted p).wasteNear = decide (p.wasteNear ≤ s.waste.counter) ∧
      (s.refitted p).wasteFull = decide (p.wasteFull ≤ s.waste.counter) := by
  have kept := s.refitted_keeps p
  have waste : (s.refitted p).waste = s.waste := kept.2.2 .waste (by decide)
  have settings : (s.refitted p).settings = { s.settings with policy := p } := kept.2.2 .settings (by decide)
  constructor
  · rw [State.wasteNear, State.policy, settings, waste]
  · rw [State.wasteFull, State.policy, settings, waste]

/-- R44: the WASTE notices change the notices only. -/
theorem State.judgeWaste_keepsNotices (s : State) (near full : Bool) : keepsBut [.notices] s (s.judgeWaste near full) := by
  simp

/-- R159: all that the new policy hands on at once. -/
theorem State.replacePolicy_does (u : State) (p : Policy) :
    let t := u.replacePolicy p
    let judged := u.refitted p
    let near := if t.wasteNear = u.wasteNear then judged else judged.raiseWaste .near t.wasteNear
    let full := if t.wasteFull = u.wasteFull then near else near.raiseWaste .full t.wasteFull
    t.settings = { u.settings with policy := p } ∧ t.routes = judged.routes ∧ t.trace = judged.trace ∧
      t.pins = judged.pins ∧ t.notices = full.notices ∧ t.wasteNear = decide (p.wasteNear ≤ u.waste.counter) ∧
      t.wasteFull = decide (p.wasteFull ≤ u.waste.counter) := by
  intro t judged near full
  have kept : keepsBut [.notices] judged t := judged.judgeWaste_keepsNotices u.wasteNear u.wasteFull
  have settings : t.settings = judged.settings := kept.2.2 .settings (by decide)
  have waste : t.waste = judged.waste := kept.2.2 .waste (by decide)
  obtain ⟨nearAfter, fullAfter⟩ := u.refitted_waste p
  have sameNear : t.wasteNear = judged.wasteNear := by rw [State.wasteNear, State.policy, settings, waste]; rfl
  have sameFull : t.wasteFull = judged.wasteFull := by rw [State.wasteFull, State.policy, settings, waste]; rfl
  refine ⟨settings.trans ((u.refitted_keeps p).2.2 .settings (by decide)), kept.2.2 .routes (by decide),
    kept.2.2 .trace (by decide), kept.2.2 .pins (by decide), ?_, sameNear.trans nearAfter, sameFull.trans fullAfter⟩
  simp only [full, near, sameNear, sameFull]
  rfl

/-- Settles O28: the fields read, the routes judged, and then the waste flags. -/
theorem policyIsReplaced : Obligations.PolicyIsReplaced := by
  intro tag fields s h level size
  have field (n : Nat) (h : n < 27) : fieldAt fields n 1 = (byteAt fields n).toNat := fieldAt_one_byteAt fields n (by omega)
  have service : (s.requestArrives fields).requests.access = .service := by simpa using level
  refine ⟨fun out => ?_, fun nonGenuine refill rate => ?_⟩
  · have refused : setPolicyOperand fields = .error .badValue := by
      refine setPolicyOperand_badValue ?_
      rwa [field 0 (by omega), field 1 (by omega), field 2 (by omega), nonGenuineOf_isNone, refillPolicyOf_isNone,
        bitRateOf_isNone]
    refine refusedWith (k := setPolicy fields) h rfl rfl ?_
    rw [setPolicy, sized_eq size, needsService_service service, refused]
  · obtain ⟨g, gRead, gIs⟩ := nonGenuineOf_of_le nonGenuine
    obtain ⟨r, rRead, rIs⟩ := refillPolicyOf_of_le refill
    obtain ⟨b, bRead, bIs⟩ := bitRateOf_of_le rate
    rw [← field 0 (by omega)] at gRead
    rw [← field 1 (by omega)] at rRead
    rw [← field 2 (by omega)] at bRead
    have read := setPolicyOperand_of gRead rRead bRead
    generalize isRead : policyFields fields g r b = p at read
    have meaning (u : State) (service : u.requests.access = .service) :
        setPolicy fields u = done (u.replacePolicy p) p.bytes := by
      rw [setPolicy, sized_eq size, needsService_service service, read]
    have kept (u : State) : keepsBut [.notices, .settings, .routes, .trace, .pins] u (u.replacePolicy p) := by
      simp [State.replacePolicy]
    refine ⟨p, _, read, by rw [← isRead]; exact gIs, by rw [← isRead]; exact rIs, by rw [← isRead]; exact bIs,
      by rw [← isRead]; rfl, by rw [← isRead]; rfl, by rw [← isRead]; rfl, by rw [← isRead]; rfl, by rw [← isRead]; rfl,
      by rw [← isRead]; rfl, by rw [← isRead]; rfl, doneWith h rfl rfl (meaning _ service) (kept _) (by simp), ?_⟩
    have settings : (s.requestArrives fields).settings = s.settings := by simp
    have waste : (s.requestArrives fields).waste = s.waste := by simp
    have routes : (s.requestArrives fields).routes = s.routes := by simp
    have trace : (s.requestArrives fields).trace = s.trace := by simp
    have pins : (s.requestArrives fields).pins = s.pins := by simp
    generalize s.requestArrives fields = u at settings waste routes trace pins ⊢
    have near : u.wasteNear = s.wasteNear := by rw [State.wasteNear, State.policy, settings, waste]; rfl
    have full : u.wasteFull = s.wasteFull := by rw [State.wasteFull, State.policy, settings, waste]; rfl
    have does := u.replacePolicy_does p
    have same := u.refitted_sameLimit (p := p)
    have judged : u.refitted p = (List.finRange 16).foldl (fun v i => State.judgeFitness v u i)
        { u with settings := { s.settings with policy := p } } := by rw [State.refitted, settings]; rfl
    generalize u.replacePolicy p = t at does ⊢
    generalize u.refitted p = v at does same judged
    simp only [near, full, settings, waste] at does
    obtain ⟨policy, newRoutes, newTrace, newPins, notices, nearAfter, fullAfter⟩ := does
    refine ⟨policy, ?_⟩
    dsimp only
    rw [← judged]
    refine ⟨newRoutes, newTrace, newPins, notices, nearAfter, fullAfter, fun limit => ?_⟩
    have stays := same (by rw [State.policy, settings]; exact limit)
    exact ⟨newRoutes.trans (by rw [stays, routes]), newTrace.trans (by rw [stays, trace]),
      newPins.trans (by rw [stays, pins]), by rw [stays]⟩

end Sys2Proof.Machine

/-!
PROOFS. The writer of the nonvolatile store (R185), and the end of a save (R190).
-/

namespace Sys2Proof.Machine

open Sys2Proof

/-! ### The queue -/

theorem Nvm.begin_inProgress {m : Nvm} (h : m.inProgress ≠ none) : m.begin = m := by
  unfold Nvm.begin
  split
  · next none _ => exact absurd none h
  · rfl

theorem Nvm.begin_empty {m : Nvm} (h : m.queue = []) : m.begin = m := by
  unfold Nvm.begin
  split
  · next _ _ _ some => rw [h] at some; cases some
  · rfl

theorem Nvm.begin_next {m : Nvm} {w : RecordWrite} {ws : List RecordWrite} (free : m.inProgress = none)
    (queue : m.queue = w :: ws) : m.begin = { m with inProgress := some (w, m.timing), queue := ws } := by
  simp only [Nvm.begin, free, queue]

/-- A write that begins changes the write in progress and the queue only. -/
theorem Nvm.begin_shape (m : Nvm) : ∃ p q, m.begin = { m with inProgress := p, queue := q } := by
  unfold Nvm.begin
  split
  · exact ⟨_, _, rfl⟩
  · exact ⟨_, _, rfl⟩

/-- R185: the pending write of a record is replaced in its place. -/
theorem replaceWrite_at {w p : RecordWrite} (before after : List RecordWrite) (same : p.record = w.record)
    (first : ∀ q ∈ before, q.record ≠ w.record) : replaceWrite w (before ++ p :: after) = before ++ w :: after := by
  induction before with
  | nil => exact if_pos same
  | cons q before ih =>
    rw [List.cons_append, replaceWrite, if_neg (first q (by simp)), ih fun r h => first r (by simp [h])]
    rfl

theorem Nvm.enqueue_idle {m : Nvm} (w : RecordWrite) (free : m.inProgress = none) (queue : m.queue = []) :
    m.enqueue w = { m with inProgress := some (w, m.timing) } := by
  simp [Nvm.enqueue, Nvm.begin, free, queue]

theorem Nvm.enqueue_last {m : Nvm} {w : RecordWrite} (busy : m.inProgress ≠ none)
    (fresh : ∀ p ∈ m.queue, p.record ≠ w.record) : m.enqueue w = { m with queue := m.queue ++ [w] } := by
  have none : m.queue.any (fun p => decide (p.record = w.record)) = false := by simpa using fresh
  simp only [Nvm.enqueue, none]
  exact Nvm.begin_inProgress busy

theorem Nvm.enqueue_replaces {m : Nvm} {w p : RecordWrite} {before after : List RecordWrite} (busy : m.inProgress ≠ none)
    (queue : m.queue = before ++ p :: after) (same : p.record = w.record) (first : ∀ q ∈ before, q.record ≠ w.record) :
    m.enqueue w = { m with queue := before ++ w :: after } := by
  have pending : m.queue.any (fun p => decide (p.record = w.record)) = true := by simp [queue, same]
  have replaced : replaceWrite w m.queue = before ++ w :: after := by rw [queue, replaceWrite_at before after same first]
  simp only [Nvm.enqueue, pending, if_true, replaced]
  exact Nvm.begin_inProgress busy

/-! ### A completed write -/

/-- R185: the record takes the contents of the write in progress. -/
def State.written (s : State) (w : RecordWrite) : State :=
  { s with nvm := { s.nvm with store := s.nvm.store.write w, inProgress := none } }

section
variable {s : State} {w : RecordWrite} {timing : WriteTiming} (writes : s.nvm.inProgress = some (w, timing))
include writes

theorem State.writeCompletes_next (other : w ≠ .cleanMark true ∨ s.nvm.saveState ≠ .saving) :
    s.writeCompletes = (s.written w).writeNext := by
  have goesOn : (decide (w = .cleanMark true) && decide (s.nvm.saveState = .saving)) = false := by
    rcases other with other | other <;> simp [other]
  simp only [State.writeCompletes, writes, goesOn]
  rfl

theorem State.writeCompletes_save (mark : w = .cleanMark true) (saving : s.nvm.saveState = .saving) :
    s.writeCompletes = (s.written w).saveEnds := by
  have ends : (decide (w = .cleanMark true) && decide (s.nvm.saveState = .saving)) = true := by simp [mark, saving]
  simp only [State.writeCompletes, writes, ends]
  rfl

end

theorem State.saveEnds_saved {s : State} (asserted : s.pins.powerFail.filtered = true) :
    s.saveEnds = { s with nvm := Nvm.begin { s.nvm with saveState := .saved, saveCause := none } } := if_pos asserted

theorem State.saveEnds_held {s : State} (released : s.pins.powerFail.filtered = false)
    (cause : s.nvm.saveCause = some .restart) (waits : s.requests.restartWaits = true) :
    s.saveEnds = { s with nvm := Nvm.begin { s.nvm with startUpHeld := true } } := by
  simp [State.saveEnds, released, cause, waits, State.writeNext]

theorem State.saveEnds_startUp {s : State} (released : s.pins.powerFail.filtered = false)
    (free : s.nvm.saveCause ≠ some .restart ∨ s.requests.restartWaits = false) : s.saveEnds = s.startUp := by
  have goesOn : (decide (s.nvm.saveCause = some .restart) && s.requests.restartWaits) = false := by
    rcases free with free | free <;> simp [free]
  simp [State.saveEnds, released, goesOn]

/-- Settles O34: by the queue, and by the write that completes. -/
theorem writesCompleteInOrder : Obligations.WritesCompleteInOrder := by
  refine ⟨fun m w => ⟨Nvm.enqueue_idle w, Nvm.enqueue_last, fun before after p => Nvm.enqueue_replaces⟩,
    fun s w timing on writes => ⟨fun other => ⟨fun queue => ?_, fun v rest queue => ?_⟩, fun mark saving =>
      ⟨fun asserted => ?_, fun released => ⟨fun cause waits => ?_, fun free => ?_⟩⟩⟩⟩
  · refine exec_on (f := fun s => s.writeCompletes) rfl on ((State.writeCompletes_next writes other).trans ?_)
    exact congrArg (fun m => { s.written w with nvm := m }) (Nvm.begin_empty (m := (s.written w).nvm) queue)
  · refine exec_on (f := fun s => s.writeCompletes) rfl on ((State.writeCompletes_next writes other).trans ?_)
    exact congrArg (fun m => { s.written w with nvm := m }) (Nvm.begin_next (m := (s.written w).nvm) rfl queue)
  · obtain ⟨p, q, begun⟩ := Nvm.begin_shape { (s.written w).nvm with saveState := .saved, saveCause := none }
    refine ⟨_, ⟨exec_on (f := fun s => s.writeCompletes) rfl on ((State.writeCompletes_save writes mark saving).trans
      (State.saveEnds_saved (s := s.written w) asserted)), ?_⟩, ?_, ?_, ?_⟩
    · simp [keepsBut_iff, State.written]
    · rw [begun]
    · rw [begun]
    · rw [begun, mark]; rfl
  · obtain ⟨p, q, begun⟩ := Nvm.begin_shape { (s.written w).nvm with startUpHeld := true }
    refine ⟨_, ⟨exec_on (f := fun s => s.writeCompletes) rfl on ((State.writeCompletes_save writes mark saving).trans
      (State.saveEnds_held (s := s.written w) released cause waits)), ?_⟩, ?_⟩
    · simp [keepsBut_iff, State.written]
    · rw [begun]
  · exact exec_on (f := fun s => s.writeCompletes) rfl on ((State.writeCompletes_save writes mark saving).trans
      (State.saveEnds_startUp (s := s.written w) released free))

end Sys2Proof.Machine

/-!
PROOFS. What the judging of a channel reads of the routing is its own record: one event that is judged on several
channels does to each what it does to it alone (R53).
-/

namespace Sys2Proof.Machine

open Sys2Proof

/-! ### Relations that a judging keeps -/

/-- A change that takes related states to related states. -/
def Respects (R : State → State → Prop) (f : State → State) : Prop := ∀ s u, R s u → R (f s) (f u)

/-- Related states read the same of a channel's record and conditions, and stay related under the operations that a
judging is made of. -/
structure JudgeRelation (c : Channel) (R : State → State → Prop) : Prop where
  time : ∀ {s u}, R s u → u.time = s.time
  route : ∀ {s u}, R s u → u.route c = s.route c
  routeCfg : ∀ {s u}, R s u → u.routeCfg c = s.routeCfg c
  fit : ∀ {s u}, R s u → ∀ i, u.fit i c = s.fit i c
  drawable : ∀ {s u}, R s u → ∀ i, u.drawable i c = s.drawable i c
  leaveDefault : ∀ {s u}, R s u → u.leaveDefault c = s.leaveDefault c
  putRoute : ∀ {s u}, R s u → ∀ r, R (s.putRoute c r) (u.putRoute c r)
  raise : ∀ {s u}, R s u → ∀ k v d, R (s.raise k v d) (u.raise k v d)
  driveValve : ∀ {s u}, R s u → R (s.driveValve c) (u.driveValve c)
  addTrace : ∀ {s u}, R s u → ∀ e, R (s.addTrace e) (u.addTrace e)

namespace Respects

variable {R : State → State → Prop}

theorem id : Respects R fun s => s := fun _ _ h => h

theorem comp {f g : State → State} (hf : Respects R f) (hg : Respects R g) : Respects R fun s => g (f s) :=
  fun s u h => hg (f s) (f u) (hf s u h)

theorem ite {p : State → Prop} [DecidablePred p] {f g : State → State} (same : ∀ s u, R s u → (p u ↔ p s))
    (hf : Respects R f) (hg : Respects R g) : Respects R fun s => if p s then f s else g s := by
  intro s u h
  by_cases here : p s
  · simpa only [if_pos here, if_pos ((same s u h).mpr here)] using hf s u h
  · simpa only [if_neg here, if_neg (mt (same s u h).mp here)] using hg s u h

theorem iteBool {p : State → Bool} {f g : State → State} (same : ∀ s u, R s u → p u = p s) (hf : Respects R f)
    (hg : Respects R g) : Respects R fun s => if p s = true then f s else g s :=
  ite (p := fun s => p s = true) (fun s u h => by rw [same s u h]) hf hg

theorem foldl {α : Type} {f : State → α → State} (h : ∀ a, Respects R fun s => f s a) (l : List α) :
    Respects R fun s => l.foldl f s := by
  intro s u related
  induction l generalizing s u with
  | nil => exact related
  | cons a l ih => exact ih _ _ (h a s u related)

end Respects

namespace JudgeRelation

variable {c : Channel} {R : State → State → Prop} (j : JudgeRelation c R)
include j

theorem after {s u : State} (h : R s u) (n : Nat) : u.after n = s.after n := by
  rw [State.after, j.time h, State.after]

theorem alternateFit {s u : State} (h : R s u) : u.alternateFit c = s.alternateFit c := by
  simp only [State.alternateFit, j.routeCfg h, j.fit h]

theorem defaultFit {s u : State} (h : R s u) : u.defaultFit c = s.defaultFit c := by
  simp only [State.defaultFit, j.routeCfg h, j.fit h]

theorem noSupply {s u : State} (h : R s u) : u.noSupply c = s.noSupply c := by
  simp only [State.noSupply_eq, j.route h, j.drawable h]

theorem forcedReturn {s u : State} (h : R s u) : u.forcedReturn c = s.forcedReturn c := by
  rw [State.forcedReturn, j.alternateFit h, j.defaultFit h, State.forcedReturn]

theorem revertHolds {s u : State} (h : R s u) : u.revertHolds c = s.revertHolds c := by
  rw [State.revertHolds, j.routeCfg h, j.leaveDefault h, j.defaultFit h, j.alternateFit h, State.revertHolds]

theorem putsRoute {r : State → Route} (same : ∀ s u, R s u → r u = r s) : Respects R fun s => s.putRoute c (r s) := by
  intro s u h
  beta_reduce
  rw [same s u h]
  exact j.putRoute h (r s)

theorem raiseRoute (b : Bool) : Respects R fun s => s.raiseRoute c b := by
  intro s u h
  beta_reduce
  rw [State.raiseRoute, State.raiseRoute, j.route h]
  exact j.raise h _ _ _

theorem setGate {g : State → Gate} (same : ∀ s u, R s u → g u = g s) : Respects R fun s => s.setGate c (g s) := by
  intro s u h
  have record := j.putRoute h { s.route c with gate := g s }
  simp only [State.setGate, same s u h, j.route h]
  split
  · exact record
  · exact j.raise record _ _ _

theorem judgeSupply : Respects R fun s => s.judgeSupply c :=
  j.setGate fun s u h => by rw [j.route h, j.noSupply h]

theorem switchTo (k : SwitchCause) : Respects R fun s => s.switchTo c k := by
  intro s u h
  have placed := j.driveValve (j.putRoute h ((s.route c).switched (s.routeCfg c) k))
  have moved := j.raise (j.addTrace placed
    { channel := c, fromSlot := (s.route c).active, toSlot := (s.routeCfg c).target k, cause := k
      lastLine := (s.route c).lastLine, time := s.time }) .route (.channel c)
    (.switch (s.route c).active ((s.routeCfg c).target k) k ((s.route c).switched (s.routeCfg c) k).state)
  have own (v : State) : ((v.putRoute c ((s.route c).switched (s.routeCfg c) k)).driveValve c).time = v.time := rfl
  simp only [State.switchTo, j.route h, j.routeCfg h, own, j.time h]
  exact j.setGate (g := fun v =>
    { (s.route c).gate with settle := decide (0 < (s.routeCfg c).settleLines), noSupply := v.noSupply c })
    (fun _ _ h => by rw [j.noSupply h]) _ _ moved

theorem putRoute_raiseRoute {r : State → Route} (b : Bool) (same : ∀ s u, R s u → r u = r s) :
    Respects R fun s => (s.putRoute c (r s)).raiseRoute c b := (j.putsRoute same).comp (j.raiseRoute b)

theorem expirePendingAlt : Respects R fun s => s.expirePendingAlt c :=
  .iteBool (fun _ _ h => j.alternateFit h) (j.switchTo .condition)
    (j.putRoute_raiseRoute true fun _ _ h => by rw [j.route h])

theorem enterPendingAlt : Respects R fun s => s.enterPendingAlt c := by
  have placed : Respects R fun s => (s.putRoute c
      { s.route c with state := .pendingAlt, switchTimer := .running (s.after (s.routeCfg c).switchDelay) }).raiseRoute
        c false := j.putRoute_raiseRoute false fun _ _ h => by rw [j.route h, j.routeCfg h, j.after h]
  exact .ite (fun _ _ h => by rw [j.routeCfg h]) (placed.comp j.expirePendingAlt) placed

theorem judgeOnDefault : Respects R fun s => s.judgeOnDefault c :=
  .iteBool (fun _ _ h => by rw [j.routeCfg h, j.leaveDefault h]) j.enterPendingAlt .id

theorem expireRevert : Respects R fun s => s.expireRevert c := (j.switchTo .revert).comp j.judgeOnDefault

theorem enterPendingDefault : Respects R fun s => s.enterPendingDefault c := by
  have placed : Respects R fun s => s.startReturn c :=
    j.putRoute_raiseRoute false fun _ _ h => by rw [j.route h, j.routeCfg h, j.after h]
  exact .ite (fun _ _ h => by rw [j.routeCfg h]) (placed.comp ((j.switchTo .forcedReturn).comp j.judgeOnDefault)) placed

theorem judgeRevert : Respects R fun s => s.judgeRevert c := by
  have started : Respects R fun s =>
      s.putRoute c { s.route c with revertTimer := some (s.after (s.routeCfg c).revertDelay) } :=
    j.putsRoute fun _ _ h => by rw [j.route h, j.routeCfg h, j.after h]
  refine .iteBool (fun _ _ h => j.revertHolds h) ?_ (j.putsRoute fun _ _ h => by rw [j.route h])
  refine .iteBool (fun _ _ h => by rw [j.route h]) .id ?_
  exact .ite (fun _ _ h => by rw [j.routeCfg h]) (started.comp j.expireRevert) started

theorem cancelPending (back : RouteState) : Respects R fun s => s.cancelPending c back :=
  j.putRoute_raiseRoute false fun _ _ h => by rw [j.route h]

theorem judgePendingAlt : Respects R fun s => s.judgePendingAlt c := by
  refine .iteBool (fun _ _ h => by rw [j.leaveDefault h]) (j.cancelPending .onDefault) ?_
  exact .iteBool (fun _ _ h => by rw [j.route h, j.alternateFit h]) (j.switchTo .condition) .id

/-- R53: a judging, whatever the route state. -/
theorem judgeRoute : Respects R fun s => s.judgeRoute c := by
  intro s u h
  have state : (u.route c).state = (s.route c).state := by rw [j.route h]
  unfold State.judgeRoute
  beta_reduce
  rw [state]
  cases (s.route c).state with
  | unrouted => exact h
  | onDefault => exact j.judgeOnDefault s u h
  | pendingAlt => exact j.judgePendingAlt s u h
  | onAlternate =>
    exact Respects.iteBool (p := fun s => s.forcedReturn c) (fun _ _ h => j.forcedReturn h) j.enterPendingDefault
      j.judgeRevert s u h
  | pendingDefault =>
    exact Respects.iteBool (p := fun s => s.forcedReturn c) (fun _ _ h => j.forcedReturn h) .id
      ((j.cancelPending .onAlternate).comp j.judgeRevert) s u h

theorem handFitness (before : State) (i : SlotNo) : Respects R fun s => State.handFitness before i s c := by
  intro s u h
  have judged : Respects R fun v =>
      if ((before.fit i c != v.fit i c) &&
          (decide ((v.routeCfg c).defaultSlot = some i) || decide ((v.routeCfg c).alternate = some i))) = true then
        v.judgeRoute c
      else v := .iteBool (fun _ _ h => by rw [j.routeCfg h, j.fit h]) j.judgeRoute .id
  have first := judged s u h
  simp only [State.handFitness, j.drawable h]
  cases before.drawable i c != s.drawable i c with
  | false => simpa using first
  | true =>
    simp only [Bool.true_and]
    exact Respects.iteBool (p := fun s => decide ((s.route c).active = some i)) (fun _ _ h => by rw [j.route h])
      j.judgeSupply .id _ _ first

end JudgeRelation

/-! ### One channel's own record -/

/-- The two states agree on all that the judging of this channel makes its new record from. -/
def agreeOn (c : Channel) (s u : State) : Prop := sameConditions s u ∧ u.time = s.time ∧ u.route c = s.route c

theorem agreeOn.refl (c : Channel) (s : State) : agreeOn c s s := ⟨⟨rfl, rfl, fun _ => rfl⟩, rfl, rfl⟩

theorem agreeOn.trans {c : Channel} {s t u : State} (h : agreeOn c s t) (k : agreeOn c t u) : agreeOn c s u :=
  ⟨h.1.trans k.1, k.2.1.trans h.2.1, k.2.2.trans h.2.2⟩

theorem agreeOn.symm {c : Channel} {s t : State} (h : agreeOn c s t) : agreeOn c t s :=
  ⟨⟨h.1.1.symm, h.1.2.1.symm, fun p => (h.1.2.2 p).symm⟩, h.2.1.symm, h.2.2.symm⟩

/-- A judging of the channel reads and changes no more of the routing than the channel's record. -/
theorem judgeRelation_agreeOn (c : Channel) : JudgeRelation c (agreeOn c) where
  time h := h.2.1
  route h := h.2.2
  routeCfg h := h.1.routeCfg c
  fit h := h.1.fit c
  drawable h := h.1.drawable c
  leaveDefault h := h.1.leaveDefault c
  putRoute h r := by
    refine ⟨⟨h.1.1, h.1.2.1, fun p => ?_⟩, h.2.1, ?_⟩
    · rw [State.putRoute_filter, State.putRoute_filter, h.1.2.2 p]
    · rw [State.putRoute_same, State.putRoute_same]
  raise h _ _ _ := h
  driveValve h := ⟨⟨h.1.1, h.1.2.1, fun p => by rw [State.driveValve_filter, State.driveValve_filter, h.1.2.2 p]⟩, h.2⟩
  addTrace h _ := h

/-- A change of the routing that makes a channel's record from what is read of that channel. -/
def RouteLocal (c : Channel) (f : State → State) : Prop := Respects (agreeOn c) f

theorem RouteLocal.judgeRoute (c : Channel) : RouteLocal c fun s => s.judgeRoute c := (judgeRelation_agreeOn c).judgeRoute

theorem RouteLocal.handFitness (c : Channel) (before : State) (i : SlotNo) :
    RouteLocal c fun s => State.handFitness before i s c := (judgeRelation_agreeOn c).handFitness before i

/-! ### One event on several channels -/

/-- Turns that each leave the conditions and the other channels' records do to a channel's record what its own turn
does. -/
theorem foldl_channels_route {f : State → Channel → State} (own : ∀ c, RouteLocal c fun s => f s c)
    (kept : ∀ s d, sameConditions s (f s d) ∧ (f s d).time = s.time ∧ otherRoutes d s (f s d)) (order : List Channel)
    (once : order.Nodup) (s : State) (c : Channel) :
    (order.foldl f s).route c = if c ∈ order then (f s c).route c else s.route c := by
  induction order generalizing s with
  | nil => rfl
  | cons d order ih =>
    obtain ⟨fresh, once⟩ := List.nodup_cons.mp once
    obtain ⟨conditions, time, others⟩ := kept s d
    rw [List.foldl_cons, ih once]
    by_cases same : c = d
    · subst same
      rw [if_neg fresh, if_pos (.head order)]
    · have agree : agreeOn c s (f s d) := ⟨conditions, time, others c same⟩
      simp only [List.mem_cons, same, false_or]
      split
      · exact (own c s (f s d) agree).2.2
      · exact agree.2.2

end Sys2Proof.Machine

/-!
PROOFS. What each step of a judging leaves of the channel's record, the notices, the route trace and the VALVE outputs
(R54 to R61), and the conditions that no judging changes (R52, R53).
-/

namespace Sys2Proof.Machine

open Sys2Proof

/-! ### The conditions -/

/-- A change of the routing leaves the conditions of every channel, and the count. -/
theorem sameConditions_of_keeps {s t : State} (k : keepsBut [.routes, .trace, .pins, .notices] s t)
    (filters : ∀ p, t.filter p = s.filter p) : sameConditions s t ∧ t.time = s.time :=
  ⟨⟨k.2.2 .settings (by decide), k.2.2 .slots (by decide), filters⟩, k.2.2 .time (by decide)⟩

theorem State.judgeRoute_sameConditions (s : State) (c : Channel) :
    sameConditions s (s.judgeRoute c) ∧ (s.judgeRoute c).time = s.time :=
  sameConditions_of_keeps (by simp) fun p => s.judgeRoute_filter p c

theorem State.handFitness_sameConditions (before : State) (i : SlotNo) (s : State) (c : Channel) :
    sameConditions s (State.handFitness before i s c) ∧ (State.handFitness before i s c).time = s.time :=
  sameConditions_of_keeps (by simp) fun p => s.handFitness_filter p before i c

theorem State.judgeOnDefault_sameConditions (s : State) (c : Channel) : sameConditions s (s.judgeOnDefault c) :=
  (sameConditions_of_keeps (by simp) fun p => s.judgeOnDefault_filter p c).1

/-! ### Switches -/

/-- R60, R64: the notices of a switch. -/
theorem State.switchTo_notices (s : State) (c : Channel) (k : SwitchCause) :
    (s.switchTo c k).notices =
      s.switchRaised s.notices c (s.route c) ((s.routeCfg c).target k) k
        ((s.route c).switched (s.routeCfg c) k).state ((s.switchTo c k).route c).gate := by
  rw [State.switchTo_eq_moveTo, State.setGate_notices, State.setGate_route, State.moveTo_route]
  rfl

theorem State.switchTo_otherRoutes (s : State) (c : Channel) (k : SwitchCause) : otherRoutes c s (s.switchTo c k) :=
  (otherRoutes_switchTo c s s k).mpr (otherRoutes.refl c s)

/-- A switch keeps the operator hold. -/
theorem State.switchTo_hold (s : State) (c : Channel) (k : SwitchCause) :
    ((s.switchTo c k).route c).hold = (s.route c).hold := by
  rw [State.switchTo_route]
  rfl

/-! ### The way to the alternate (R54, R55) -/

/-- R54: the entry into PENDING_ALT, with its ROUTE notice. -/
def State.startLeave (s : State) (c : Channel) : State :=
  (s.putRoute c
    { s.route c with
      state := .pendingAlt, switchTimer := .running (s.after (s.routeCfg c).switchDelay) }).raiseRoute c false

theorem State.startLeave_route (s : State) (c : Channel) :
    (s.startLeave c).route c =
      { s.route c with state := .pendingAlt, switchTimer := .running (s.after (s.routeCfg c).switchDelay) } :=
  State.putRoute_same s c _

theorem State.startLeave_notices (s : State) (c : Channel) :
    (s.startLeave c).notices = s.routeRaised s.notices c (.route .pendingAlt false) :=
  State.putRoute_raiseRoute_notices s c _ false

theorem State.startLeave_sameConditions (s : State) (c : Channel) : sameConditions s (s.startLeave c) :=
  s.putRoute_raiseRoute_sameConditions c _ false

theorem State.startLeave_keeps (s : State) (c : Channel) : keepsBut [.routes, .notices] s (s.startLeave c) := by
  simp [State.startLeave]

/-- R55: the channel waits for its alternate, with its ROUTE notice. -/
def State.waitForAlternate (s : State) (c : Channel) : State :=
  (s.putRoute c { s.route c with switchTimer := .waiting }).raiseRoute c true

theorem State.waitForAlternate_route (s : State) (c : Channel) :
    (s.waitForAlternate c).route c = { s.route c with switchTimer := .waiting } :=
  State.putRoute_same s c _

theorem State.waitForAlternate_notices (s : State) (c : Channel) :
    (s.waitForAlternate c).notices = s.routeRaised s.notices c (.route (s.route c).state true) :=
  State.putRoute_raiseRoute_notices s c _ true

theorem State.expirePendingAlt_fit {s : State} {c : Channel} (fit : s.alternateFit c = true) :
    s.expirePendingAlt c = s.switchTo c .condition := if_pos fit

theorem State.expirePendingAlt_unfit {s : State} {c : Channel} (unfit : s.alternateFit c = false) :
    s.expirePendingAlt c = s.waitForAlternate c := if_neg (by simp [unfit])

section
variable {s : State} {c : Channel}

theorem State.enterPendingAlt_delayed (delay : 0 < (s.routeCfg c).switchDelay) : s.enterPendingAlt c = s.startLeave c :=
  if_neg (Nat.ne_of_gt delay)

theorem State.enterPendingAlt_atOnce (delay : (s.routeCfg c).switchDelay = 0) :
    s.enterPendingAlt c = (s.startLeave c).expirePendingAlt c := if_pos delay

/-- R55: with a switch delay of 0 and an alternate that is not fit the channel waits at once. -/
theorem State.enterPendingAlt_unfit (delay : (s.routeCfg c).switchDelay = 0) (unfit : s.alternateFit c = false) :
    (s.enterPendingAlt c).route c = { s.route c with state := .pendingAlt, switchTimer := .waiting } ∧
      (s.enterPendingAlt c).notices =
        s.routeRaised (s.routeRaised s.notices c (.route .pendingAlt false)) c (.route .pendingAlt true) ∧
      keepsBut [.routes, .notices] s (s.enterPendingAlt c) := by
  obtain ⟨route, kept⟩ := State.enterPendingAlt_waits delay unfit
  have still : (s.startLeave c).alternateFit c = false := ((s.startLeave_sameConditions c).alternateFit c).trans unfit
  refine ⟨route, ?_, kept⟩
  rw [State.enterPendingAlt_atOnce delay, State.expirePendingAlt_unfit still, State.waitForAlternate_notices,
    State.startLeave_route, State.startLeave_notices]
  rfl

/-- R55, R60: with a switch delay of 0 and a fit alternate the channel switches at once. -/
theorem State.enterPendingAlt_fit (delay : (s.routeCfg c).switchDelay = 0) (fit : s.alternateFit c = true) :
    let cfg := s.routeCfg c
    let t := s.enterPendingAlt c
    t.route c =
        { s.route c with
          state := .onAlternate, active := cfg.alternate, switchTimer := .idle, settleCount := cfg.settleLines
          gate := { (s.route c).gate with settle := decide (0 < cfg.settleLines), noSupply := false } } ∧
      t.notices =
        s.switchRaised (s.routeRaised s.notices c (.route .pendingAlt false)) c (s.route c) cfg.alternate .condition
          .onAlternate (t.route c).gate ∧
      t.trace = traceAdds s.trace ⟨c, (s.route c).active, cfg.alternate, .condition, (s.route c).lastLine, s.time⟩ ∧
      t.pins = { s.pins with valves := s.pins.valves.set c (!cfg.valveInvert) } := by
  intro cfg t
  have same := s.startLeave_sameConditions c
  have still : (s.startLeave c).alternateFit c = true := (same.alternateFit c).trans fit
  have switched : t = (s.startLeave c).switchTo c .condition :=
    (State.enterPendingAlt_atOnce delay).trans (State.expirePendingAlt_fit still)
  rw [State.alternateFit_eq] at still
  have route := State.switchTo_route_of_fit (k := .condition) still
  rw [same.routeCfg, State.startLeave_route] at route
  rw [switched]
  refine ⟨route, ?_, ?_, ?_⟩
  · rw [State.switchTo_notices, same.routeCfg, State.startLeave_route, State.startLeave_notices]
    rfl
  · rw [State.switchTo_trace, same.routeCfg, State.startLeave_route]
    rfl
  · rw [State.switchTo_pins, same.routeCfg]
    rfl

/-! ### Judging on arrival at the default (R54) -/

theorem State.judgeOnDefault_delayed (d : s.leaveDefault c = true) (alternate : (s.routeCfg c).alternate ≠ none)
    (delay : 0 < (s.routeCfg c).switchDelay) : s.judgeOnDefault c = s.startLeave c :=
  (State.judgeOnDefault_leaves d alternate).trans (State.enterPendingAlt_delayed delay)

end

end Sys2Proof.Machine

/-!
PROOFS. The timers of a channel (R55, R58, R59): the switch on expiry, and D judged on arrival at the default.
-/

namespace Sys2Proof.Machine

open Sys2Proof

theorem State.switchRaised_congr {s t : State} (h : t.settings = s.settings) (u : NoticeUnit) (c : Channel) (r : Route)
    (target : Option SlotNo) (k : SwitchCause) (x : RouteState) (g : Gate) :
    t.switchRaised u c r target k x g = s.switchRaised u c r target k x g := by
  rw [State.switchRaised, State.switchRaised, State.gateRaised_congr h, State.routeRaised_congr h]

/-- An expiry leaves the conditions. -/
theorem State.reach_sameConditions (s : State) (e : Time) : sameConditions s (s.reach e) :=
  ⟨by simp, by simp, State.filter_of_pins (by simp)⟩

/-- R60: the record of a channel that has switched to its default. -/
theorem State.switchTo_default_route {s : State} {c : Channel} {k : SwitchCause} (k_ne : k ≠ .condition) :
    let x := (s.switchTo c k).route c
    x.state = .onDefault ∧ x.active = (s.routeCfg c).defaultSlot ∧ x.settleCount = (s.routeCfg c).settleLines ∧
      x.hold = (s.route c).hold ∧ x.lastLine = (s.route c).lastLine ∧
      (k = .revert → x.revertTimer = none) ∧ (k = .forcedReturn → x.switchTimer = .idle) ∧
      x.gate =
        { (s.route c).gate with
          settle := decide (0 < (s.routeCfg c).settleLines)
          noSupply := match (s.routeCfg c).defaultSlot with | none => true | some i => !s.drawable i c } := by
  intro x
  have route : x = _ := s.switchTo_route c k
  rw [route]
  cases k with
  | condition => exact absurd rfl k_ne
  | _ =>
    refine ⟨rfl, rfl, rfl, rfl, rfl, fun h => ?_, fun h => ?_, ?_⟩
    · cases h <;> rfl
    · cases h <;> rfl
    · simp only [RouteCfg.target]
      cases (s.routeCfg c).defaultSlot <;> rfl

/-- A judging on arrival keeps the operator hold. -/
theorem State.judgeOnDefault_hold (s : State) (c : Channel) :
    ((s.judgeOnDefault c).route c).hold = (s.route c).hold := by
  by_cases leaves : s.leaveDefault c = true ∧ (s.routeCfg c).alternate ≠ none
  · rw [State.judgeOnDefault_leaves leaves.1 leaves.2]
    by_cases delay : (s.routeCfg c).switchDelay = 0
    · cases fit : s.alternateFit c with
      | true => rw [(State.enterPendingAlt_fit delay fit).1]
      | false => rw [(State.enterPendingAlt_unfit delay fit).1]
    · rw [State.enterPendingAlt_delayed (Nat.pos_of_ne_zero delay), State.startLeave_route]
  · have stays : s.leaveDefault c = false ∨ (s.routeCfg c).alternate = none := by
      simpa [-not_and, not_and_or] using leaves
    rw [State.judgeOnDefault_stays stays]

/-- Settles O52: the switch to the alternate, or to the default with D judged on arrival. -/
theorem routeTimersExpire : Obligations.RouteTimersExpire := by
  intro s c e on r cfg now traced gate arrives
  obtain ⟨w, isReached⟩ : ∃ w, w = s.reach e := ⟨_, rfl⟩
  have same : sameConditions s w := isReached ▸ s.reach_sameConditions e
  have route : w.route c = r := isReached ▸ s.reach_route e c
  have time : w.time = now := by rw [isReached]
  have routeCfg : w.routeCfg c = cfg := same.routeCfg c
  have settings : w.settings = s.settings := same.1
  have trace : w.trace = s.trace := by rw [isReached]; simp
  have pins : w.pins = s.pins := by rw [isReached]; simp
  have notices : w.notices = s.notices := by rw [isReached]; simp
  have others (t : State) (h : otherRoutes c w t) : otherRoutes c s t := fun d other =>
    (h d other).trans (isReached ▸ s.reach_route e d)
  have onDefault (command : Instr) (cause : SwitchCause) (back : cause ≠ .condition)
      (ran : exec command s = .next ((w.switchTo c cause).judgeOnDefault c)) : arrives command cause := by
    obtain ⟨u, switched⟩ : ∃ u, u = w.switchTo c cause := ⟨_, rfl⟩
    have sameU : sameConditions s u := switched ▸ same.trans (w.switchTo_sameConditions c cause)
    have cfgU : u.routeCfg c = cfg := sameU.routeCfg c
    have keptU : keepsBut [.routes, .trace, .pins, .notices] w u := by rw [switched]; simp
    have timeU : u.time = now := (keptU.2.2 .time (by decide)).trans time
    have settingsU : u.settings = s.settings := sameU.1
    have target : (w.routeCfg c).target cause = cfg.defaultSlot := by
      rw [routeCfg]
      cases cause with
      | condition => exact absurd rfl back
      | _ => rfl
    have arrived : ((w.route c).switched (w.routeCfg c) cause).state = .onDefault := by
      cases cause with
      | condition => exact absurd rfl back
      | _ => rfl
    obtain ⟨state, active, count, hold, line, revert, forced, gated⟩ := w.switchTo_default_route (c := c) back
    rw [← switched, routeCfg] at active count gated
    rw [← switched] at state hold line revert forced
    rw [route] at hold line gated
    have gated : (u.route c).gate = gate := by
      rw [gated]
      simp only [same.drawable c]
      rfl
    have traceU : u.trace = traced cfg.defaultSlot cause := by
      rw [switched, State.switchTo_trace, target, route, trace, time]
      rfl
    have noticesU : u.notices = s.switchRaised s.notices c r cfg.defaultSlot cause .onDefault gate := by
      have raised := w.switchTo_notices c cause
      rw [← switched, target, arrived, gated, route, notices, State.switchRaised_congr settings] at raised
      exact raised
    have pinsU : u.pins = { s.pins with valves := s.pins.valves.set c cfg.valveInvert } := by
      rw [switched, State.switchTo_pins, if_neg back, routeCfg, pins]
    rw [← switched] at ran
    have kept : keepsBut [.routes, .trace, .pins, .notices] (s.reach e) (u.judgeOnDefault c) := by
      rw [State.judgeOnDefault_keeps (by simp), ← isReached]
      exact keptU
    have otherChannels : otherRoutes c s (u.judgeOnDefault c) := by
      rw [otherRoutes_judgeOnDefault, switched]
      exact others _ (w.switchTo_otherRoutes c cause)
    have keepsHold : ((u.judgeOnDefault c).route c).hold = r.hold :=
      (u.judgeOnDefault_hold c).trans hold
    refine ⟨_, ⟨ran, kept⟩, otherChannels, keepsHold, fun stays => ?_, fun d alternate delay => ?_,
      fun d alternate delay => ?_⟩
    · rw [State.judgeOnDefault_stays (by rwa [sameU.leaveDefault c, cfgU])]
      exact ⟨state, active, count, revert, forced, traceU, gated, noticesU, pinsU⟩
    · rw [← sameU.leaveDefault c] at d
      rw [← cfgU] at alternate delay
      have left := u.startLeave_keeps c
      have running : u.after cfg.switchDelay = now + BitVec.ofNat 32 cfg.switchDelay := by rw [State.after, timeU]
      rw [State.judgeOnDefault_delayed d alternate delay, State.startLeave_route, State.startLeave_notices, noticesU,
        State.routeRaised_congr settingsU, cfgU, running]
      exact ⟨rfl, active, rfl, count, (left.2.2 .trace (by decide)).trans traceU, gated, rfl,
        (left.2.2 .pins (by decide)).trans pinsU⟩
    · rw [← sameU.leaveDefault c] at d
      rw [← cfgU] at alternate delay
      rw [State.judgeOnDefault_leaves d alternate]
      split
      · next fit =>
        rw [← sameU.alternateFit c] at fit
        obtain ⟨record, raised, -, moved⟩ := State.enterPendingAlt_fit delay fit
        rw [noticesU, cfgU, State.routeRaised_congr settingsU, State.switchRaised_congr settingsU] at raised
        rw [cfgU, pinsU] at moved
        rw [record, cfgU] at raised
        rw [record, cfgU]
        refine ⟨rfl, rfl, raised.trans ?_, moved.trans ?_⟩
        · simp only [State.switchRaised, active, gated]
        · simp
      · next unfit =>
        rw [← sameU.alternateFit c, Bool.not_eq_true] at unfit
        obtain ⟨record, raised, -⟩ := State.enterPendingAlt_unfit delay unfit
        rw [record, raised, noticesU, State.routeRaised_congr settingsU, State.routeRaised_congr settingsU]
        exact ⟨rfl, active, rfl, rfl⟩
  refine ⟨fun timer => ⟨fun pending => ⟨fun fit => ?_, fun unfit => ?_⟩, fun pending => ?_⟩, fun timer => ?_⟩
  · have ran : exec (.switchTimerExpiry c) s = .next (w.switchTo c .condition) := by
      refine exec_on (f := fun s => s.switchExpires c) rfl on ?_
      have fit : w.alternateFit c = true := (same.alternateFit c).trans fit
      have timer : (s.route c).switchTimer = .running e := timer
      have pending : (s.route c).state = .pendingAlt := pending
      simp only [State.switchExpires, timer, pending, ← isReached, State.expirePendingAlt_fit fit]
    have fit : (((w.routeCfg c).target .condition).any fun i => w.fit i c) = true := by
      rw [← (same.alternateFit c), State.alternateFit_eq] at fit
      exact fit
    have record := State.switchTo_route_of_fit fit
    rw [route, routeCfg] at record
    refine ⟨_, ⟨ran, by rw [isReached]; simp⟩, others _ (w.switchTo_otherRoutes c _), record, ?_, ?_, ?_⟩
    · rw [State.switchTo_trace, route, routeCfg, trace, time]
      rfl
    · rw [State.switchTo_notices, route, routeCfg, notices, State.switchRaised_congr settings]
      rfl
    · rw [State.switchTo_pins, routeCfg, pins]
      rfl
  · have ran : exec (.switchTimerExpiry c) s = .next (w.waitForAlternate c) := by
      refine exec_on (f := fun s => s.switchExpires c) rfl on ?_
      have unfit : w.alternateFit c = false := (same.alternateFit c).trans unfit
      have timer : (s.route c).switchTimer = .running e := timer
      have pending : (s.route c).state = .pendingAlt := pending
      simp only [State.switchExpires, timer, pending, ← isReached, State.expirePendingAlt_unfit unfit]
    refine ⟨_, ⟨ran, by rw [isReached]; simp [State.waitForAlternate]⟩, others _ ?_, ?_, ?_⟩
    · simp [State.waitForAlternate, otherRoutes.refl]
    · rw [State.waitForAlternate_route, route]
    · have pending : r.state = .pendingAlt := pending
      rw [State.waitForAlternate_notices, route, notices, pending, State.routeRaised_congr settings]
      rfl
  · refine onDefault _ _ (by decide) (exec_on (f := fun s => s.switchExpires c) rfl on ?_)
    have timer : (s.route c).switchTimer = .running e := timer
    have pending : (s.route c).state = .pendingDefault := pending
    simp only [State.switchExpires, timer, pending, ← isReached]
    rfl
  · refine onDefault _ _ (by decide) (exec_on (f := fun s => s.revertExpires c) rfl on ?_)
    have timer : (s.route c).revertTimer = some e := timer
    simp only [State.revertExpires, timer, ← isReached]
    rfl

end Sys2Proof.Machine

/-!
PROOFS. Judging acts on the route state (R53 to R59), and what a slot's move hands on (R10, R12).
-/

namespace Sys2Proof.Machine

open Sys2Proof

/-! ### Switches taken by a judging -/

/-- R60, R62, R64, R66, R72: what a switch to a fit slot makes of a channel, after notices that were raised before. -/
def State.SwitchedFrom (s t : State) (c : Channel) (u : NoticeUnit) (target : Option SlotNo) (cause : SwitchCause)
    (valve : Bool) : Prop :=
  let r := s.route c
  let cfg := s.routeCfg c
  t.notices = s.switchRaised u c r target cause (t.route c).state (t.route c).gate ∧
    keepsBut [.routes, .trace, .pins, .notices] s t ∧ (t.route c).active = target ∧
      (t.route c).settleCount = cfg.settleLines ∧
      (t.route c).gate = { r.gate with settle := decide (0 < cfg.settleLines), noSupply := false } ∧
      t.trace =
        (if 10 ≤ s.trace.length then s.trace.drop 1 else s.trace) ++
          [⟨c, r.active, target, cause, r.lastLine, s.time⟩] ∧
      t.pins = { s.pins with valves := s.pins.valves.set c valve }

/-- The way from s to the state in which the switch is taken: the channel's slot, gate and last line stay. -/
structure State.Readies (s v : State) (c : Channel) : Prop where
  conditions : sameConditions s v
  kept : keepsBut [.routes, .notices] s v
  active : (v.route c).active = (s.route c).active
  gate : (v.route c).gate = (s.route c).gate
  lastLine : (v.route c).lastLine = (s.route c).lastLine

theorem State.Readies.refl (s : State) (c : Channel) : s.Readies s c :=
  ⟨⟨rfl, rfl, fun _ => rfl⟩, keepsBut_refl _ s, rfl, rfl, rfl⟩

theorem State.Readies.trans {s v w : State} {c : Channel} (h : s.Readies v c) (k : v.Readies w c) : s.Readies w c :=
  ⟨h.conditions.trans k.conditions, h.kept.trans k.kept, k.active.trans h.active, k.gate.trans h.gate,
    k.lastLine.trans h.lastLine⟩

/-- A record that takes a new state and new timers only. -/
theorem State.putRoute_readies {s : State} {c : Channel} {x : Route} (active : x.active = (s.route c).active)
    (gate : x.gate = (s.route c).gate) (lastLine : x.lastLine = (s.route c).lastLine) : s.Readies (s.putRoute c x) c :=
  ⟨s.putRoute_sameConditions c x, by simp, by rw [State.putRoute_same, active], by rw [State.putRoute_same, gate],
    by rw [State.putRoute_same, lastLine]⟩

theorem State.raiseRoute_readies (s : State) (c : Channel) (b : Bool) : s.Readies (s.raiseRoute c b) c :=
  ⟨State.raise_sameConditions s _ _ _, by simp, rfl, rfl, rfl⟩

/-- A new state and new timers, with the ROUTE notice. -/
theorem State.putRoute_raiseRoute_readies {s : State} {c : Channel} {x : Route} (b : Bool)
    (active : x.active = (s.route c).active) (gate : x.gate = (s.route c).gate)
    (lastLine : x.lastLine = (s.route c).lastLine) : s.Readies ((s.putRoute c x).raiseRoute c b) c :=
  (State.putRoute_readies active gate lastLine).trans (State.raiseRoute_readies _ c b)

theorem State.Readies.switchTo {s v : State} {c : Channel} (h : s.Readies v c) {k : SwitchCause}
    (fit : (((s.routeCfg c).target k).any fun i => s.fit i c) = true) :
    s.SwitchedFrom (v.switchTo c k) c v.notices ((s.routeCfg c).target k) k
      (if k = .condition then !(s.routeCfg c).valveInvert else (s.routeCfg c).valveInvert) := by
  have cfg : v.routeCfg c = s.routeCfg c := h.conditions.routeCfg c
  have fit : (((v.routeCfg c).target k).any fun i => v.fit i c) = true := by
    simp only [cfg, h.conditions.fit c]
    exact fit
  have record := State.switchTo_route_of_fit fit
  have trace : v.trace = s.trace := h.kept.2.2 .trace (by decide)
  have pins : v.pins = s.pins := h.kept.2.2 .pins (by decide)
  have time : v.time = s.time := h.kept.2.2 .time (by decide)
  have more : keepsBut [.routes, .trace, .pins, .notices] s (v.switchTo c k) := by
    rw [State.switchTo_keeps (by simp)]
    exact h.kept.mono (by simp)
  refine ⟨?_, more, ?_, ?_, ?_, ?_, ?_⟩
  · rw [State.switchTo_notices, State.switchRaised_congr h.conditions.1, record]
    simp only [State.switchRaised, h.active, h.gate, cfg]
  · rw [record, ← cfg]
    rfl
  · rw [record, ← cfg]
    rfl
  · rw [record, cfg, h.gate]
  · rw [State.switchTo_trace, trace, time, h.active, h.lastLine, cfg]
    rfl
  · rw [State.switchTo_pins, pins, cfg]

theorem State.startLeave_readies (s : State) (c : Channel) : s.Readies (s.startLeave c) c :=
  State.putRoute_raiseRoute_readies false rfl rfl rfl

theorem State.cancelPending_readies (s : State) (c : Channel) (back : RouteState) : s.Readies (s.cancelPending c back) c :=
  State.putRoute_raiseRoute_readies false rfl rfl rfl

/-! ### A pending change cancelled -/

theorem State.cancelPending_route (s : State) (c : Channel) (back : RouteState) :
    (s.cancelPending c back).route c = { s.route c with state := back, switchTimer := .idle } :=
  State.putRoute_same s c _

theorem State.cancelPending_notices (s : State) (c : Channel) (back : RouteState) :
    (s.cancelPending c back).notices = s.routeRaised s.notices c (.route back false) :=
  State.putRoute_raiseRoute_notices s c _ false

/-! ### Judging revert (R59) -/

section
variable {v : State} {c : Channel}

theorem State.judgeRevert_ends (h : v.revertHolds c = false) :
    v.judgeRevert c = v.putRoute c { v.route c with revertTimer := none } := if_neg (by simp [h])

theorem State.judgeRevert_runs (h : v.revertHolds c = true) (runs : (v.route c).revertTimer ≠ none) :
    v.judgeRevert c = v := by
  simp [State.judgeRevert, h, Option.isSome_iff_ne_none, runs]

/-- R59: the record in which the revert timer runs. -/
def State.startRevert (v : State) (c : Channel) : State :=
  v.putRoute c { v.route c with revertTimer := some (v.after (v.routeCfg c).revertDelay) }

theorem State.judgeRevert_starts (h : v.revertHolds c = true) (idle : (v.route c).revertTimer = none)
    (delay : 0 < (v.routeCfg c).revertDelay) : v.judgeRevert c = v.startRevert c := by
  simp [State.judgeRevert, h, idle, Nat.ne_of_gt delay, State.startRevert]

theorem State.revertHolds_iff : v.revertHolds c = true ↔
    (v.routeCfg c).revertEnable = true ∧ v.leaveDefault c = false ∧ v.defaultFit c = true ∧ v.alternateFit c = true := by
  simp [State.revertHolds, and_assoc]

/-- R59: with a revert delay of 0 the switch is taken at once; D, which the revert condition excludes, keeps it there. -/
theorem State.judgeRevert_atOnce (h : v.revertHolds c = true) (idle : (v.route c).revertTimer = none)
    (delay : (v.routeCfg c).revertDelay = 0) : v.judgeRevert c = (v.startRevert c).switchTo c .revert := by
  have taken : v.judgeRevert c = (v.startRevert c).expireRevert c := by
    simp [State.judgeRevert, h, idle, delay, State.startRevert]
  obtain ⟨-, never, -⟩ := State.revertHolds_iff.mp h
  have conditions : sameConditions v ((v.startRevert c).switchTo c .revert) :=
    (v.putRoute_sameConditions c _).trans (State.switchTo_sameConditions _ c .revert)
  exact taken.trans (State.judgeOnDefault_stays (.inl ((conditions.leaveDefault c).trans never)))

end

/-- R59: what a judging of revert leaves, of the record x and the notices u. -/
def State.RevertJudged (s t : State) (c : Channel) (u : NoticeUnit) (x : Route) : Prop :=
  let cfg := s.routeCfg c
  (s.revertHolds c = false → t.route c = { x with revertTimer := none }) ∧
    (s.revertHolds c = true →
      (x.revertTimer ≠ none → t.route c = x) ∧
        (x.revertTimer = none →
          (0 < cfg.revertDelay →
            t.route c = { x with revertTimer := some (s.after cfg.revertDelay) }) ∧
            (cfg.revertDelay = 0 →
              s.SwitchedFrom t c u cfg.defaultSlot .revert cfg.valveInvert ∧ (t.route c).state = .onDefault ∧
                (t.route c).revertTimer = none))) ∧
    (s.revertHolds c = false ∨ x.revertTimer ≠ none ∨ 0 < cfg.revertDelay →
      keepsBut [.routes, .notices] s t ∧ t.notices = u)

theorem State.startRevert_readies (v : State) (c : Channel) : v.Readies (v.startRevert c) c :=
  State.putRoute_readies rfl rfl rfl

theorem State.Readies.revertHolds {s v : State} {c : Channel} (h : s.Readies v c) : v.revertHolds c = s.revertHolds c := by
  simp only [State.revertHolds, h.conditions.routeCfg c, h.conditions.leaveDefault c, h.conditions.defaultFit c,
    h.conditions.alternateFit c]

theorem State.Readies.judgeRevert {s v : State} {c : Channel} (h : s.Readies v c) :
    s.RevertJudged (v.judgeRevert c) c v.notices (v.route c) := by
  have cfg : v.routeCfg c = s.routeCfg c := h.conditions.routeCfg c
  have after : v.after (s.routeCfg c).revertDelay = s.after (s.routeCfg c).revertDelay := by
    have time : v.time = s.time := h.kept.2.2 .time (by decide)
    rw [State.after, time, State.after]
  have placed (x : Route) : keepsBut [.routes, .notices] s (v.putRoute c x) := by simpa using h.kept
  refine ⟨fun ends => ?_, fun holds => ⟨fun runs => ?_, fun idle => ⟨fun delay => ?_, fun delay => ?_⟩⟩, fun quiet => ?_⟩
  · rw [State.judgeRevert_ends (h.revertHolds.trans ends), State.putRoute_same]
  · rw [State.judgeRevert_runs (h.revertHolds.trans holds) runs]
  · rw [State.judgeRevert_starts (h.revertHolds.trans holds) idle (by rwa [cfg]), State.startRevert, State.putRoute_same,
      cfg, after]
  · have holds_v := h.revertHolds.trans holds
    rw [State.judgeRevert_atOnce holds_v idle (by rwa [cfg])]
    obtain ⟨-, -, fit, -⟩ := State.revertHolds_iff.mp holds
    rw [State.defaultFit_eq] at fit
    have switched := (h.trans (v.startRevert_readies c)).switchTo (k := .revert) fit
    obtain ⟨state, -, -, -, -, ended, -⟩ := (v.startRevert c).switchTo_default_route (c := c) (k := .revert) (by decide)
    exact ⟨switched, state, ended rfl⟩
  · by_cases holds : s.revertHolds c = true
    · by_cases runs : (v.route c).revertTimer = none
      · have delay : 0 < (s.routeCfg c).revertDelay := by simpa [holds, runs] using quiet
        rw [State.judgeRevert_starts (h.revertHolds.trans holds) runs (by rwa [cfg])]
        exact ⟨placed _, rfl⟩
      · rw [State.judgeRevert_runs (h.revertHolds.trans holds) runs]
        exact ⟨h.kept, rfl⟩
    · rw [State.judgeRevert_ends (h.revertHolds.trans (by simpa using holds))]
      exact ⟨placed _, rfl⟩

/-! ### A forced return at once (R57) -/

/-- R57, R54: the notices of a forced return with a switch delay of 0. -/
theorem State.enterPendingDefault_notices {s : State} {c : Channel} (delay : (s.routeCfg c).switchDelay = 0)
    (unfit : s.alternateFit c = false) :
    let t := s.enterPendingDefault c
    let back :=
      s.switchRaised (s.routeRaised s.notices c (.route .pendingDefault false)) c (s.route c) (s.routeCfg c).defaultSlot
        .forcedReturn .onDefault (t.route c).gate
    t.notices =
      if s.leaveDefault c = true ∧ (s.routeCfg c).alternate ≠ none then
        s.routeRaised (s.routeRaised back c (.route .pendingAlt false)) c (.route .pendingAlt true)
      else back := by
  intro t back
  obtain ⟨u, switched⟩ : ∃ u, u = (s.startReturn c).switchTo c .forcedReturn := ⟨_, rfl⟩
  have same : sameConditions s u :=
    switched ▸ (s.startReturn_sameConditions c).trans (State.switchTo_sameConditions _ c .forcedReturn)
  have arrived : t = u.judgeOnDefault c := switched ▸ (s.enterPendingDefault_eq c).trans (if_pos delay)
  have returned : (s.startReturn c).notices = s.routeRaised s.notices c (.route .pendingDefault false) :=
    State.putRoute_raiseRoute_notices s c _ false
  have raised : u.notices =
      s.switchRaised (s.routeRaised s.notices c (.route .pendingDefault false)) c (s.route c) (s.routeCfg c).defaultSlot
        .forcedReturn .onDefault (u.route c).gate := by
    rw [switched, State.switchTo_notices, returned, (s.startReturn_sameConditions c).routeCfg c, State.startReturn_route,
      State.switchRaised_congr (s.startReturn_sameConditions c).1]
    rfl
  by_cases leaves : s.leaveDefault c = true ∧ (s.routeCfg c).alternate ≠ none
  · have waits := State.enterPendingAlt_unfit (s := u) (c := c) (by rw [same.routeCfg, delay])
      ((same.alternateFit c).trans unfit)
    rw [← State.judgeOnDefault_leaves ((same.leaveDefault c).trans leaves.1) (by rw [same.routeCfg]; exact leaves.2),
      ← arrived] at waits
    obtain ⟨record, notices, -⟩ := waits
    have gate : (t.route c).gate = (u.route c).gate := by rw [record]
    rw [if_pos leaves, notices, State.routeRaised_congr same.1, State.routeRaised_congr same.1, raised, ← gate]
  · have stays : u.judgeOnDefault c = u := by
      refine State.judgeOnDefault_stays ?_
      rw [same.leaveDefault, same.routeCfg]
      simpa [-not_and, not_and_or] using leaves
    have gate : (t.route c).gate = (u.route c).gate := by rw [arrived, stays]
    rw [if_neg leaves, arrived, stays, raised, ← gate]

end Sys2Proof.Machine

/-!
PROOFS. Judging acts on the route state (R53 to R59), one event on each channel, and what a slot's move hands on (R10,
R12).
-/

namespace Sys2Proof.Machine

open Sys2Proof

/-! ### One event on each channel (R53, R12) -/

theorem State.judgeChannels_route (s : State) (named : Channel → Bool) (c : Channel) :
    (s.judgeChannels named).route c = if named c = true then (s.judgeRoute c).route c else s.route c := by
  have turns := foldl_channels_route (f := fun t d => if named d then t.judgeRoute d else t)
    (fun d => Respects.iteBool (p := fun _ => named d) (fun _ _ _ => rfl) (RouteLocal.judgeRoute d) Respects.id)
    (fun t d => ?_) channels (List.nodup_finRange 12) s c
  · refine turns.trans ((if_pos (List.mem_finRange c)).trans ?_)
    split <;> rfl
  · split
    · exact ⟨(t.judgeRoute_sameConditions d).1, (t.judgeRoute_sameConditions d).2,
        (otherRoutes_judgeRoute d t t).mpr (otherRoutes.refl d t)⟩
    · exact ⟨⟨rfl, rfl, fun _ => rfl⟩, rfl, otherRoutes.refl d t⟩

/-! ### A change of fitness and drawability (R12, R63) -/

/-- R12: a change of the slot's fitness that concerns a channel which names it. -/
def State.fitnessReaches (before s : State) (i : SlotNo) (c : Channel) : Prop :=
  before.fit i c ≠ s.fit i c ∧ ((s.routeCfg c).defaultSlot = some i ∨ (s.routeCfg c).alternate = some i)

/-- R12, R53: the state once the conditions of the channel were judged, where the slot's fitness changed. -/
def State.refit (before : State) (i : SlotNo) (s : State) (c : Channel) : State :=
  if ((before.fit i c != s.fit i c) &&
      (decide ((s.routeCfg c).defaultSlot = some i) || decide ((s.routeCfg c).alternate = some i))) = true then
    s.judgeRoute c
  else s

theorem State.refit_of {before s : State} {i : SlotNo} {c : Channel} (h : State.fitnessReaches before s i c) :
    State.refit before i s c = s.judgeRoute c := by
  obtain ⟨fitness, named⟩ := h
  exact if_pos (by simpa [bne_iff_ne, fitness] using named)

theorem State.refit_of_not {before s : State} {i : SlotNo} {c : Channel} (h : ¬State.fitnessReaches before s i c) :
    State.refit before i s c = s := by
  refine if_neg fun reaches => h ?_
  simpa [State.fitnessReaches] using reaches

theorem State.handFitness_eq (before s : State) (i : SlotNo) (c : Channel) :
    State.handFitness before i s c =
      if before.drawable i c ≠ s.drawable i c ∧ ((State.refit before i s c).route c).active = some i then
        (State.refit before i s c).judgeSupply c
      else State.refit before i s c := by
  have shape : State.handFitness before i s c =
      if (before.drawable i c != s.drawable i c && decide (((State.refit before i s c).route c).active = some i)) = true then
        (State.refit before i s c).judgeSupply c
      else State.refit before i s c := rfl
  rw [shape]
  simp only [Bool.and_eq_true, bne_iff_ne, decide_eq_true_eq]

/-- R63: NO_SUPPLY judged against the slot that feeds the channel. -/
theorem State.judgeSupply_of_active {u : State} {i : SlotNo} {c : Channel} (active : (u.route c).active = some i) :
    (u.judgeSupply c).route c = { u.route c with gate := { (u.route c).gate with noSupply := !u.drawable i c } } ∧
      (u.judgeSupply c).notices = u.gateRaised u.notices c (u.route c).gate ((u.judgeSupply c).route c).gate ∧
      keepsBut [.routes, .notices] u (u.judgeSupply c) := by
  have supply : u.noSupply c = !u.drawable i c := by rw [State.noSupply_eq, active]; rfl
  have record : (u.judgeSupply c).route c =
      { u.route c with gate := { (u.route c).gate with noSupply := !u.drawable i c } } := by
    rw [State.judgeSupply, State.setGate_route, supply]
  refine ⟨record, ?_, by simp⟩
  rw [record, State.judgeSupply, State.setGate_notices, supply]

theorem State.judgeSupply_otherRoutes (s : State) (c : Channel) : otherRoutes c s (s.judgeSupply c) :=
  (otherRoutes_setGate c s s _).mpr (otherRoutes.refl c s)

theorem State.judgeRoute_otherRoutes (s : State) (c : Channel) : otherRoutes c s (s.judgeRoute c) :=
  (otherRoutes_judgeRoute c s s).mpr (otherRoutes.refl c s)

theorem State.handFitness_otherRoutes (before : State) (i : SlotNo) (s : State) (c : Channel) :
    otherRoutes c s (State.handFitness before i s c) := by
  have judged : otherRoutes c s (State.refit before i s c) := by
    unfold State.refit
    split
    · exact s.judgeRoute_otherRoutes c
    · exact otherRoutes.refl c s
  rw [State.handFitness_eq]
  split
  · exact fun d other => ((State.refit before i s c).judgeSupply_otherRoutes c d other).trans (judged d other)
  · exact judged

theorem State.judgeFitness_route (before s : State) (i : SlotNo) (c : Channel) :
    (s.judgeFitness before i).route c = (State.handFitness before i s c).route c := by
  have turns := foldl_channels_route (f := State.handFitness before i) (fun d => RouteLocal.handFitness d before i)
    (fun t d => ⟨(State.handFitness_sameConditions before i t d).1, (State.handFitness_sameConditions before i t d).2,
      State.handFitness_otherRoutes before i t d⟩) channels (List.nodup_finRange 12) s c
  exact turns.trans (if_pos (List.mem_finRange c))

/-! ### A change of a slot's state (R10) -/

theorem State.changeSlot_handsOn (s : State) (i : SlotNo) (new : Slot) (failure : Option (TransKind × FailKind))
    (c : Channel) :
    let x := new.leaveChallenge
    let noted := (s.putSlot i x).raise .slot (.slot i) (slotDetails (s.slot i) x failure)
    (s.changeSlot i new failure).route c = (State.handFitness s i (s.putSlot i x) c).route c ∧
      (s.changeSlot i new failure).notices = (noted.judgeFitness s i).notices := by
  intro x noted
  obtain ⟨w, isChanged⟩ : ∃ w, w =
      if ((s.slot i).state.supplies && !x.state.supplies) = true then (s.putSlot i x).dropCheckpoint i
      else s.putSlot i x := ⟨_, rfl⟩
  have kept : keepsBut [.lines] (s.putSlot i x) w := by
    rw [isChanged]
    split <;> simp
  have changed : s.changeSlot i new failure =
      (w.raise .slot (.slot i) (slotDetails (s.slot i) x failure)).judgeFitness s i := by rw [isChanged]; rfl
  have raised : keepsBut [.lines, .notices] (s.putSlot i x) (w.raise .slot (.slot i) (slotDetails (s.slot i) x failure)) := by
    simpa using kept.mono (by simp)
  have read : sameRead noted (w.raise .slot (.slot i) (slotDetails (s.slot i) x failure)) :=
    raised.sameRead (by decide)
  obtain ⟨-, notices⟩ := State.judgeFitness_same (b := s) i read
  have agree : agreeOn c (s.putSlot i x) (w.raise .slot (.slot i) (slotDetails (s.slot i) x failure)) :=
    ⟨⟨raised.2.2 .settings (by decide), raised.2.2 .slots (by decide), raised.filter (by decide)⟩,
      raised.2.2 .time (by decide),
      congrArg (fun routes : Vector Route 12 => routes[c]) (raised.2.2 .routes (by decide))⟩
  refine ⟨?_, ?_⟩
  · rw [changed, State.judgeFitness_route]
    exact (RouteLocal.handFitness c s i _ _ agree).2.2
  · rw [changed]
    refine notices ?_
    have same : w.notices = (s.putSlot i x).notices := kept.2.2 .notices (by decide)
    have settings : w.settings = (s.putSlot i x).settings := kept.2.2 .settings (by decide)
    simp only [State.raise, same, settings, noted]

/-! ### Judging (R53) -/

/-- Settles O51: by the route state, through the steps of a judging. -/
theorem judgingActsOnTheRouteState : Obligations.JudgingActsOnTheRouteState := by
  refine ⟨fun s c => ?_, fun s named c => ⟨s.judgeChannels_route named c, rfl⟩, fun before s i c => ?_,
    fun before s i c => ⟨State.judgeFitness_route before s i c, rfl⟩, fun s i new failure c =>
      s.changeSlot_handsOn i new failure c⟩
  · intro r cfg t raised told switched judged
    have ready := State.Readies.refl s c
    refine ⟨(otherRoutes_judgeRoute c s s).mpr (otherRoutes.refl c s), rfl, rfl, fun state => ?_, fun state => ?_,
      fun e state timer => ?_, fun state timer d fit => ?_, fun state free => ?_, fun state forced delay => ?_,
      fun state => ?_⟩
    · have unrouted : (s.route c).state = .unrouted := state
      show s.judgeRoute c = s
      rw [State.judgeRoute, unrouted]
    · have at_default : t = s.judgeOnDefault c := State.judgeRoute_onDefault state
      refine ⟨fun stays => at_default.trans (State.judgeOnDefault_stays stays), fun d alternate => ?_⟩
      have leaves : t = s.enterPendingAlt c := at_default.trans (State.judgeOnDefault_leaves d alternate)
      refine ⟨fun delay => ?_, fun delay unfit => ?_, fun delay fit => ?_⟩
      · have started : t = s.startLeave c := leaves.trans (State.enterPendingAlt_delayed delay)
        refine ⟨?_, ?_, ?_⟩
        · rw [started]; exact s.startLeave_keeps c
        · rw [started]; exact s.startLeave_route c
        · rw [started]; exact s.startLeave_notices c
      · obtain ⟨record, notices, kept⟩ := State.enterPendingAlt_unfit delay unfit
        rw [← leaves] at record notices kept
        exact ⟨kept, record, notices⟩
      · have ready := s.startLeave_readies c
        have still : (s.startLeave c).alternateFit c = true := (ready.conditions.alternateFit c).trans fit
        have taken : t = (s.startLeave c).switchTo c .condition :=
          leaves.trans ((State.enterPendingAlt_atOnce delay).trans (State.expirePendingAlt_fit still))
        rw [State.alternateFit_eq] at fit
        have switch := ready.switchTo (k := .condition) fit
        obtain ⟨record, -⟩ := State.enterPendingAlt_fit delay (by rwa [State.alternateFit_eq])
        rw [← taken, s.startLeave_notices c] at switch
        rw [← leaves] at record
        exact ⟨switch, by rw [record], by rw [record]⟩
    · have pending : t = s.judgePendingAlt c := State.judgeRoute_pendingAlt state
      have timer : (s.route c).switchTimer = .running e := timer
      refine ⟨fun never => ?_, fun d => ?_⟩
      · have cancelled : t = s.cancelPending c .onDefault := pending.trans (by simp [State.judgePendingAlt, never])
        refine ⟨?_, ?_, ?_⟩
        · rw [cancelled]; exact (s.cancelPending_readies c .onDefault).kept
        · rw [cancelled]; exact s.cancelPending_route c .onDefault
        · rw [cancelled]; exact s.cancelPending_notices c .onDefault
      · exact pending.trans (by simp [State.judgePendingAlt, d, timer])
    · have timer : (s.route c).switchTimer = .waiting := timer
      have taken : t = s.switchTo c .condition :=
        (State.judgeRoute_pendingAlt state).trans (by simp [State.judgePendingAlt, d, timer, fit])
      rw [State.alternateFit_eq] at fit
      have switch := ready.switchTo (k := .condition) fit
      rw [← taken] at switch
      exact switch
    · have onAlternate : (s.route c).state = .onAlternate := state
      have revert : t = s.judgeRevert c := by
        show s.judgeRoute c = _
        rw [State.judgeRoute, onAlternate]
        exact if_neg (by simp [free])
      have result := ready.judgeRevert
      rw [← revert] at result
      exact result
    · have onAlternate : (s.route c).state = .onAlternate := state
      have returns : t = s.enterPendingDefault c := by
        show s.judgeRoute c = _
        rw [State.judgeRoute, onAlternate]
        exact if_pos forced
      have unfit : s.alternateFit c = false := by
        simp only [State.forcedReturn, Bool.and_eq_true, Bool.not_eq_true'] at forced
        exact forced.1
      have notices := State.enterPendingDefault_notices delay unfit
      rw [← returns] at notices
      exact notices
    · have pending : (s.route c).state = .pendingDefault := state
      have judges : t = if s.forcedReturn c = true then s else (s.cancelPending c .onAlternate).judgeRevert c := by
        show s.judgeRoute c = _
        rw [State.judgeRoute, pending]
        rfl
      refine ⟨fun forced => judges.trans (if_pos forced), fun free => ?_⟩
      have result := (s.cancelPending_readies c .onAlternate).judgeRevert
      rw [s.cancelPending_notices c .onAlternate, s.cancelPending_route c .onAlternate,
        ← judges.trans (if_neg (by simp [free]))] at result
      exact result
  · intro cfg t fitness drawability supplied
    have shape : t = _ := State.handFitness_eq before s i c
    have supplies (u : State) (same : u.drawable i c = s.drawable i c) (settings : u.settings = s.settings)
        (active : (u.route c).active = some i) (is : t = u.judgeSupply c) : supplied u := by
      obtain ⟨record, notices, kept⟩ := State.judgeSupply_of_active active
      rw [← is] at record notices kept
      rw [same] at record
      rw [State.gateRaised_congr settings] at notices
      exact ⟨kept, is ▸ u.judgeSupply_otherRoutes c, record, notices⟩
    have judged := s.judgeRoute_sameConditions c
    refine ⟨fun unchanged => ?_, fun changed => ?_⟩
    · rw [State.refit_of_not unchanged] at shape
      exact ⟨fun h => shape.trans (if_neg fun k => h.elim (· k.1) (· k.2)),
        fun drawn active => supplies s rfl rfl active (shape.trans (if_pos ⟨drawn, active⟩))⟩
    · rw [State.refit_of changed] at shape
      exact ⟨fun h => shape.trans (if_neg fun k => h.elim (· k.1) (· k.2)),
        fun drawn active => supplies _ (judged.1.drawable c i) judged.1.1 active (shape.trans (if_pos ⟨drawn, active⟩))⟩

end Sys2Proof.Machine

/-!
PROOFS. Set Route (R69, R70): the channel on its new default, or UNROUTED, and D judged there.
-/

namespace Sys2Proof.Machine

open Sys2Proof

/-! ### The operator's change -/

/-- R70, step 7: the notices of a change of the active slot, or of the route state alone. -/
def State.operatorRaised (s : State) (n : NoticeUnit) (c : Channel) (old x : Route) : NoticeUnit :=
  if old.active ≠ x.active then s.routeRaised n c (.switch old.active x.active .operator x.state)
  else if old.state ≠ x.state then s.routeRaised n c (.route x.state false)
  else n

/-- R70, step 7: the route trace after it. -/
def operatorTrace (trace : List TraceEntry) (c : Channel) (old x : Route) (time : Time) : List TraceEntry :=
  if old.active ≠ x.active then traceAdds trace ⟨c, old.active, x.active, .operator, x.lastLine, time⟩ else trace

theorem State.traceOperator_does (s : State) (c : Channel) (old : Route) :
    (s.traceOperator c old).route = s.route ∧
      (s.traceOperator c old).notices = s.operatorRaised s.notices c old (s.route c) ∧
      (s.traceOperator c old).trace = operatorTrace s.trace c old (s.route c) s.time ∧
      keepsBut [.trace, .notices] s (s.traceOperator c old) := by
  by_cases active : (s.route c).active = old.active
  · by_cases state : (s.route c).state = old.state
    · have same : s.traceOperator c old = s := by simp [State.traceOperator, active, state]
      rw [same, State.operatorRaised, operatorTrace, if_neg (not_not.mpr active.symm), if_neg (not_not.mpr state.symm),
        if_neg (not_not.mpr active.symm)]
      exact ⟨rfl, rfl, rfl, keepsBut_refl _ s⟩
    · have told : s.traceOperator c old = s.raiseRoute c false := by simp [State.traceOperator, active, state]
      rw [told, State.operatorRaised, operatorTrace, if_neg (not_not.mpr active.symm), if_pos (Ne.symm state),
        if_neg (not_not.mpr active.symm)]
      exact ⟨rfl, rfl, rfl, by simp⟩
  · have moved : s.traceOperator c old =
        (s.addTrace ⟨c, old.active, (s.route c).active, .operator, (s.route c).lastLine, s.time⟩).raise .route (.channel c)
          (.switch old.active (s.route c).active .operator (s.route c).state) := if_pos active
    rw [moved, State.operatorRaised, operatorTrace, if_pos (Ne.symm active), if_pos (Ne.symm active)]
    exact ⟨rfl, rfl, rfl, by simp⟩

theorem State.operatorRaised_congr {s t : State} (h : t.settings = s.settings) (n : NoticeUnit) (c : Channel)
    (old x : Route) : t.operatorRaised n c old x = s.operatorRaised n c old x := by
  simp only [State.operatorRaised, State.routeRaised_congr h]

/-! ### The channel before D is judged -/

theorem Route.configured_gate (r : Route) (cfg : RouteCfg) : (r.configured cfg).gate = r.gate := by
  unfold Route.configured
  split <;> rfl

theorem Route.loadSettle_gate (r : Route) (before : Option SlotNo) (n : Nat) : (r.loadSettle before n).gate = r.gate := by
  unfold Route.loadSettle
  split <;> rfl

/-- R70, steps 1 to 5: the channel's settings, its record and its valve. -/
def State.configuring (s : State) (c : Channel) (cfg : RouteCfg) : State :=
  let t := { s with settings := { s.settings with routes := s.settings.routes.set c cfg } }
  (t.putRoute c (((s.route c).configured cfg).loadSettle (s.route c).active cfg.settleLines)).driveValve c

/-- R70, steps 1 to 7: with its gate reasons and the trace entry. -/
def State.placedByOperator (s : State) (c : Channel) (cfg : RouteCfg) : State :=
  let r := ((s.route c).configured cfg).loadSettle (s.route c).active cfg.settleLines
  ((s.configuring c cfg).setGate c
    { r.gate with
      noRoute := decide (r.state = .unrouted), noSupply := (s.configuring c cfg).noSupply c
      settle := decide (0 < r.settleCount) }).traceOperator c (s.route c)

theorem State.configureRoute_eq (s : State) (c : Channel) (cfg : RouteCfg) :
    s.configureRoute c cfg =
      if (((s.route c).configured cfg).loadSettle (s.route c).active cfg.settleLines).state = .onDefault then
        (s.placedByOperator c cfg).judgeOnDefault c
      else s.placedByOperator c cfg := rfl

section
variable (s : State) (c : Channel) (cfg : RouteCfg)

theorem State.configuring_route :
    (s.configuring c cfg).route c = ((s.route c).configured cfg).loadSettle (s.route c).active cfg.settleLines :=
  State.putRoute_same _ c _

theorem State.configuring_routeCfg : (s.configuring c cfg).routeCfg c = cfg := by
  simp [State.configuring, State.routeCfg, State.driveValve, State.putRoute]

theorem State.configuring_keeps : keepsBut [.settings, .routes, .pins] s (s.configuring c cfg) := by
  simp [State.configuring]

theorem State.configuring_otherRoutes : otherRoutes c s (s.configuring c cfg) := fun _ other =>
  State.putRoute_other { s with settings := { s.settings with routes := s.settings.routes.set c cfg } } _ other

/-- R62: the VALVE output of a channel that is UNROUTED or ON_DEFAULT. -/
theorem State.configuring_pins {level : Bool}
    (valve : (s.configuring c cfg).valveLevel c = level) :
    (s.configuring c cfg).pins = { s.pins with valves := s.pins.valves.set c level } := by
  rw [← valve]
  rfl

/-- What the gate reasons and the trace entry leave of it. -/
theorem State.placedByOperator_does {x : Route}
    (record : x =
      let r := ((s.route c).configured cfg).loadSettle (s.route c).active cfg.settleLines
      { r with
        gate :=
          { r.gate with
            noRoute := decide (r.state = .unrouted), noSupply := (s.configuring c cfg).noSupply c
            settle := decide (0 < r.settleCount) } }) :
    let t := s.placedByOperator c cfg
    t.route c = x ∧ sameConditions (s.configuring c cfg) t ∧ otherRoutes c s t ∧
      t.notices = t.operatorRaised (t.gateRaised s.notices c (s.route c).gate x.gate) c (s.route c) x ∧
      t.trace = operatorTrace s.trace c (s.route c) x s.time ∧ t.pins = (s.configuring c cfg).pins ∧
      keepsBut [.routes, .trace, .pins, .notices] (s.configuring c cfg) t := by
  intro t
  obtain ⟨g, isGate⟩ : ∃ g, g = x.gate := ⟨_, rfl⟩
  obtain ⟨w, gated⟩ : ∃ w, w = (s.configuring c cfg).setGate c g := ⟨_, rfl⟩
  have traced : t = w.traceOperator c (s.route c) := by rw [gated, isGate, record]; rfl
  obtain ⟨route, notices, trace, kept⟩ := w.traceOperator_does c (s.route c)
  rw [← traced] at route notices trace kept
  have own : w.route c = x := by
    rw [gated, State.setGate_route, State.configuring_route, isGate, record]
  have base := s.configuring_keeps c cfg
  have keptGate : keepsBut [.routes, .notices] (s.configuring c cfg) w := by rw [gated]; simp
  have conditions : sameConditions (s.configuring c cfg) w := gated ▸ State.setGate_sameConditions _ c g
  have settings : t.settings = w.settings := kept.2.2 .settings (by decide)
  have oldGate : ((s.configuring c cfg).route c).gate = (s.route c).gate := by
    rw [State.configuring_route, Route.loadSettle_gate, Route.configured_gate]
  have raised : w.notices = t.gateRaised s.notices c (s.route c).gate x.gate := by
    rw [gated, State.setGate_notices, oldGate, isGate, State.gateRaised_congr (settings.trans conditions.1)]
    exact congrArg (fun n => (s.configuring c cfg).gateRaised n c _ _) (base.2.2 .notices (by decide))
  have time : w.time = s.time := (keptGate.2.2 .time (by decide)).trans (base.2.2 .time (by decide))
  have oldTrace : w.trace = s.trace := (keptGate.2.2 .trace (by decide)).trans (base.2.2 .trace (by decide))
  have others : otherRoutes c (s.configuring c cfg) w := by
    rw [gated, otherRoutes_setGate]
    exact otherRoutes.refl c _
  refine ⟨(congrFun route c).trans own, conditions.trans ⟨settings, kept.2.2 .slots (by decide), kept.filter (by decide)⟩,
    fun d other => (congrFun route d).trans ((others d other).trans (s.configuring_otherRoutes c cfg d other)), ?_, ?_,
    (kept.2.2 .pins (by decide)).trans (keptGate.2.2 .pins (by decide)), (keptGate.mono (by simp)).trans (kept.mono (by simp))⟩
  · rw [notices, own, raised, State.operatorRaised_congr settings]
  · rw [trace, own, oldTrace, time]

end

end Sys2Proof.Machine

/-!
PROOFS. Set Route, from the request to the channel on its default or on the way to its alternate (R69, R70).
-/

namespace Sys2Proof.Machine

open Sys2Proof

/-! ### Notices under the same mask -/

section
variable {s t : State} (h : t.settings.mask = s.settings.mask) (u : NoticeUnit) (c : Channel)
include h

theorem State.routeRaised_mask (d : Details) : t.routeRaised u c d = s.routeRaised u c d := by
  rw [State.routeRaised, State.routeRaised, h]

theorem State.gateRaised_mask (old new : Gate) : t.gateRaised u c old new = s.gateRaised u c old new := by
  rw [State.gateRaised, State.gateRaised, h]

theorem State.switchRaised_mask (r : Route) (target : Option SlotNo) (k : SwitchCause) (x : RouteState) (g : Gate) :
    t.switchRaised u c r target k x g = s.switchRaised u c r target k x g := by
  rw [State.switchRaised, State.switchRaised, State.gateRaised_mask h, State.routeRaised_mask h]

theorem State.operatorRaised_mask (old x : Route) : t.operatorRaised u c old x = s.operatorRaised u c old x := by
  simp only [State.operatorRaised, State.routeRaised_mask h]

end

/-! ### The record that Set Route gives -/

theorem Route.configured_unrouted {cfg : RouteCfg} (h : cfg.ink = 0 ∨ cfg.defaultSlot = none) (r : Route) :
    (r.configured cfg).loadSettle r.active cfg.settleLines =
      { r with state := .unrouted, active := none, switchTimer := .idle, revertTimer := none } := by
  rw [Route.configured, if_pos h, Route.loadSettle, if_neg (by simp)]

theorem Route.configured_default {cfg : RouteCfg} {i : SlotNo} (ink : cfg.ink ≠ 0) (slot : cfg.defaultSlot = some i)
    (r : Route) :
    (r.configured cfg).loadSettle r.active cfg.settleLines =
      { r with
        state := .onDefault, active := some i, switchTimer := .idle, revertTimer := none
        settleCount := if r.active = some i then r.settleCount else cfg.settleLines } := by
  have routed : ¬(cfg.ink = 0 ∨ cfg.defaultSlot = none) := by simp [ink, slot]
  rw [Route.configured, if_neg routed, Route.loadSettle]
  by_cases same : r.active = some i
  · rw [if_pos same, if_neg (by simp [slot, same])]
    simp [slot]
  · rw [if_neg same, if_pos (by simp [slot, Ne.symm same])]
    simp [slot]

section
variable (u : State) (c : Channel) {cfg : RouteCfg}

theorem State.configuring_unrouted (h : cfg.ink = 0 ∨ cfg.defaultSlot = none) :
    (u.configuring c cfg).noSupply c = true ∧
      (u.configuring c cfg).pins = { u.pins with valves := u.pins.valves.set c false } := by
  have record := u.configuring_route c cfg
  rw [Route.configured_unrouted h] at record
  refine ⟨by rw [State.noSupply_eq, record]; rfl, u.configuring_pins c cfg ?_⟩
  rw [State.valveLevel, record]

theorem State.configuring_default {i : SlotNo} (ink : cfg.ink ≠ 0) (slot : cfg.defaultSlot = some i) :
    (u.configuring c cfg).noSupply c = (!(u.configuring c cfg).drawable i c) ∧
      (u.configuring c cfg).pins = { u.pins with valves := u.pins.valves.set c cfg.valveInvert } := by
  have record := u.configuring_route c cfg
  rw [Route.configured_default ink slot] at record
  refine ⟨by rw [State.noSupply_eq, record]; rfl, u.configuring_pins c cfg ?_⟩
  rw [State.valveLevel, record, u.configuring_routeCfg c cfg]

end

theorem setRoute_done {fields : List Byte} {c : Channel} {cfg : RouteCfg} (size : fields.length = 17)
    (read : setRouteOperand fields = .ok (c, cfg)) (u : State) :
    setRoute fields u = done (u.configureRoute c cfg) cfg.echo := by
  rw [setRoute, sized_eq size, read]

theorem operatorTrace_eq (trace : List TraceEntry) (c : Channel) (old x : Route) (time : Time) :
    operatorTrace trace c old x time =
      if old.active = x.active then trace
      else traceAdds trace ⟨c, old.active, x.active, .operator, x.lastLine, time⟩ := by
  unfold operatorTrace
  split <;> simp_all

/-- R70, step 6: the gate reasons of the changed record. -/
def Route.regated (r : Route) (noSupply : Bool) : Gate :=
  { r.gate with noRoute := decide (r.state = .unrouted), noSupply := noSupply, settle := decide (0 < r.settleCount) }

/-- R70, steps 1 to 7, told of a channel whose changed record is `y`. -/
theorem State.placedByOperator_shape (u : State) (c : Channel) (cfg : RouteCfg) {y : Route} {supply level : Bool}
    (configured : ((u.route c).configured cfg).loadSettle (u.route c).active cfg.settleLines = y)
    (noSupply : (u.configuring c cfg).noSupply c = supply)
    (valve : (u.configuring c cfg).pins = { u.pins with valves := u.pins.valves.set c level }) :
    let t := u.placedByOperator c cfg
    let x : Route := { y with gate := y.regated supply }
    t.route c = x ∧ t.settings = { u.settings with routes := u.settings.routes.set c cfg } ∧
      otherRoutes c u t ∧
      t.notices = u.operatorRaised (u.gateRaised u.notices c (u.route c).gate x.gate) c (u.route c) x ∧
      t.trace = operatorTrace u.trace c (u.route c) x u.time ∧
      t.pins = { u.pins with valves := u.pins.valves.set c level } ∧
      sameConditions (u.configuring c cfg) t ∧ t.time = u.time := by
  intro t x
  obtain ⟨route, conditions, others, notices, trace, pins, kept⟩ :=
    u.placedByOperator_does c cfg (x := x) (by rw [configured, noSupply]; rfl)
  have settings : t.settings = { u.settings with routes := u.settings.routes.set c cfg } := conditions.1
  have mask : t.settings.mask = u.settings.mask := (congrArg Settings.mask settings :)
  refine ⟨route, settings, others, ?_, trace, pins.trans valve, conditions, kept.2.2 .time (by decide)⟩
  rw [notices, State.operatorRaised_mask mask, State.gateRaised_mask mask]

/-- R70: with no ink or no default slot the channel stays as the operator's change leaves it. -/
theorem State.configureRoute_unrouted (u : State) (c : Channel) {cfg : RouteCfg}
    (unrouted : cfg.ink = 0 ∨ cfg.defaultSlot = none) : u.configureRoute c cfg = u.placedByOperator c cfg := by
  rw [State.configureRoute_eq, Route.configured_unrouted unrouted]
  exact if_neg (by simp)

/-- R70, step 8: with both D is judged. -/
theorem State.configureRoute_default (u : State) (c : Channel) {cfg : RouteCfg} {i : SlotNo} (ink : cfg.ink ≠ 0)
    (slot : cfg.defaultSlot = some i) : u.configureRoute c cfg = (u.placedByOperator c cfg).judgeOnDefault c := by
  rw [State.configureRoute_eq, Route.configured_default ink slot]
  exact if_pos rfl

/-- R54, R55, R60: what D does on arrival at the default. -/
theorem State.judgeOnDefault_does (p : State) (c : Channel) :
    let cfg := p.routeCfg c
    let t := p.judgeOnDefault c
    let leaves := p.routeRaised p.notices c (.route .pendingAlt false)
    (p.leaveDefault c = false ∨ cfg.alternate = none → t = p) ∧
    (p.leaveDefault c = true → cfg.alternate ≠ none → 0 < cfg.switchDelay →
      t.route c = { p.route c with state := .pendingAlt, switchTimer := .running (p.after cfg.switchDelay) } ∧
        t.notices = leaves ∧ t.pins = p.pins ∧ t.trace = p.trace) ∧
    (p.leaveDefault c = true → cfg.alternate ≠ none → cfg.switchDelay = 0 →
      if p.alternateFit c then
        let switched : Gate := { (p.route c).gate with settle := decide (0 < cfg.settleLines), noSupply := false }
        t.route c =
            { p.route c with
              state := .onAlternate, active := cfg.alternate, switchTimer := .idle, settleCount := cfg.settleLines
              gate := switched } ∧
          t.notices = p.switchRaised leaves c (p.route c) cfg.alternate .condition .onAlternate switched ∧
          t.pins = { p.pins with valves := p.pins.valves.set c (!cfg.valveInvert) } ∧
          t.trace =
            traceAdds p.trace ⟨c, (p.route c).active, cfg.alternate, .condition, (p.route c).lastLine, p.time⟩
      else
        t.route c = { p.route c with state := .pendingAlt, switchTimer := .waiting } ∧
          t.notices = p.routeRaised leaves c (.route .pendingAlt true) ∧ t.pins = p.pins ∧ t.trace = p.trace) := by
  intro cfg t leaves
  refine ⟨State.judgeOnDefault_stays, fun d alternate delay => ?_, fun d alternate delay => ?_⟩
  · have started : t = p.startLeave c := State.judgeOnDefault_delayed d alternate delay
    have kept := p.startLeave_keeps c
    rw [started]
    exact ⟨State.startLeave_route p c, State.startLeave_notices p c, kept.2.2 .pins (by decide),
      kept.2.2 .trace (by decide)⟩
  · have entered : t = p.enterPendingAlt c := State.judgeOnDefault_leaves d alternate
    rw [entered]
    split
    next fit =>
      obtain ⟨route, notices, trace, pins⟩ := State.enterPendingAlt_fit delay fit
      rw [route] at notices
      exact ⟨route, notices, pins, trace⟩
    next unfit =>
      obtain ⟨route, notices, kept⟩ := State.enterPendingAlt_unfit delay (by simpa using unfit)
      exact ⟨route, notices, kept.2.2 .pins (by decide), kept.2.2 .trace (by decide)⟩

theorem State.judgeOnDefault_otherRoutes (p : State) (c : Channel) : otherRoutes c p (p.judgeOnDefault c) := by
  simp [otherRoutes.refl]

/-- Settles O21: the operator's change of the record, and with a default slot D judged there. -/
theorem setRouteConfiguresTheChannel : Obligations.SetRouteConfiguresTheChannel := by
  unfold Obligations.SetRouteConfiguresTheChannel
  intro operator
  have kept (u : State) (c : Channel) (cfg : RouteCfg) :
      keepsBut [.notices, .settings, .routes, .trace, .pins] u (u.configureRoute c cfg) := by simp
  have arrival (s : State) (fields : List Byte) : (s.requestArrives fields).settings = s.settings ∧
      (s.requestArrives fields).trace = s.trace ∧ (s.requestArrives fields).pins = s.pins ∧
      (s.requestArrives fields).time = s.time := by simp
  refine ⟨fun tag fields c cfg s h size read unrouted => ?_, fun tag fields c cfg i s h size read ink slot => ?_⟩
  · refine ⟨_, doneWith h rfl rfl (setRoute_done size read _) (kept _ c cfg) (by simp), ?_⟩
    obtain ⟨settings, trace, pins, time⟩ := arrival s fields
    have route := requestArrives_route s fields
    obtain ⟨noSupply, valve⟩ := (s.requestArrives fields).configuring_unrouted c unrouted
    have shape := (s.requestArrives fields).placedByOperator_shape c cfg (Route.configured_unrouted unrouted _) noSupply
      valve
    rw [State.configureRoute_unrouted _ c unrouted]
    simp only [operator]
    generalize s.requestArrives fields = u at settings trace pins time route shape ⊢
    generalize u.placedByOperator c cfg = t at shape ⊢
    obtain ⟨record, cfgs, others, notices, traced, pinned, -⟩ := shape
    rw [settings] at cfgs
    rw [route c] at record notices traced
    rw [State.operatorRaised_congr settings, State.gateRaised_congr settings] at notices
    rw [operatorTrace_eq, trace, time] at traced
    rw [pins] at pinned
    exact ⟨cfgs, fun d other => (others d other).trans (route d), ⟨record, notices, traced⟩, pinned⟩
  · refine ⟨_, doneWith h rfl rfl (setRoute_done size read _) (kept _ c cfg) (by simp), ?_⟩
    obtain ⟨settings, trace, pins, time⟩ := arrival s fields
    have route := requestArrives_route s fields
    obtain ⟨noSupply, valve⟩ := (s.requestArrives fields).configuring_default c ink slot
    have shape := (s.requestArrives fields).placedByOperator_shape c cfg (Route.configured_default ink slot _) noSupply
      valve
    have own := (s.requestArrives fields).configuring_routeCfg c cfg
    rw [State.configureRoute_default _ c ink slot]
    simp only [operator]
    generalize s.requestArrives fields = u at settings trace pins time route shape own ⊢
    generalize u.configuring c cfg = w at shape own
    generalize u.placedByOperator c cfg = p at shape ⊢
    obtain ⟨record, cfgs, others, notices, traced, pinned, conditions, clock⟩ := shape
    have later := p.judgeOnDefault_sameConditions c
    have does := p.judgeOnDefault_does c
    have elsewhere := p.judgeOnDefault_otherRoutes c
    have pCfg : p.routeCfg c = cfg := (conditions.routeCfg c).trans own
    have drawn : w.drawable i c = (p.judgeOnDefault c).drawable i c := ((conditions.trans later).drawable c i).symm
    rw [drawn] at record notices traced
    have mask : p.settings.mask = s.settings.mask := by rw [cfgs, settings]
    rw [settings] at cfgs
    rw [route c] at record notices traced
    rw [State.operatorRaised_congr settings, State.gateRaised_congr settings] at notices
    rw [operatorTrace_eq, trace, time] at traced
    rw [pins] at pinned
    have after : p.after = s.after := by
      funext d
      rw [State.after, State.after, clock, time]
    dsimp only at does
    rw [← later.leaveDefault, ← later.alternateFit, pCfg, State.switchRaised_mask mask, State.routeRaised_mask mask,
      State.routeRaised_mask mask, record, notices, traced, pinned, clock, time, after] at does
    generalize p.judgeOnDefault c = t at does elsewhere later record notices traced ⊢
    obtain ⟨stays, waits, atOnce⟩ := does
    refine ⟨later.1.trans cfgs, fun d other => (elsewhere d other).trans ((others d other).trans (route d)), ?_, ?_, ?_⟩
    · intro h
      obtain rfl := stays h
      exact ⟨record, notices, pinned, traced⟩
    · exact waits
    · rw [Vector.set_set] at atOnce
      exact atOnce

end Sys2Proof.Machine

/-!
PROOFS. The expiry of a PRESENCE filter: the slot's probe starts, or its tenure ends (R176, R3, R6).
-/

namespace Sys2Proof.Machine

open Sys2Proof

/-- The lines stand in their block. -/
theorem State.line_of_lines {s t : State} (h : t.lines = s.lines) (j : SlotNo) : t.line j = s.line j :=
  congrArg (fun lines : Vector LineCtl 16 => lines[j]) h

/-! ### Presence asserted -/

/-- R3: the record of a slot that presence is asserted for. -/
def Slot.arrived (x : Slot) : Slot := { x with state := .probing, present := true }

/-- R3: the slot's record replaced and its probe placed, before the SLOT notice. -/
def State.arriving (s : State) (i : SlotNo) : State := (s.putSlot i (s.slot i).arrived).placeProbe i .identify

section
variable {s : State} {i : SlotNo}

theorem State.arriving_keeps (s : State) (i : SlotNo) :
    keepsBut [.lines] (s.putSlot i (s.slot i).arrived) (s.arriving i) := by
  rw [State.arriving]
  by_cases idle : (s.line i).state = .idle
  · rw [State.placeProbe_identify (s := s.putSlot i _) idle]
    simp
  · rw [State.placeProbe_busy (s := s.putSlot i _) idle]
    simp

theorem State.arriving_line_busy (busy : (s.line i).state ≠ .idle) :
    (s.arriving i).line i = { s.line i with pendProbe := some .identify } := by
  have line : (s.putSlot i (s.slot i).arrived).line i = s.line i := rfl
  rw [State.arriving, State.placeProbe_busy (by rw [line]; exact busy), State.putLine_same, line]

theorem State.arriving_line_idle (idle : (s.line i).state = .idle) :
    (s.arriving i).line i =
      LineCtl.sendBreak { s.line i with pendProbe := none } (Transaction.start .identify (s.slot i).tenure)
        s.policy.bitRate (s.after 3) := by
  have line : (s.putSlot i (s.slot i).arrived).line i = s.line i := rfl
  rw [State.arriving, State.placeProbe_identify (by rw [line]; exact idle), State.putLine_same, State.putSlot_same, line]
  rfl

theorem State.arriving_otherLines (s : State) (i : SlotNo) : otherLines i s (s.arriving i) :=
  (s.putSlot i (s.slot i).arrived).placeProbe_otherLines i .identify

/-- R10: a record of that slot with its SLOT notice, and what else the move brings of the parts that no judging of a
route reads, is handed on. -/
theorem State.handsOn_slotMoves {s w : State} {i : SlotNo} {x : Slot} {d : Details} {bs : List Block}
    (kept : keepsBut bs (s.putSlot i x) w)
    (unread : [Block.time, .settings, .slots, .routes, .trace, .pins, .notices].all (fun b => decide (b ∉ bs)) = true) :
    let t := (w.raise .slot (.slot i) d).judgeFitness s i
    slotMoves s t i x d ∧ t.slots = (s.putSlot i x).slots ∧ keepsBut [.routes, .pins, .trace, .notices] w t := by
  intro t
  simp only [List.all_cons, List.all_nil, Bool.and_true, Bool.and_eq_true, decide_eq_true_eq] at unread
  obtain ⟨time, settings, slots, routes, trace, pins, notices⟩ := unread
  have same : sameRead (s.putSlot i x) (w.raise .slot (.slot i) d) :=
    ⟨kept.2.2 .time time, kept.2.2 .settings settings, kept.2.2 .slots slots, kept.2.2 .routes routes,
      kept.2.2 .trace trace, kept.2.2 .pins pins⟩
  have told : (w.raise .slot (.slot i) d).notices = (s.raise .slot (.slot i) d).notices := by
    have notices : w.notices = s.notices := kept.2.2 .notices notices
    have settings : w.settings = s.settings := kept.2.2 .settings settings
    simp only [State.raise, notices, settings]
  refine ⟨slotMoves_intro same told ⟨rfl, rfl, rfl⟩ rfl ?_, (State.judgeFitness_slots s _ i).trans same.2.2.1, by simp [t]⟩
  exact (State.judgeFitness_keepsSlots s _ i).2.trans same.2.1

/-- R3: presence asserted in EMPTY. -/
theorem State.presenceAsserted_does (empty : (s.slot i).state = .empty) :
    let t := s.presenceAsserted i
    slotMoves s t i (s.slot i).arrived (.slot .probing .empty (s.slot i).tenure none none) ∧
      t.slot i = (s.slot i).arrived ∧ otherSlots i s t ∧
      keepsBut [.routes, .pins, .trace, .notices] (s.arriving i) t := by
  intro t
  have shape : t = ((s.arriving i).raise .slot (.slot i)
      (.slot .probing .empty (s.slot i).tenure none none)).judgeFitness s i := by
    rw [← empty]
    exact if_pos empty
  obtain ⟨moves, slots, kept⟩ := State.handsOn_slotMoves (s.arriving_keeps i) (by decide)
    (d := .slot .probing .empty (s.slot i).tenure none none)
  rw [← shape] at moves slots kept
  exact ⟨moves, (State.slot_of_slots slots i).trans (State.putSlot_same s i _),
    (s.putSlot_otherSlots i _).trans (otherSlots.of_slots slots), kept⟩

end

/-! ### Presence lost -/

/-- R6, R88, R110, R129: the record cleared, the line aborted, the slot's digest work dropped and its sense record
cleared, before the SLOT notice. -/
def State.leaving (s : State) (i : SlotNo) : State :=
  let t := (s.putSlot i (s.slot i).vacate).putLine i ((s.line i).abort (s.after turnaroundTime))
  (t.digestDrop i fun _ => true).putSense i ⟨false, false⟩

theorem State.leaving_keeps (s : State) (i : SlotNo) :
    keepsBut [.lines, .digest, .sense] (s.putSlot i (s.slot i).vacate) (s.leaving i) := by
  simp [State.leaving]

theorem State.leaving_line (s : State) (i : SlotNo) :
    (s.leaving i).line i = (s.line i).abort (s.after turnaroundTime) :=
  State.putLine_same (s.putSlot i (s.slot i).vacate) i _

theorem State.leaving_otherLines (s : State) (i : SlotNo) : otherLines i s (s.leaving i) :=
  (s.putSlot i (s.slot i).vacate).putLine_otherLines i _

theorem State.leaving_sense (s : State) (i : SlotNo) : (s.leaving i).senseOf i = ⟨false, false⟩ := by
  simp [State.leaving, State.senseOf, State.putSense]

/-- R6: presence lost in any state but EMPTY. -/
theorem State.presenceLost_does {s : State} {i : SlotNo} (occupied : (s.slot i).state ≠ .empty) :
    let t := s.presenceLost i
    slotMoves s t i (s.slot i).vacate (.slot .empty (s.slot i).state ((s.slot i).tenure + 1) none none) ∧
      t.slot i = (s.slot i).vacate ∧ otherSlots i s t ∧ keepsBut [.routes, .pins, .trace, .notices] (s.leaving i) t := by
  intro t
  have shape : t = ((s.leaving i).raise .slot (.slot i)
      (.slot .empty (s.slot i).state ((s.slot i).tenure + 1) none none)).judgeFitness s i := if_neg occupied
  obtain ⟨moves, slots, kept⟩ := State.handsOn_slotMoves (s.leaving_keeps i) (by decide)
    (d := .slot .empty (s.slot i).state ((s.slot i).tenure + 1) none none)
  rw [← shape] at moves slots kept
  exact ⟨moves, (State.slot_of_slots slots i).trans (State.putSlot_same s i _),
    (s.putSlot_otherSlots i _).trans (otherSlots.of_slots slots), kept⟩

/-- R110: what the abort leaves of a line. -/
theorem LineCtl.abort_fields (l : LineCtl) (quietEnds : Time) :
    let k := l.abort quietEnds
    k.trans = none ∧ k.pendProbe = none ∧ k.pendChallenge = none ∧ k.pendCheckpoint = false ∧ k.probeHold = none ∧
      k.lastFailure = none ∧ (l.trans ≠ none → k.state = .quiet ∧ k.timer = some quietEnds) := by
  obtain ⟨state, trans, _⟩ := l
  cases trans <;> simp [LineCtl.abort]

/-- R174, R176: the filtered change of a PRESENCE input. -/
theorem State.inputChanges_presence (u : State) (i : SlotNo) {raw : Bool} (level : (u.filter (.presence i)).raw = raw) :
    let t := u.putFilter (.presence i) { raw := raw, filtered := raw, timer := none, changed := true }
    u.inputChanges (.presence i) = if raw then t.presenceAsserted i else t.presenceLost i := by
  have settles : (u.filter (.presence i)).settle (.presence i) =
      { raw := raw, filtered := raw, timer := none, changed := true } := by
    simp [Filter.settle, Pin.hasChanged, level]
  simp [State.inputChanges, settles, State.handOnInput, State.presenceChanges]

/-- Settles O54: the filtered change as it is handed to the slot, asserted and released. -/
theorem presenceStartsAndEndsTheTenure : Obligations.PresenceStartsAndEndsTheTenure := by
  intro s i arrived ft on timer x raw now settled changes
  have carried := exec_filterExpiry arrived on timer (by simp)
  have same : (s.reach ft.expiry).filter (.presence i) = s.filter (.presence i) := State.filter_of_pins (by simp) _
  have slot (j : SlotNo) : changes.slot j = s.slot j := by simp [changes, State.slot]
  have line (j : SlotNo) : changes.line j = s.line j := by simp [changes, State.line]
  have digest : changes.digest = s.digest := by simp [changes]
  have time : changes.time = now := by simp [changes, now]
  have base : keepsBut [.pins] (s.reach ft.expiry) changes := by simp [changes]
  have own : changes.filter (.presence i) = settled := State.putFilter_same _ _ _
  have change := (s.reach ft.expiry).inputChanges_presence i (congrArg Filter.raw same)
  have change : (s.reach ft.expiry).inputChanges (.presence i) =
    if raw then changes.presenceAsserted i else changes.presenceLost i := change
  rw [change] at carried
  generalize changes = u at slot line digest time base own carried ⊢
  refine ⟨fun asserted empty => ?_, fun released occupied => ?_⟩
  · rw [if_pos asserted] at carried
    obtain ⟨moves, record, others, kept⟩ := State.presenceAsserted_does (s := u) (i := i) (by rw [slot]; exact empty)
    have filter := (u.presenceAsserted_filter (.presence i) i).trans own
    have edited : keepsBut [.pins, .slots, .lines, .routes, .trace, .notices] u (u.putSlot i (u.slot i).arrived) := by simp
    have whole := (edited.trans ((u.arriving_keeps i).mono (by simp))).trans (kept.mono (by simp))
    have lines (j : SlotNo) := State.line_of_lines (kept.2.2 .lines (by decide)) j
    have begun := u.arriving_line_idle (i := i)
    have waits := u.arriving_line_busy (i := i)
    have elsewhere := u.arriving_otherLines i
    rw [line] at begun waits
    rw [slot] at begun record moves
    generalize u.arriving i = w at lines begun waits elsewhere
    generalize u.presenceAsserted i = t at carried moves record others filter whole lines ⊢
    refine ⟨t, ⟨carried, (base.mono (by simp)).trans whole⟩, filter, fun j other => (others j other).trans (slot j), record,
      fun j other => (lines j).trans ((elsewhere j other).trans (line j)), ?_, fun busy => (lines i).trans (waits busy),
      fun idle => ?_⟩
    · rw [record]
      exact moves
    · rw [lines, begun idle]
      exact ⟨rfl, rfl⟩
  · rw [if_neg (by simp [released])] at carried
    obtain ⟨moves, record, others, kept⟩ := State.presenceLost_does (s := u) (i := i) (by rw [slot]; exact occupied)
    have filter := (u.presenceLost_filter (.presence i) i).trans own
    have edited : keepsBut [.pins, .slots, .lines, .sense, .digest, .routes, .trace, .notices] u
        (u.putSlot i (u.slot i).vacate) := by simp
    have whole := (edited.trans ((u.leaving_keeps i).mono (by simp))).trans (kept.mono (by simp))
    have lines (j : SlotNo) := State.line_of_lines (kept.2.2 .lines (by decide)) j
    have sense : (u.presenceLost i).senseOf i = (u.leaving i).senseOf i :=
      congrArg (fun sense : Vector Sense 16 => sense[i]) (kept.2.2 .sense (by decide))
    have dropped : (u.presenceLost i).digest = u.digest.drop i fun _ => true := kept.2.2 .digest (by decide)
    have ownLine := (lines i).trans (u.leaving_line i)
    have cleared := sense.trans (u.leaving_sense i)
    have elsewhere := u.leaving_otherLines i
    have aborted := (s.line i).abort_fields (u.after turnaroundTime)
    have quiet : u.after turnaroundTime = now + 1 := congrArg (· + 1) time
    rw [line, quiet] at ownLine
    rw [quiet] at aborted
    rw [digest] at dropped
    rw [slot] at record moves
    generalize u.leaving i = w at lines elsewhere
    generalize u.presenceLost i = t at carried moves record others filter whole lines dropped ownLine cleared ⊢
    refine ⟨t, ⟨carried, (base.mono (by simp)).trans whole⟩, filter, fun j other => (others j other).trans (slot j), ?_, ?_,
      cleared, dropped, fun j other => (lines j).trans ((elsewhere j other).trans (line j)), ?_⟩
    · rw [record]
      exact moves
    · rw [record]
      exact ⟨rfl, rfl, rfl, rfl, rfl, rfl, rfl, rfl, rfl, rfl, rfl, rfl, rfl, rfl, rfl, rfl, rfl, rfl, rfl, rfl, rfl, rfl, rfl⟩
    · rw [ownLine]
      exact aborted

end Sys2Proof.Machine

/-!
PROOFS. The History Table (06_refill_detection_and_the_history_table.md): what a move, an insertion, an eviction and an
update leave of the entries and of the slots' history indexes (R114 to R118).
-/

namespace Sys2Proof.Machine

open Sys2Proof

/-! ### Entries and indexes -/

/-- An entry that s holds stays in t, but for its use stamp. -/
def entryStays (n : EntryNo) (s t : State) : Prop :=
  ∀ e, s.entry n = some e → ∃ k, t.entry n = some { e with stamp := k }

/-- Of the slot records, history indexes alone were made absent. -/
def indexesForgotten (s t : State) : Prop :=
  ∀ i : SlotNo, t.slot i = s.slot i ∨ t.slot i = { s.slot i with historyIndex := none }

theorem State.entry_of_history {s t : State} (h : t.history = s.history) (n : EntryNo) : t.entry n = s.entry n :=
  congrArg (fun history : History => history.entries[n]) h

theorem entryStays.of_history {n : EntryNo} {s t : State} (h : t.history = s.history) : entryStays n s t :=
  fun e held => ⟨e.stamp, (State.entry_of_history h n).trans held⟩

theorem entryStays.trans {n : EntryNo} {s t u : State} (h : entryStays n s t) (k : entryStays n t u) :
    entryStays n s u := fun e held => by
  obtain ⟨a, stays⟩ := h e held
  obtain ⟨b, last⟩ := k { e with stamp := a } stays
  exact ⟨b, last⟩

theorem indexesForgotten.of_slots {s t : State} (h : t.slots = s.slots) : indexesForgotten s t :=
  fun i => .inl (State.slot_of_slots h i)

theorem indexesForgotten.trans {s t u : State} (h : indexesForgotten s t) (k : indexesForgotten t u) :
    indexesForgotten s u := by
  intro i
  rcases h i with same | none <;> rcases k i with same' | none'
  · exact .inl (same'.trans same)
  · exact .inr (none'.trans (by rw [same]))
  · exact .inr (same'.trans none)
  · exact .inr (none'.trans (by rw [none]))

/-! ### Moves (R115) -/

theorem State.renumberIfFull_entryStays (s : State) (n : EntryNo) : entryStays n s s.renumberIfFull := by
  have queued (u : State) (ns : List EntryNo) :
      (ns.foldl (fun t n => if (t.entry n).isSome then t.queueEntry n else t) u).history = u.history := by
    induction ns generalizing u with
    | nil => rfl
    | cons m ns ih =>
      refine (ih _).trans ?_
      beta_reduce
      split
      · have kept : keepsBut [.nvm] u (u.queueEntry m) := by simp
        exact kept.2.2 .history (by decide)
      · rfl
  unfold State.renumberIfFull
  split
  · exact entryStays.of_history rfl
  · refine entryStays.trans (t := { s with history := s.history.renumber }) ?_ (entryStays.of_history (queued _ _))
    intro e held
    have entries : s.history.entries[n] = some e := held
    exact ⟨s.history.placeOf n, by simp [State.entry, History.renumber]; simp [← Fin.getElem_fin, entries]⟩

theorem State.moveEntry_entryStays (s : State) (m n : EntryNo) : entryStays n s (s.moveEntry m) := by
  refine (s.renumberIfFull_entryStays n).trans ?_
  unfold State.moveEntry
  generalize s.renumberIfFull = t
  dsimp only
  split
  · exact entryStays.of_history rfl
  next e moved =>
    intro f held
    by_cases same : n = m
    · subst same
      cases held.symm.trans moved
      exact ⟨t.history.nextStamp, State.putEntry_same t n _⟩
    · exact ⟨f.stamp, (State.putEntry_other t _ same).trans held⟩

theorem State.moveEntry_slots (s : State) (n : EntryNo) : (s.moveEntry n).slots = s.slots := by
  have kept : keepsBut [.history, .nvm] s (s.moveEntry n) := by simp
  exact kept.2.2 .slots (by decide)

/-! ### Insertion (R116) and eviction (R117) -/

theorem State.forgetIndex_forgotten (s : State) (n : EntryNo) : indexesForgotten s (s.forgetIndex n) := by
  intro i
  rw [State.forgetIndex_slot]
  split
  · exact .inr rfl
  · exact .inl rfl

theorem State.insertEntry_entry (s : State) (e : HistoryEntry) :
    ∃ k, (s.insertEntry e).1.entry (s.insertEntry e).2 = some { e with stamp := k } := by
  have placed : ((s.forgetIndex s.history.vacancy).putEntry s.history.vacancy (some e)).entry s.history.vacancy = some e :=
    State.putEntry_same _ _ _
  exact State.moveEntry_entryStays _ s.history.vacancy s.history.vacancy e placed

theorem State.insertEntry_forgotten (s : State) (e : HistoryEntry) : indexesForgotten s (s.insertEntry e).1 :=
  (s.forgetIndex_forgotten _).trans (indexesForgotten.of_slots (State.moveEntry_slots _ _))

/-- The least recent entry that passes a test passes it. -/
theorem History.leastRecent_passes {h : History} {test : HistoryEntry → Bool} {n : EntryNo}
    (least : h.leastRecent test = some n) : ∃ e, h.entries[n] = some e ∧ test e = true := by
  have older (best : Option EntryNo) (m : EntryNo) (passes : ∀ b ∈ best, ∃ e, h.entries[b] = some e ∧ test e = true) :
      ∀ b ∈ h.older test best m, ∃ e, h.entries[b] = some e ∧ test e = true := by
    intro b chosen
    unfold History.older at chosen
    split at chosen
    · exact passes b chosen
    next e held =>
      split at chosen
      · exact passes b chosen
      next tested =>
        have own : ∃ e, h.entries[m] = some e ∧ test e = true := ⟨e, held, by simpa using tested⟩
        split at chosen
        · cases chosen
          exact own
        · split at chosen
          · cases chosen
            exact own
          · split at chosen
            · cases chosen
              exact own
            · exact passes b chosen
  have all (ns : List EntryNo) (best : Option EntryNo)
      (passes : ∀ b ∈ best, ∃ e, h.entries[b] = some e ∧ test e = true) :
      ∀ b ∈ ns.foldl (h.older test) best, ∃ e, h.entries[b] = some e ∧ test e = true := by
    induction ns generalizing best with
    | nil => exact passes
    | cons m ns ih => exact ih _ (older best m passes)
  exact all entryNos none (by simp) n least

/-- R117: an eviction leaves every entry that is not locked. -/
theorem State.evict_unlocked (s : State) (k : Option Serial) {n : EntryNo} {e : HistoryEntry} (held : s.entry n = some e)
    (unlocked : e.locked = false) : (s.evict k).entry n = some e := by
  unfold State.evict
  split
  · exact held
  next m least =>
    split
    · exact held
    next f victim =>
      have other : n ≠ m := by
        rintro rfl
        obtain ⟨g, entry, locked⟩ := History.leastRecent_passes least
        cases entry.symm.trans held
        rw [unlocked] at locked
        cases locked
      have kept : keepsBut [.nvm, .notices, .slots] (s.putEntry m none)
          ((((s.putEntry m none).forgetIndex m).queueEntry m).raise .history .none
            (.history m f.serial f.depletedMark f.refillMark k)) := by simp
      exact (State.entry_of_history (kept.2.2 .history (by decide)) n).trans
        ((State.putEntry_other s none other).trans held)

theorem State.evict_forgotten (s : State) (k : Option Serial) : indexesForgotten s (s.evict k) := by
  unfold State.evict
  split
  · exact indexesForgotten.of_slots rfl
  next m least =>
    split
    · exact indexesForgotten.of_slots rfl
    next f victim =>
      refine ((s.putEntry m none).forgetIndex_forgotten m).trans (indexesForgotten.of_slots ?_)
      have kept : keepsBut [.nvm, .notices] ((s.putEntry m none).forgetIndex m)
          ((((s.putEntry m none).forgetIndex m).queueEntry m).raise .history .none
            (.history m f.serial f.depletedMark f.refillMark k)) := by simp
      exact kept.2.2 .slots (by decide)

/-! ### Marks -/

/-- R117: an entry with marks added. -/
def HistoryEntry.marked (e : HistoryEntry) (depleted refill : Bool) : HistoryEntry :=
  { e with depletedMark := e.depletedMark || depleted, refillMark := e.refillMark || refill }

theorem State.addMarks_entry {s : State} {n : EntryNo} {e : HistoryEntry} (held : s.entry n = some e) (a b : Bool) :
    (s.addMarks n a b).entry n = some (e.marked a b) := by
  simp only [State.addMarks, held]
  exact State.putEntry_same _ n _

theorem State.addMarks_forgotten (s : State) (n : EntryNo) (a b : Bool) : indexesForgotten s (s.addMarks n a b) := by
  unfold State.addMarks
  split
  · exact indexesForgotten.of_slots rfl
  next e held =>
    dsimp only
    split
    · exact (s.evict_forgotten _).trans (indexesForgotten.of_slots rfl)
    · exact indexesForgotten.of_slots rfl

/-! ### Lookup -/

theorem History.lookup_serial {h : History} {serial : Serial} {n : EntryNo} (hit : h.lookup serial = some n) :
    ∃ e, h.entries[n] = some e ∧ e.serial = serial := by
  have found := List.find?_some hit
  split at found
  · cases found
  next e held => exact ⟨e, held, of_decide_eq_true found⟩

/-- R118: the entry found for a serial, or the one inserted for it. -/
theorem State.findOrInsert_entry (s : State) {serial : Serial} {fresh : HistoryEntry} (own : fresh.serial = serial) :
    ∃ e, (s.findOrInsert serial fresh).1.entry (s.findOrInsert serial fresh).2 = some e ∧ e.serial = serial ∧
      ((s.history.lookup serial).bind s.entry = some e ∨
        (s.history.lookup serial).bind s.entry = none ∧ ∃ k, e = { fresh with stamp := k }) := by
  unfold State.findOrInsert
  split
  next n hit =>
    obtain ⟨e, held, serialOf⟩ := History.lookup_serial hit
    exact ⟨e, held, serialOf, .inl (by rw [hit]; exact held)⟩
  next miss =>
    obtain ⟨k, held⟩ := s.insertEntry_entry fresh
    exact ⟨_, held, own, .inr ⟨by rw [miss]; rfl, k, rfl⟩⟩

theorem State.findOrInsert_forgotten (s : State) (serial : Serial) (fresh : HistoryEntry) :
    indexesForgotten s (s.findOrInsert serial fresh).1 := by
  unfold State.findOrInsert
  split
  · exact indexesForgotten.of_slots rfl
  · exact s.insertEntry_forgotten fresh

/-! ### Updates (R118) -/

theorem State.closeUpdate_slot (s : State) (i : SlotNo) (n : EntryNo) :
    (s.closeUpdate i n).slot i = { s.slot i with historyIndex := some n } := by
  have kept : keepsBut [.nvm] (s.putSlot i { s.slot i with historyIndex := some n }) (s.closeUpdate i n) := by
    simp [State.closeUpdate]
  exact (State.slot_of_slots (kept.2.2 .slots (by decide)) i).trans (State.putSlot_same s i _)

theorem State.closeUpdate_otherSlots (s : State) (i : SlotNo) (n : EntryNo) : otherSlots i s (s.closeUpdate i n) := by
  have kept : keepsBut [.nvm] (s.putSlot i { s.slot i with historyIndex := some n }) (s.closeUpdate i n) := by
    simp [State.closeUpdate]
  exact (s.putSlot_otherSlots i _).trans (otherSlots.of_slots (kept.2.2 .slots (by decide)))

theorem State.closeUpdate_entry (s : State) (i : SlotNo) (n m : EntryNo) : (s.closeUpdate i n).entry m = s.entry m := by
  have kept : keepsBut [.slots, .nvm] s (s.closeUpdate i n) := by simp [State.closeUpdate]
  exact State.entry_of_history (kept.2.2 .history (by decide)) m

/-- What an update does to the entry it is for; of the slots it makes history indexes absent alone. -/
structure Updates (update : State → EntryNo → State) (f : HistoryEntry → HistoryEntry) : Prop where
  entry : ∀ {t : State} {n : EntryNo} {e : HistoryEntry}, t.entry n = some e → (update t n).entry n = some (f e)
  slots : ∀ (t : State) (n : EntryNo), indexesForgotten t (update t n)

section
variable {s : State} {i : SlotNo} {serial : Serial} (own : (s.slot i).serial = some serial)
  {update : State → EntryNo → State} {f : HistoryEntry → HistoryEntry} (updates : Updates update f)
include own updates

/-- R118: after an update the slot's index names the entry for its serial, updated. -/
theorem State.historyUpdate_entry :
    ∃ n e k,
      ((s.historyUpdate i update).slot i).historyIndex = some n ∧
        (s.historyUpdate i update).entry n = some { f e with stamp := k } ∧ e.serial = serial := by
  obtain ⟨e, held, serialOf, -⟩ := s.findOrInsert_entry (serial := serial) (fresh := (s.slot i).historyEntry serial) rfl
  obtain ⟨k, moved⟩ := State.moveEntry_entryStays _ (s.findOrInsert serial ((s.slot i).historyEntry serial)).2 _ _
    (updates.entry held)
  have shape : s.historyUpdate i update =
      ((update (s.findOrInsert serial ((s.slot i).historyEntry serial)).1
        (s.findOrInsert serial ((s.slot i).historyEntry serial)).2).moveEntry
          (s.findOrInsert serial ((s.slot i).historyEntry serial)).2).closeUpdate i
            (s.findOrInsert serial ((s.slot i).historyEntry serial)).2 := by
    simp only [State.historyUpdate, own]
  refine ⟨(s.findOrInsert serial ((s.slot i).historyEntry serial)).2, e, k, ?_, ?_, serialOf⟩
  · rw [shape, State.closeUpdate_slot]
  · rw [shape, State.closeUpdate_entry]
    exact moved

end

/-- The state before a history update's end is told of: its slots but for history indexes. -/
theorem State.historyUpdate_slots (s : State) (i : SlotNo) {update : State → EntryNo → State}
    {f : HistoryEntry → HistoryEntry} (updates : Updates update f) :
    (s.historyUpdate i update).slot i =
        { s.slot i with historyIndex := ((s.historyUpdate i update).slot i).historyIndex } ∧
      ∀ j : SlotNo, j ≠ i →
        (s.historyUpdate i update).slot j = s.slot j ∨
          (s.historyUpdate i update).slot j = { s.slot j with historyIndex := none } := by
  unfold State.historyUpdate
  split
  · exact ⟨rfl, fun j _ => .inl rfl⟩
  next serial own =>
    dsimp only
    have found := s.findOrInsert_forgotten serial ((s.slot i).historyEntry serial)
    generalize s.findOrInsert serial ((s.slot i).historyEntry serial) = p at found ⊢
    have forgotten := (found.trans (updates.slots p.1 p.2)).trans
      (indexesForgotten.of_slots (State.moveEntry_slots _ p.2))
    generalize (update p.1 p.2).moveEntry p.2 = u at forgotten ⊢
    refine ⟨?_, fun j other => ?_⟩
    · rw [State.closeUpdate_slot]
      rcases forgotten i with same | none
      · rw [same]
      · rw [none]
    · rw [State.closeUpdate_otherSlots u i p.2 j other]
      exact forgotten j

theorem Updates.addMarks (a b : Bool) : Updates (fun t n => t.addMarks n a b) fun e => e.marked a b :=
  ⟨fun held => State.addMarks_entry held a b, fun t n => t.addMarks_forgotten n a b⟩

/-- R127: an entry with a checkpoint's values confirmed. -/
def HistoryEntry.confirmedBy (e : HistoryEntry) (v : CheckpointValues) : HistoryEntry :=
  { e with confirmed := v.remaining, writeCount := v.writeCount }.marked v.mark false

theorem Updates.confirmEntry (v : CheckpointValues) :
    Updates (fun t n => t.confirmEntry n v) fun e => e.confirmedBy v := by
  refine ⟨fun held => ?_, fun t n => ?_⟩
  · simp only [State.confirmEntry, held]
    exact State.addMarks_entry (State.putEntry_same _ _ _) v.mark false
  · simp only [State.confirmEntry]
    split
    · exact indexesForgotten.of_slots rfl
    · exact State.addMarks_forgotten (t.putEntry n _) n v.mark false

end Sys2Proof.Machine

/-!
PROOFS. The end of the turnaround: what the hand-on of a transaction's end leaves of the slot, its line and the rest
before the line takes its next pending entry (R103, R106, R108, R109).
-/

namespace Sys2Proof.Machine

open Sys2Proof

/-! ### A move into a state that compares no watch -/

/-- What is told of a move holds of every later state that keeps what it speaks of. -/
theorem slotMoves.later {s t v : State} {i : SlotNo} {x : Slot} {d : Details} {bs : List Block} (h : slotMoves s t i x d)
    (kept : keepsBut bs t v)
    (untold : [Block.settings, .routes, .trace, .pins, .notices].all (fun b => decide (b ∉ bs)) = true) :
    slotMoves s v i x d := by
  simp only [List.all_cons, List.all_nil, Bool.and_true, Bool.and_eq_true, decide_eq_true_eq] at untold
  obtain ⟨settings, routes, trace, pins, notices⟩ := untold
  obtain ⟨⟨isRoutes, isTrace, isPins⟩, isNotices, raised, listed, were⟩ := h
  have same : v.notices = t.notices := kept.2.2 .notices notices
  have mask : v.settings = t.settings := kept.2.2 .settings settings
  refine ⟨⟨(kept.2.2 .routes routes).trans isRoutes, (kept.2.2 .trace trace).trans isTrace,
    (kept.2.2 .pins pins).trans isPins⟩, same.trans isNotices, raised, listed, ?_⟩
  rw [same, mask]
  exact were

/-- R26: the state in which a slot has taken its new record and its line has lost a pending checkpoint that no longer
stands, before the SLOT notice. -/
def State.entering (u : State) (i : SlotNo) (x : Slot) : State :=
  if (u.slot i).state.supplies && !x.state.supplies then (u.putSlot i x).dropCheckpoint i else u.putSlot i x

theorem State.entering_keeps (u : State) (i : SlotNo) (x : Slot) : keepsBut [.lines] (u.putSlot i x) (u.entering i x) := by
  simp only [State.entering]
  split <;> simp

theorem State.entering_otherLines (u : State) (i : SlotNo) (x : Slot) : otherLines i u (u.entering i x) := by
  simp only [State.entering]
  split
  · exact (u.putSlot i x).putLine_otherLines i _
  · exact fun _ _ => rfl

theorem State.entering_line (u : State) (i : SlotNo) (x : Slot) :
    (u.entering i x).line i =
      { u.line i with
        pendCheckpoint := !((u.slot i).state.supplies && !x.state.supplies) && (u.line i).pendCheckpoint } := by
  simp only [State.entering]
  split
  next drops =>
    rw [drops]
    exact State.putLine_same (u.putSlot i x) i _
  next stays =>
    rw [Bool.eq_false_iff.mpr stays]
    rfl

theorem State.fit_of_slot {s t : State} {i : SlotNo} (settings : t.settings = s.settings)
    (fit : ∀ ink, (t.slot i).fitFor ink = (s.slot i).fitFor ink) (c : Channel) : t.fit i c = s.fit i c := by
  simp only [State.fit, State.routeCfg, settings, fit]

theorem State.drawable_of_slot {s t : State} {i : SlotNo} (settings : t.settings = s.settings)
    (drawable : ∀ ink full, (t.slot i).drawableFor ink full = (s.slot i).drawableFor ink full) (c : Channel) :
    t.drawable i c = s.drawable i c := by
  simp only [State.drawable, State.routeCfg, State.policy, settings, drawable]

section
variable {b u : State} {i : SlotNo} {new x : Slot} {k : Option (TransKind × FailKind)} {d : Details}
  (left : new.leaveChallenge = x) (unwatched : x.state.watched = false)
  (kept : keepsBut [.lines] (b.putSlot i x) (u.putSlot i x))
  (fit : ∀ ink, (u.slot i).fitFor ink = (b.slot i).fitFor ink)
  (drawable : ∀ ink full, (u.slot i).drawableFor ink full = (b.slot i).drawableFor ink full)
  (details : slotDetails (u.slot i) x k = d)
include left unwatched kept fit drawable details

/-- R10, R12: a move into a state that compares no watch is the new record, its SLOT notice and the hand-on, told from a
state whose slot is fit and drawable alike. -/
theorem State.moveSlot_eq : u.moveSlot i new k = ((u.entering i x).raise .slot (.slot i) d).judgeFitness b i := by
  have changed : u.changeSlot i new k = ((u.entering i x).raise .slot (.slot i) d).judgeFitness u i := by
    rw [State.changeSlot, left, details]
    rfl
  have slots : (u.changeSlot i new k).slots = (u.putSlot i x).slots := by
    rw [changed, State.judgeFitness_slots]
    exact (u.entering_keeps i x).2.2 .slots (by decide)
  have settings : u.settings = b.settings := kept.2.2 .settings (by decide)
  have quiet : u.moveSlot i new k = u.changeSlot i new k := by
    refine State.compareWatches_unwatched ?_
    rw [State.slot_of_slots slots, State.putSlot_same]
    exact unwatched
  rw [quiet, changed]
  exact State.judgeFitness_before (State.fit_of_slot settings fit) (State.drawable_of_slot settings drawable) _

theorem State.moveSlot_tells :
    let t := u.moveSlot i new k
    slotMoves b t i x d ∧ t.slot i = x ∧ otherSlots i b t ∧ otherLines i u t ∧
      t.line i =
        { u.line i with
          pendCheckpoint := !((u.slot i).state.supplies && !x.state.supplies) && (u.line i).pendCheckpoint } ∧
      keepsBut [.routes, .pins, .trace, .notices] (u.entering i x) t := by
  intro t
  obtain ⟨moves, slots, after⟩ := State.handsOn_slotMoves (kept.trans (u.entering_keeps i x)) (by decide) (d := d)
  have shape : t = ((u.entering i x).raise .slot (.slot i) d).judgeFitness b i :=
    State.moveSlot_eq left unwatched kept fit drawable details
  rw [← shape] at moves slots after
  have lines (j : SlotNo) := State.line_of_lines (after.2.2 .lines (by decide)) j
  exact ⟨moves, (State.slot_of_slots slots i).trans (State.putSlot_same b i x),
    (b.putSlot_otherSlots i x).trans (otherSlots.of_slots slots),
    fun j other => (lines j).trans (u.entering_otherLines i x j other), (lines i).trans (u.entering_line i x), after⟩

end

/-! ### The line set free -/

/-- R105: the line IDLE, before it takes its next pending entry. -/
def State.freed (s : State) (i : SlotNo) : State := s.putLine i { s.line i with state := .idle, timer := none }

theorem State.lineFree_eq (s : State) (i : SlotNo) : s.lineFree i = (s.freed i).takePending i := rfl

/-- R103: the line with the transaction that ended taken off it. -/
def LineCtl.ended (l : LineCtl) : LineCtl := { l with state := .idle, timer := none, trans := none }

theorem State.freed_line (s : State) (i : SlotNo) :
    (s.freed i).line i = { s.line i with state := .idle, timer := none } :=
  State.putLine_same s i _

theorem State.freed_otherLines (s : State) (i : SlotNo) : otherLines i s (s.freed i) := s.putLine_otherLines i _

theorem State.freed_keeps (s : State) (i : SlotNo) : keepsBut [.lines] s (s.freed i) := by
  simp [State.freed]

/-- A slot's record and its line stand in different blocks. -/
theorem State.putLine_putSlot_keeps (e : State) (i : SlotNo) (l : LineCtl) (x : Slot) :
    keepsBut [.lines] (e.putSlot i x) ((e.putLine i l).putSlot i x) := by
  have swapped : (e.putLine i l).putSlot i x = (e.putSlot i x).putLine i l := rfl
  rw [swapped]
  simp

section
variable (e : State) (i : SlotNo) (l : LineCtl)

/-- R4, R79: MUTE. -/
theorem State.goMute_freed (kind : TransKind) (k : FailKind) (supplies : (e.slot i).state.supplies = false) :
    let v := ((e.putLine i l).goMute i kind k).freed i
    let x := { e.slot i with state := .mute, nonce := none, tag := none }
    keepsBut [.slots, .lines, .routes, .trace, .pins, .notices] e v ∧ otherSlots i e v ∧ otherLines i e v ∧
      v.slot i = x ∧ v.line i = { l with state := .idle, timer := none } ∧
      slotMoves e v i x (.slot .mute (e.slot i).state (e.slot i).tenure none (some (kind, k))) := by
  intro v x
  have same : (e.putLine i l).slot i = e.slot i := rfl
  obtain ⟨moves, record, others, lines, line, kept⟩ := State.moveSlot_tells (b := e) (u := e.putLine i l) (i := i)
    (new := { e.slot i with state := .mute }) (x := x) (k := some (kind, k))
    (d := .slot .mute (e.slot i).state (e.slot i).tenure none (some (kind, k))) rfl rfl
    (State.putLine_putSlot_keeps e i l x) (fun _ => rfl) (fun _ _ => rfl) rfl
  have shape : v = ((e.putLine i l).moveSlot i { e.slot i with state := .mute } (some (kind, k))).freed i := rfl
  have whole : keepsBut [.slots, .lines, .routes, .trace, .pins, .notices] e v := by
    rw [shape]
    simp [State.freed]
  rw [State.putLine_same, same, supplies] at line
  generalize (e.putLine i l).moveSlot i { e.slot i with state := .mute } (some (kind, k)) = t at *
  have free := t.freed_keeps i
  rw [shape]
  rw [shape] at whole
  refine ⟨whole, others.trans (otherSlots.of_slots (free.2.2 .slots (by decide))),
    ((e.putLine_otherLines i l).trans lines).trans (t.freed_otherLines i),
    (State.slot_of_slots (free.2.2 .slots (by decide)) i).trans record, ?_, moves.later free (by decide)⟩
  rw [State.freed_line, line]
  rfl

/-- R4, R77: a probe that completes. -/
theorem State.probeGood_freed (ident : Ident) (fill : Fill) (supplies : (e.slot i).state.supplies = false) :
    let v := ((e.putLine i l).probeGood i ident fill).freed i
    let x := (e.slot i).identified ident fill
    keepsBut [.slots, .lines, .digest, .routes, .trace, .pins, .notices] e v ∧ otherSlots i e v ∧ otherLines i e v ∧
      v.slot i = x ∧ v.line i = { l with state := .idle, timer := none } ∧
      slotMoves e v i x (.slot .authenticating (e.slot i).state (e.slot i).tenure none none) ∧
      v.digest =
        e.digest.request e.nvm.identity.key e.nvm.rootKeyGood (slotRequester i)
          { kind := .derive, tenure := (e.slot i).tenure, message := u64 ident.serial ++ u8 ident.ink
            slotKey := none } := by
  intro v x
  have same : (e.putLine i l).slot i = e.slot i := rfl
  obtain ⟨moves, record, others, lines, line, kept⟩ := State.moveSlot_tells (b := e) (u := e.putLine i l) (i := i)
    (new := x) (x := x) (k := none)
    (d := .slot .authenticating (e.slot i).state (e.slot i).tenure none none) rfl rfl
    (State.putLine_putSlot_keeps e i l x) (fun _ => rfl) (fun _ _ => rfl) rfl
  have moved : keepsBut [.slots, .lines, .routes, .pins, .trace, .notices] e ((e.putLine i l).moveSlot i x none) := by
    simp
  obtain ⟨q, isRequest⟩ : ∃ q : DigestRequest,
      q = { kind := .derive, tenure := (e.slot i).tenure, message := deriveMessage ident.serial ident.ink, slotKey := none } :=
    ⟨_, rfl⟩
  have shape : v = (((e.putLine i l).moveSlot i x none).digestRequest (slotRequester i) q).freed i := by
    rw [isRequest]
    rfl
  rw [State.putLine_same, same, supplies] at line
  generalize (e.putLine i l).moveSlot i x none = t at *
  have free := (t.digestRequest (slotRequester i) q).freed_keeps i
  have asked : keepsBut [.digest] t (t.digestRequest (slotRequester i) q) := by simp
  have after : keepsBut [.lines, .digest] t v := shape ▸ (asked.mono (by simp)).trans (free.mono (by simp))
  refine ⟨(moved.mono (by simp)).trans (after.mono (by simp)),
    others.trans (otherSlots.of_slots (after.2.2 .slots (by decide))), ?_,
    (State.slot_of_slots (after.2.2 .slots (by decide)) i).trans record, ?_, moves.later after (by decide), ?_⟩
  · rw [shape]
    exact ((e.putLine_otherLines i l).trans lines).trans (State.freed_otherLines _ i)
  · rw [shape, State.freed_line]
    exact congrArg (fun k : LineCtl => { k with state := .idle, timer := none }) line
  · have nvm : t.nvm = e.nvm := moved.2.2 .nvm (by decide)
    have digest : t.digest = e.digest := moved.2.2 .digest (by decide)
    rw [shape, ← nvm, ← digest, isRequest]
    rfl

/-- R79: a good TAG. -/
theorem State.tagReceived_freed (tag : Tag) :
    let v := ((e.putLine i l).tagReceived i tag).freed i
    let x := e.slot i
    keepsBut [.slots, .lines, .digest] e v ∧ otherSlots i e v ∧ otherLines i e v ∧
      v.slot i = { x with tag := some tag } ∧ v.line i = { l with state := .idle, timer := none } ∧
      v.digest =
        e.digest.request e.nvm.identity.key e.nvm.rootKeyGood (slotRequester i)
          { kind := .expect, tenure := x.tenure
            message := u64 (x.nonce.getD 0) ++ u64 (x.serial.getD 0) ++ (x.reported.getD ⟨0, 0, false⟩).bytes
            slotKey := some ((x.derivedKey.map DerivedKey.key).getD 0) } := by
  intro v x
  have whole : keepsBut [.slots, .lines, .digest] e v := by simp [v, State.freed, State.tagReceived]
  have record : v.slot i = { x with tag := some tag } := State.putSlot_same e i _
  have others : otherSlots i e v := e.putSlot_otherSlots i { x with tag := some tag }
  refine ⟨whole, others, (e.putLine_otherLines i l).trans (State.freed_otherLines _ i), record, ?_, rfl⟩
  have line : ((e.putLine i l).tagReceived i tag).line i = l := State.putLine_same e i l
  rw [← line]
  exact State.freed_line _ i

end

end Sys2Proof.Machine

/-!
PROOFS. The end of a checkpoint, accepted, refused or failed (R108, R109, R127).
-/

namespace Sys2Proof.Machine

open Sys2Proof

theorem State.putLine_self (s : State) (i : SlotNo) : s.putLine i (s.line i) = s := by
  simp [State.putLine, State.line]

/-- R23, R24: a checkpoint that becomes due on a line in QUIET waits. -/
theorem State.placeCheckpoint_if_quiet {s : State} {i : SlotNo} (quiet : (s.line i).state = .quiet) (due : Bool) :
    (if due then s.placeCheckpoint i else s) =
      s.putLine i { s.line i with pendCheckpoint := (s.line i).pendCheckpoint || due } := by
  cases due with
  | true =>
    rw [if_pos rfl, State.placeCheckpoint_busy (by rw [quiet]; simp), Bool.or_true]
  | false =>
    rw [if_neg (by simp), Bool.or_false]
    exact (s.putLine_self i).symm

section
variable (e : State) (i : SlotNo) (l : LineCtl) (sent : CheckpointValues)

/-- R108, R127: the record and the entry confirmed. -/
def State.confirming : State := ((e.putLine i l).putSlot i ((e.slot i).confirm sent)).confirmHistory i sent

theorem State.confirming_slot :
    (e.confirming i l sent).slot i =
      { (e.slot i).confirm sent with historyIndex := ((e.confirming i l sent).slot i).historyIndex } := by
  have record := (State.historyUpdate_slots ((e.putLine i l).putSlot i ((e.slot i).confirm sent)) i
    (Updates.confirmEntry sent)).1
  rw [State.putSlot_same] at record
  exact record

theorem State.confirming_keeps : keepsBut [.slots, .lines, .history, .nvm, .notices] e (e.confirming i l sent) := by
  simp [State.confirming]

theorem State.confirming_lines : (e.confirming i l sent).lines = (e.putLine i l).lines := by
  have kept : keepsBut [.slots, .history, .nvm, .notices] (e.putLine i l) (e.confirming i l sent) := by
    simp [State.confirming]
  exact kept.2.2 .lines (by decide)

theorem State.confirming_entry {serial : Serial} (own : (e.slot i).serial = some serial) :
    ∃ n f,
      ((e.confirming i l sent).slot i).historyIndex = some n ∧ (e.confirming i l sent).entry n = some f ∧
        f.serial = serial ∧ f.confirmed = sent.remaining ∧ f.writeCount = sent.writeCount ∧
        (sent.mark = true → f.depletedMark = true) := by
  obtain ⟨n, f, k, index, held, isSerial⟩ :=
    State.historyUpdate_entry (s := (e.putLine i l).putSlot i ((e.slot i).confirm sent)) (i := i)
      (by rw [State.putSlot_same]; exact own) (Updates.confirmEntry sent)
  exact ⟨n, _, index, held, isSerial, rfl, rfl, fun mark => by simp [HistoryEntry.confirmedBy, HistoryEntry.marked, mark]⟩

/-- R108: a checkpoint accepted. -/
theorem State.checkpointAccepted_freed (quiet : l.state = .quiet) :
    let v := ((e.putLine i l).checkpointAccepted i sent).freed i
    let x := e.slot i
    let drawn := x.drawn - (x.writtenRemaining.getD 0 - sent.remaining)
    keepsBut [.slots, .history, .nvm, .notices, .lines] e v ∧ otherLines i e v ∧
      v.slot i =
        { x with
          writtenRemaining := some sent.remaining, writeCount := some sent.writeCount, drawn := drawn
          writeFailures := 0, historyIndex := (v.slot i).historyIndex } ∧
      (∀ serial, x.serial = some serial →
        ∃ n f,
          (v.slot i).historyIndex = some n ∧ v.entry n = some f ∧ f.serial = serial ∧ f.confirmed = sent.remaining ∧
            f.writeCount = sent.writeCount ∧ (sent.mark = true → f.depletedMark = true)) ∧
      v.line i =
        { l with
          state := .idle, timer := none
          pendCheckpoint := l.pendCheckpoint || (x.state.supplies && decide (e.policy.checkpointStep ≤ drawn)) } := by
  intro v x drawn
  have record := e.confirming_slot i l sent
  have kept := e.confirming_keeps i l sent
  have lines (j : SlotNo) := State.line_of_lines (e.confirming_lines i l sent) j
  have entry {serial : Serial} := e.confirming_entry i l sent (serial := serial)
  have own : (e.confirming i l sent).line i = l := (lines i).trans (State.putLine_same e i l)
  have policy : (e.confirming i l sent).policy = e.policy := congrArg Settings.policy (kept.2.2 .settings (by decide) :)
  have state : ((e.confirming i l sent).slot i).state = x.state := by rw [record]; rfl
  have left : ((e.confirming i l sent).slot i).drawn = drawn := by rw [record]; rfl
  have shape : v =
      ((e.confirming i l sent).putLine i
        { l with
          pendCheckpoint := l.pendCheckpoint || (x.state.supplies && decide (e.policy.checkpointStep ≤ drawn)) }).freed i := by
    have placed := State.placeCheckpoint_if_quiet (s := e.confirming i l sent) (i := i) (by rw [own]; exact quiet)
      (((e.confirming i l sent).slot i).state.supplies &&
        decide ((e.confirming i l sent).policy.checkpointStep ≤ ((e.confirming i l sent).slot i).drawn))
    rw [own, state, left, policy] at placed
    rw [← placed, ← state, ← left, ← policy]
    rfl
  generalize e.confirming i l sent = t at *
  have free (k : LineCtl) : keepsBut [.lines] t ((t.putLine i k).freed i) := by simp [State.freed]
  rw [shape]
  refine ⟨(kept.mono (by simp)).trans ((free _).mono (by simp)), fun j other => ?_, record, fun serial is => entry is, ?_⟩
  · exact ((t.putLine_otherLines i _).trans (State.freed_otherLines _ i) j other).trans
      ((lines j).trans (e.putLine_otherLines i l j other))
  · rw [State.freed_line, State.putLine_same]

/-- R109: a slot's record with one more failed write. -/
def Slot.writeFailed (x : Slot) : Slot := { x with writeFailures := min 3 (x.writeFailures + 1) }

/-- R109: a checkpoint refused or failed. -/
theorem State.checkpointFailed_freed (result : CheckpointResult) (quiet : l.state = .quiet) :
    let v := ((e.putLine i l).checkpointFailed i sent result).freed i
    let x := e.slot i
    let failures := min 3 (x.writeFailures + 1)
    let faulted := x.state.supplies && decide (2 ≤ x.writeFailures)
    let counted := e.raise .checkpoint (.slot i) (.checkpoint sent result failures)
    keepsBut [.slots, .lines, .routes, .trace, .pins, .notices] e v ∧ otherSlots i e v ∧ otherLines i e v ∧
      (if faulted then slotMoves counted v i (v.slot i) (.slot .fault x.state x.tenure none none)
      else sameRouting e v ∧ v.notices = counted.notices) ∧
      v.slot i =
        (if faulted then { x with state := .fault, writeFailures := failures, nonce := none, tag := none }
        else { x with writeFailures := failures }) ∧
      v.line i =
        { l with
          state := .idle, timer := none
          pendCheckpoint := !faulted && (l.pendCheckpoint || x.state.supplies) } := by
  intro v x failures faulted counted
  obtain ⟨w, isFailed⟩ : ∃ w, w = ((e.putLine i l).putSlot i x.writeFailed).raise .checkpoint (.slot i)
    (.checkpoint sent result failures) := ⟨_, rfl⟩
  have slot : w.slot i = x.writeFailed := by rw [isFailed]; exact State.putSlot_same _ i _
  have line : w.line i = l := by rw [isFailed]; exact State.putLine_same e i l
  have shape : v =
      (if x.state.supplies then
        if x.writeFailed.writeFailures = 3 then w.moveSlot i { x.writeFailed with state := .fault } none
        else w.placeCheckpoint i
      else w).freed i := by
    rw [isFailed]
    rfl
  have full : x.writeFailed.writeFailures = 3 ↔ 2 ≤ x.writeFailures := by
    simp only [Slot.writeFailed]
    omega
  have others : otherSlots i e w := by
    rw [isFailed]
    exact e.putSlot_otherSlots i x.writeFailed
  have otherLine : otherLines i e w := by
    rw [isFailed]
    exact e.putLine_otherLines i l
  have kept : keepsBut [.slots, .lines, .notices] e w := by
    rw [isFailed]
    simp
  have told : w.notices = counted.notices := by rw [isFailed]; rfl
  cases isFaulted : faulted with
  | false =>
    have placed := State.placeCheckpoint_if_quiet (s := w) (i := i) (by rw [line]; exact quiet) x.state.supplies
    have shape : v = (w.putLine i { l with pendCheckpoint := l.pendCheckpoint || x.state.supplies }).freed i := by
      rw [line] at placed
      rw [shape, ← placed]
      cases supplies : x.state.supplies with
      | false => rfl
      | true =>
        have few : ¬x.writeFailed.writeFailures = 3 := by
          rw [full]
          simpa [faulted, supplies] using isFaulted
        rw [if_neg few]
    have free : keepsBut [.lines] w v := by
      rw [shape]
      simp [State.freed]
    refine ⟨(kept.mono (by simp)).trans (free.mono (by simp)),
      others.trans (otherSlots.of_slots (free.2.2 .slots (by decide))), ?_, ?_, ?_, ?_⟩
    · rw [shape]
      exact otherLine.trans ((w.putLine_otherLines i _).trans (State.freed_otherLines _ i))
    · rw [if_neg (by simp)]
      have routing := (kept.mono (bs := [.slots, .lines, .notices]) (by simp)).trans (free.mono (by simp))
      exact ⟨⟨routing.2.2 .routes (by decide), routing.2.2 .trace (by decide), routing.2.2 .pins (by decide)⟩,
        (free.2.2 .notices (by decide)).trans told⟩
    · rw [if_neg (by simp)]
      exact (State.slot_of_slots (free.2.2 .slots (by decide)) i).trans slot
    · rw [shape, State.freed_line, State.putLine_same]
      rfl
  | true =>
    obtain ⟨supplies, many⟩ : x.state.supplies = true ∧ 2 ≤ x.writeFailures := by simpa [faulted] using isFaulted
    have shape : v = (w.moveSlot i { x.writeFailed with state := .fault } none).freed i := by
      rw [shape, if_pos supplies, if_pos (full.mpr many)]
    have swapped : w.putSlot i { x with state := .fault, writeFailures := failures, nonce := none, tag := none } =
        (counted.putSlot i
          { x with state := .fault, writeFailures := failures, nonce := none, tag := none }).putLine i l := by
      rw [isFailed]
      simp [State.putSlot, State.putLine, State.raise, counted]
    obtain ⟨moves, record, apart, lines, left, after⟩ := State.moveSlot_tells (b := counted) (u := w) (i := i)
      (new := { x.writeFailed with state := .fault })
      (x := { x with state := .fault, writeFailures := failures, nonce := none, tag := none }) (k := none)
      (d := .slot .fault x.state x.tenure none none) rfl rfl (by rw [swapped]; simp)
      (fun _ => by rw [slot]; rfl) (fun _ _ => by rw [slot]; rfl) (by rw [slot]; rfl)
    have moved : keepsBut [.slots, .lines, .routes, .trace, .pins, .notices] w
        (w.moveSlot i { x.writeFailed with state := .fault } none) := by simp
    rw [line, slot] at left
    generalize w.moveSlot i { x.writeFailed with state := .fault } none = t at *
    have free := t.freed_keeps i
    have same := State.slot_of_slots (free.2.2 .slots (by decide)) i
    rw [shape]
    refine ⟨((kept.mono (by simp)).trans moved).trans (free.mono (by simp)),
      fun j other => (State.slot_of_slots (free.2.2 .slots (by decide)) j).trans (apart j other),
      (otherLine.trans lines).trans (t.freed_otherLines i), ?_, ?_, ?_⟩
    · rw [if_pos rfl, same, record]
      exact moves.later free (by decide)
    · rw [if_pos rfl, same, record]
    · rw [State.freed_line, left]
      have drops : (x.writeFailed.state.supplies && !SlotState.supplies .fault) = true := by
        have : x.writeFailed.state.supplies = true := supplies
        rw [this]
        rfl
      simp only [drops]
      rfl

end

end Sys2Proof.Machine

/-!
PROOFS. TURNAROUND_END (R103): a repeated attempt, the hand-on of a transaction's end, and the next pending entry.
-/

namespace Sys2Proof.Machine

open Sys2Proof

/-! ### The end of the turnaround -/

section
variable {s : State} {i : SlotNo}

theorem State.turnaroundEnds_aborted (quiet : (s.line i).state = .quiet) (none : (s.line i).trans = none) :
    s.turnaroundEnds i = ((s.reachLine i).freed i).takePending i := by
  have still : ((s.reachLine i).line i).trans = .none := by rw [State.reachLine_line, none]
  rw [State.turnaroundEnds, if_pos quiet]
  simp only [still]
  rfl

variable {t : Transaction}

theorem State.turnaroundEnds_retries (quiet : (s.line i).state = .quiet) (trans : (s.line i).trans = some t)
    {k : FailKind} (judged : t.judged = some (.failed k)) (first : t.attempt = 1) :
    s.turnaroundEnds i =
      (s.reachLine i).putLine i
        ((s.line i).sendBreak t.retry (s.reachLine i).policy.bitRate ((s.reachLine i).after breakTime)) := by
  have still : ((s.reachLine i).line i).trans = some t := by rw [State.reachLine_line, trans]
  rw [State.turnaroundEnds, if_pos quiet]
  simp only [still, judged]
  rw [if_pos first, State.reachLine_line]

/-- R103: the transaction's end handed on, and the line freed. -/
def State.handedOver (e : State) (i : SlotNo) (t : Transaction) (j : Judgement) : State :=
  ((e.putLine i { e.line i with trans := none }).handOn i t j (e.line i).received).freed i

theorem State.turnaroundEnds_handsOn (quiet : (s.line i).state = .quiet) (trans : (s.line i).trans = some t)
    {j : Judgement} (judged : t.judged = some j) (last : j = .good ∨ t.attempt ≠ 1) :
    s.turnaroundEnds i = ((s.reachLine i).handedOver i t j).takePending i := by
  have still : ((s.reachLine i).line i).trans = some t := by rw [State.reachLine_line, trans]
  rw [State.turnaroundEnds, if_pos quiet]
  simp only [still, judged]
  cases j with
  | good => rfl
  | failed k =>
    have again : t.attempt ≠ 1 := last.resolve_left (by simp)
    dsimp only
    rw [if_neg again]
    rfl

end

/-! ### What the hand-on does -/

/-- R106: the slot state in which a transaction of the probe or the challenge is waited for. -/
def TransKind.awaitedIn (kind : TransKind) : SlotState := if kind = .challenge then .authenticating else .probing

theorem State.takesEnd_iff {u : State} {i : SlotNo} {t : Transaction} {x : SlotState} :
    u.takesEnd i t x = true ↔ t.ignoreResult = false ∧ (u.slot i).state = x ∧ (u.slot i).tenure = t.tenure := by
  simp [State.takesEnd, and_assoc]

section
variable {u : State} {i : SlotNo} {t : Transaction} {j : Judgement} {reply : List Byte}

theorem State.handOn_identify (kind : t.kind = .identify) : u.handOn i t j reply = u.identifyEnds i t j reply := by
  rw [State.handOn, kind]

theorem State.handOn_readFill (kind : t.kind = .readFill) : u.handOn i t j reply = u.readFillEnds i t j reply := by
  rw [State.handOn, kind]

theorem State.handOn_challenge (kind : t.kind = .challenge) : u.handOn i t j reply = u.challengeEnds i t j reply := by
  rw [State.handOn, kind]

theorem State.readFillEnds_good {ident : Ident} (takes : u.takesEnd i t .probing = true)
    (held : (u.line i).probeHold = some ident) :
    u.readFillEnds i t .good reply = (u.putProbeHold i none).probeGood i ident (fillOf reply) := by
  rw [State.readFillEnds, if_pos takes]
  simp only [held]

theorem State.handOn_checkpoint (kind : t.kind = .checkpoint) : u.handOn i t j reply = u.checkpointEnds i t j reply := by
  rw [State.handOn, kind]

end

theorem State.handOn_refused {u : State} {i : SlotNo} {t : Transaction} (j : Judgement) (reply : List Byte)
    (kind : t.kind ≠ .checkpoint) (refused : u.takesEnd i t t.kind.awaitedIn = false) :
    u.handOn i t j reply = u.putProbeHold i none := by
  unfold State.handOn
  cases isKind : t.kind with
  | checkpoint => exact absurd isKind kind
  | identify =>
    rw [isKind] at refused
    exact if_neg (by simp [show u.takesEnd i t .probing = false from refused])
  | readFill =>
    rw [isKind] at refused
    exact if_neg (by simp [show u.takesEnd i t .probing = false from refused])
  | challenge =>
    rw [isKind] at refused
    exact if_neg (by simp [show u.takesEnd i t .authenticating = false from refused])

section
variable {e : State} {i : SlotNo} {t : Transaction}

theorem State.handedOver_refused (j : Judgement) (kind : t.kind ≠ .checkpoint)
    (refused : e.takesEnd i t t.kind.awaitedIn = false) :
    e.handedOver i t j = e.putLine i { (e.line i).ended with probeHold := none } := by
  rw [State.handedOver, State.handOn_refused (u := e.putLine i { e.line i with trans := none }) j _ kind refused]
  simp only [State.freed, State.putProbeHold, State.putLine_same, State.putLine_putLine]
  rfl

/-- R106: a good IDENTIFY is held, and READ FILL begins. -/
theorem State.handedOver_identified (kind : t.kind = .identify) (takes : e.takesEnd i t .probing = true)
    (quiet : (e.line i).state = .quiet) :
    (e.handedOver i t .good).takePending i =
      e.putLine i
        (LineCtl.sendRequest
          { (e.line i).ended with pendProbe := none, probeHold := some (identOf (e.line i).received) }
          (Transaction.start .readFill (e.slot i).tenure) e.policy.bitRate) := by
  let held : LineCtl := { e.line i with trans := none, probeHold := some (identOf (e.line i).received) }
  have handed : (e.putLine i { e.line i with trans := none }).handOn i t .good (e.line i).received =
      (e.putLine i held).placeProbe i .readFill := by
    unfold State.handOn
    rw [kind]
    refine (if_pos takes).trans ?_
    simp only [State.putProbeHold, State.putLine_same, State.putLine_putLine]
    rfl
  have waits : (e.putLine i held).placeProbe i .readFill = e.putLine i { held with pendProbe := some .readFill } := by
    rw [State.placeProbe_busy (by rw [State.putLine_same]; simp [held, quiet]), State.putLine_same,
      State.putLine_putLine]
  have freed : e.handedOver i t .good =
      e.putLine i { held with pendProbe := some .readFill, state := .idle, timer := none } := by
    rw [State.handedOver, handed, waits, State.freed, State.putLine_same, State.putLine_putLine]
  rw [freed, State.takePending_readFill (by rw [State.putLine_same]) (by rw [State.putLine_same]), State.putLine_same,
    State.putLine_putLine]
  rfl

/-- R106: a good READ FILL with the IDENTIFY held completes the probe. -/
theorem State.handedOver_probed {ident : Ident} (kind : t.kind = .readFill) (takes : e.takesEnd i t .probing = true)
    (held : (e.line i).probeHold = some ident) :
    e.handedOver i t .good =
      ((e.putLine i { e.line i with trans := none, probeHold := none }).probeGood i ident
        (fillOf (e.line i).received)).freed i := by
  have hold : ((e.putLine i { e.line i with trans := none }).putProbeHold i none) =
      e.putLine i { e.line i with trans := none, probeHold := none } := by
    simp only [State.putProbeHold, State.putLine_same, State.putLine_putLine]
  rw [State.handedOver, State.handOn_readFill kind,
    State.readFillEnds_good (u := e.putLine i { e.line i with trans := none }) takes
      ((congrArg LineCtl.probeHold (State.putLine_same e i _)).trans held), hold]

/-- R79, R106: a good CHALLENGE. -/
theorem State.handedOver_tagged (kind : t.kind = .challenge) (takes : e.takesEnd i t .authenticating = true) :
    e.handedOver i t .good =
      ((e.putLine i { e.line i with trans := none }).tagReceived i (tagOf (e.line i).received)).freed i := by
  have takes : (e.putLine i { e.line i with trans := none }).takesEnd i t .authenticating = true := takes
  rw [State.handedOver, State.handOn_challenge kind]
  exact congrArg (fun u : State => u.freed i) (if_pos takes)

/-- R79, R106: a probe or a challenge that failed twice. -/
theorem State.handedOver_muted (k : FailKind) (kind : t.kind ≠ .checkpoint)
    (takes : e.takesEnd i t t.kind.awaitedIn = true) :
    e.handedOver i t (.failed k) =
      ((e.putLine i
        { e.line i with
          trans := none
          probeHold := if t.kind = .challenge then (e.line i).probeHold else none }).goMute i t.kind k).freed i := by
  have held : ((e.putLine i { e.line i with trans := none }).putProbeHold i none) =
      e.putLine i { e.line i with trans := none, probeHold := none } := by
    simp only [State.putProbeHold, State.putLine_same, State.putLine_putLine]
  have takes : (e.putLine i { e.line i with trans := none }).takesEnd i t t.kind.awaitedIn = true := takes
  rw [State.handedOver]
  cases isKind : t.kind with
  | checkpoint => exact absurd isKind kind
  | identify =>
    rw [isKind] at takes
    rw [if_neg (by simp), ← held, State.handOn_identify isKind]
    exact congrArg (fun u : State => u.freed i) (if_pos takes)
  | readFill =>
    rw [isKind] at takes
    rw [if_neg (by simp), ← held, State.handOn_readFill isKind]
    exact congrArg (fun u : State => u.freed i) (if_pos takes)
  | challenge =>
    rw [isKind] at takes
    rw [if_pos rfl, State.handOn_challenge isKind]
    exact congrArg (fun u : State => u.freed i) (if_pos takes)

theorem State.handedOver_accepted (kind : t.kind = .checkpoint) (answer : byteAt (e.line i).received 2 = 0xA5#8) :
    e.handedOver i t .good =
      ((e.putLine i { e.line i with trans := none }).checkpointAccepted i t.values).freed i := by
  rw [State.handedOver, State.handOn, kind]
  simp only [State.checkpointEnds, accepted, answer]
  rfl

theorem State.handedOver_writeFailed {j : Judgement} {result : CheckpointResult} (kind : t.kind = .checkpoint)
    (answer : j = .good ∧ byteAt (e.line i).received 2 ≠ 0xA5#8 ∧ result = .refused ∨
      ∃ k, j = .failed k ∧ result = .failed k) :
    e.handedOver i t j =
      ((e.putLine i { e.line i with trans := none }).checkpointFailed i t.values result).freed i := by
  rw [State.handedOver, State.handOn, kind]
  rcases answer with ⟨rfl, refused, rfl⟩ | ⟨k, rfl, rfl⟩
  · simp only [State.checkpointEnds, accepted, refused]
    rfl
  · rfl

end

theorem exec_turnaroundEnd {s : State} {i : SlotNo} (on : s.powered = true) :
    exec (.turnaroundEnd i) s = .next (s.turnaroundEnds i) :=
  exec_on (f := fun s => s.turnaroundEnds i) rfl on rfl

/-- Settles O57: by the judgement and the attempt, then by the transaction's kind and whether its end is waited for. -/
theorem turnaroundHandsOnTheEnd : Obligations.TurnaroundHandsOnTheEnd := by
  refine ⟨fun s i on quiet => ?_, fun s i idle => ?_⟩
  · intro l x expired now idle
    have carried := exec_turnaroundEnd (i := i) on
    have line : expired.line i = l := s.reachLine_line i i
    obtain ⟨n, f, waited⟩ := s.reachLine_cases i
    have slot (j : SlotNo) : expired.slot j = s.slot j := (congrArg (fun u : State => u.slot j) waited :)
    have settings : expired.settings = s.settings := (congrArg State.settings waited :)
    have nvm : expired.nvm = s.nvm := (congrArg State.nvm waited :)
    have digest : expired.digest = s.digest := (congrArg State.digest waited :)
    have takes {t : Transaction} (kept : t.ignoreResult = false) (tenure : t.tenure = x.tenure) {y : SlotState}
        (state : x.state = y) : expired.takesEnd i t y = true :=
      State.takesEnd_iff.mpr ⟨kept, by rw [slot]; exact state, by rw [slot]; exact tenure.symm⟩
    have rate : expired.policy.bitRate = s.policy.bitRate := congrArg (fun x : Settings => x.policy.bitRate) settings
    have handsOn {t : Transaction} {j : Judgement} (trans : l.trans = some t) (judged : t.judged = some j)
        (last : j = .good ∨ t.attempt ≠ 1) :
        exec (.turnaroundEnd i) s = .next ((expired.handedOver i t j).takePending i) := by
      rw [carried, State.turnaroundEnds_handsOn quiet trans judged last]
    have slotsOf {v : State} (others : otherSlots i expired v) : otherSlots i s v :=
      fun j other => (others j other).trans (slot j)
    have linesOf {v : State} (others : otherLines i expired v) : otherLines i s v :=
      fun j other => (others j other).trans (s.reachLine_line i j)
    have routing : sameRouting s expired :=
      ⟨(congrArg State.routes waited :), (congrArg State.trace waited :), (congrArg State.pins waited :)⟩
    have policy : expired.policy = s.policy := congrArg Settings.policy settings
    have aborted (none : l.trans = none) :
        exec (.turnaroundEnd i) s = .next ((expired.freed i).takePending i) := by
      rw [carried, State.turnaroundEnds_aborted quiet none]
    have retries {t : Transaction} {k : FailKind} (trans : l.trans = some t) (judged : t.judged = some (.failed k))
        (first : t.attempt = 1) :
        exec (.turnaroundEnd i) s =
          .next (expired.putLine i (l.sendBreak t.retry expired.policy.bitRate (expired.after breakTime))) := by
      rw [carried, State.turnaroundEnds_retries quiet trans judged first]
    clear_value expired
    clear carried waited
    refine ⟨fun none => ?_, fun t trans => ⟨fun k judged first => ?_, fun ends kind refused => ?_,
      fun kept tenure => ⟨fun judged => ⟨fun kind state => ?_, fun ident kind state held => ?_, fun kind state => ?_⟩,
        fun k judged second awaited => ?_⟩, fun kind => ⟨fun judged answer => ?_, fun result answer => ?_⟩⟩⟩
    · have freed : expired.freed i = expired.putLine i idle := by
        rw [State.freed, line]
        exact congrArg (expired.putLine i) (by simp [idle, none])
      rw [aborted none, freed]
    · rw [retries trans judged first, policy]
      rfl
    · obtain ⟨j, judged, last⟩ : ∃ j, t.judged = some j ∧ (j = .good ∨ t.attempt ≠ 1) := by
        rcases ends with good | ⟨⟨k, failed⟩, second⟩
        · exact ⟨_, good, .inl rfl⟩
        · exact ⟨_, failed, .inr (by simp [second])⟩
      have refused : expired.takesEnd i t t.kind.awaitedIn = false := by
        rw [Bool.eq_false_iff, Ne, State.takesEnd_iff, slot]
        rintro ⟨heard, state, tenure⟩
        rcases refused with ignored | other | elsewhere
        · rw [heard] at ignored
          cases ignored
        · exact other tenure.symm
        · exact elsewhere state
      rw [handsOn trans judged last, State.handedOver_refused j kind refused, line]
      rfl
    · rw [handsOn trans judged (.inl rfl),
        State.handedOver_identified kind (takes kept tenure state) (by rw [line]; exact quiet), line, slot, policy]
      rfl
    · have shape := State.handedOver_probed kind (takes kept tenure state) (by rw [line]; exact held)
      have goes := expired.probeGood_freed i { l with trans := none, probeHold := none } ident (fillOf l.received)
        (by rw [slot, state]; rfl)
      rw [line] at shape
      simp only [← shape] at goes
      rw [slot, digest, nvm, state] at goes
      obtain ⟨kept, others, lines, record, own, moves, asked⟩ := goes
      exact ⟨_, handsOn trans judged (.inl rfl), kept, slotsOf others, linesOf lines, record, record ▸ moves, own, asked⟩
    · have shape := State.handedOver_tagged kind (takes kept tenure state)
      have goes := expired.tagReceived_freed i { l with trans := none } (tagOf l.received)
      rw [line] at shape
      simp only [← shape] at goes
      rw [slot, digest, nvm] at goes
      obtain ⟨kept, others, lines, record, own, asked⟩ := goes
      exact ⟨_, handsOn trans judged (.inl rfl), kept, slotsOf others, linesOf lines, record, own, asked⟩
    · have kind : t.kind ≠ .checkpoint := by
        rcases awaited with ⟨identify | readFill, -⟩ | ⟨challenge, -⟩ <;> simp [*]
      have state : x.state = t.kind.awaitedIn := by
        rcases awaited with ⟨identify | readFill, state⟩ | ⟨challenge, state⟩ <;>
          simp [TransKind.awaitedIn, *]
      have shape := State.handedOver_muted k kind (takes kept tenure state)
      have goes := expired.goMute_freed i
        { l with trans := none, probeHold := if t.kind = .challenge then l.probeHold else none } t.kind k (by
          rw [slot]
          exact (congrArg SlotState.supplies state).trans (by unfold TransKind.awaitedIn; split <;> rfl))
      rw [line] at shape
      simp only [← shape] at goes
      rw [slot] at goes
      obtain ⟨kept, others, lines, record, own, moves⟩ := goes
      exact ⟨_, handsOn trans judged (.inr (by simp [second])), kept, slotsOf others, linesOf lines, record, own,
        record ▸ moves⟩
    · have shape := State.handedOver_accepted (e := expired) kind (by rw [line]; exact answer)
      have goes := expired.checkpointAccepted_freed i { l with trans := none } t.values quiet
      rw [line] at shape
      simp only [← shape] at goes
      rw [slot, policy] at goes
      obtain ⟨kept, lines, record, entry, own⟩ := goes
      exact ⟨_, handsOn trans judged (.inl rfl), kept, linesOf lines, record, entry, own⟩
    · obtain ⟨j, judged, last, ended⟩ : ∃ j, t.judged = some j ∧ (j = .good ∨ t.attempt ≠ 1) ∧
          (j = .good ∧ byteAt l.received 2 ≠ 0xA5#8 ∧ result = .refused ∨ ∃ k, j = .failed k ∧ result = .failed k) := by
        rcases answer with ⟨good, refused, is⟩ | ⟨k, failed, second, is⟩
        · exact ⟨_, good, .inl rfl, .inl ⟨rfl, refused, is⟩⟩
        · exact ⟨_, failed, .inr (by simp [second]), .inr ⟨k, rfl, is⟩⟩
      have shape := State.handedOver_writeFailed (e := expired) (i := i) kind (by rw [line]; exact ended)
      have goes := expired.checkpointFailed_freed i { l with trans := none } t.values result quiet
      rw [line] at shape
      simp only [← shape] at goes
      rw [slot] at goes
      obtain ⟨kept, others, lines, moves, record, own⟩ := goes
      refine ⟨_, handsOn trans judged last, kept, slotsOf others, linesOf lines, ?_, record, own⟩
      split
      next faulted =>
        rw [if_pos faulted] at moves
        exact moves
      next stays =>
        rw [if_neg stays] at moves
        obtain ⟨⟨routes, trace, pins⟩, notices⟩ := moves
        exact ⟨⟨routes.trans routing.1, trace.trans routing.2.1, pins.trans routing.2.2⟩, notices⟩
  · intro l x starts
    exact ⟨State.takePending_identify idle, State.takePending_readFill idle,
      fun n => State.takePending_challenge idle, State.takePending_checkpoint idle, State.takePending_nothing idle⟩

end Sys2Proof.Machine

/-!
PROOFS. The access level: no command but DIGEST_PASS_COMPLETE raises it to SERVICE (R160).
-/

namespace Sys2Proof.Machine

open Sys2Proof

/-- SERVICE in t was SERVICE in s. -/
def levelKept (s t : State) : Prop := t.requests.access = .service → s.requests.access = .service

namespace levelKept

variable {s t u : State}

theorem refl (s : State) : levelKept s s := id

theorem trans (h : levelKept s t) (k : levelKept t u) : levelKept s u := fun service => h (k service)

/-- A change that leaves the Request Unit. -/
theorem of_keeps (k : keepsBut carriedBlocks s t) : levelKept s t := by
  have same : t.requests = s.requests := k.2.2 .requests (by decide)
  rw [levelKept, same]
  exact id

theorem of_operate (operate : t.requests.access = .operate) : levelKept s t := by
  rw [levelKept, operate]
  nofun

theorem ite {p : Prop} [Decidable p] (h : p → levelKept s t) (k : ¬p → levelKept s u) :
    levelKept s (if p then t else u) := by
  split
  · exact h ‹_›
  · exact k ‹_›

end levelKept

/-! ### Requests -/

/-- The answer of a request does not raise the level. -/
def LevelAnswer (s : State) (a : Answer) : Prop := levelKept s a.state

namespace LevelAnswer

variable {s t : State}

theorem refuse (o : ReplyOutcome) : LevelAnswer s (refuse s o) := .refl s

theorem same (contents : List Byte) : LevelAnswer s (Machine.done s contents) := .refl s

theorem done (k : keepsBut carriedBlocks s t) (contents : List Byte) : LevelAnswer s (done t contents) := .of_keeps k

theorem ite {p : Prop} [Decidable p] {a b : Answer} (h : LevelAnswer s a) (k : LevelAnswer s b) :
    LevelAnswer s (if p then a else b) := by
  split
  · exact h
  · exact k

theorem sized {fields : List Byte} {n : Nat} {a : Answer} (h : LevelAnswer s a) : LevelAnswer s (sized s fields n a) :=
  ite h (refuse _)

theorem needsService {a : Answer} (h : LevelAnswer s a) : LevelAnswer s (needsService s a) := by
  unfold Machine.needsService
  split
  · exact refuse _
  · exact h

theorem onSlot {fields : List Byte} {k : SlotNo → Answer} (h : ∀ i, LevelAnswer s (k i)) :
    LevelAnswer s (onSlot s fields k) := by
  unfold Machine.onSlot
  split
  · exact refuse _
  · exact h _

theorem onChannel {fields : List Byte} {k : Channel → Answer} (h : ∀ c, LevelAnswer s (k c)) :
    LevelAnswer s (onChannel s fields k) := by
  refine sized ?_
  split
  · exact refuse _
  · exact h _

variable (fields : List Byte) (s : State)

theorem readHistory : LevelAnswer s (readHistory fields s) := sized (ite (refuse _) (same _))

theorem clearHistoryEntry : LevelAnswer s (clearHistoryEntry fields s) := by
  refine sized (needsService ?_)
  split
  · exact refuse _
  · split
    · exact refuse _
    · exact done (by simp [carriedBlocks]) _

theorem holdChannel : LevelAnswer s (holdChannel fields s) := onChannel fun _ => done (by simp [carriedBlocks]) _

theorem releaseChannel : LevelAnswer s (releaseChannel fields s) := onChannel fun _ => done (by simp [carriedBlocks]) _

theorem setRoute : LevelAnswer s (setRoute fields s) := by
  refine sized ?_
  split
  · exact refuse _
  · exact done (by simp [carriedBlocks]) _

theorem clearTrace : LevelAnswer s (clearTrace fields s) := sized (done (by simp [carriedBlocks]) _)

theorem rescanSlot : LevelAnswer s (rescanSlot fields s) :=
  sized (onSlot fun _ => ite (refuse _) (done (by simp [carriedBlocks]) _))

theorem setWatch : LevelAnswer s (setWatch fields s) := by
  refine sized ?_
  split
  · exact refuse _
  · exact done (by simp [carriedBlocks]) _

theorem grantGrace : LevelAnswer s (grantGrace fields s) := by
  refine sized (needsService (onSlot fun i => ?_))
  dsimp only
  split
  · exact done (by simp [carriedBlocks]) _
  · exact done (by simp [carriedBlocks]) _
  · exact refuse _

theorem getUnlockNonce : LevelAnswer s (getUnlockNonce fields s) := sized (ite (refuse _) (levelKept.refl s))

/-- R160, R165: Lock Service ends at OPERATE. -/
theorem lockService : LevelAnswer s (lockService fields s) :=
  sized (levelKept.of_operate (congrArg RequestUnit.access s.endService_requests :))

theorem programRootKey : LevelAnswer s (programRootKey fields s) :=
  sized (ite (refuse _) (done (by simp [carriedBlocks]) _))

theorem loadVolumeTable : LevelAnswer s (loadVolumeTable fields s) := by
  refine sized ?_
  split
  · exact refuse _
  · exact ite (refuse _) (ite (refuse _) (ite (refuse _) (ite (refuse _) (done (by simp [carriedBlocks]) _))))

theorem selectVolumeBank : LevelAnswer s (selectVolumeBank fields s) := by
  refine sized ?_
  split
  · exact refuse _
  · exact done (by simp [carriedBlocks]) _

theorem loadTemperatureTable : LevelAnswer s (loadTemperatureTable fields s) :=
  sized (done (by simp [carriedBlocks]) _)

theorem resetWaste : LevelAnswer s (resetWaste fields s) := sized (needsService (done (by simp [carriedBlocks]) _))

theorem setPins : LevelAnswer s (setPins fields s) := by
  refine sized ?_
  split
  · exact refuse _
  · exact done (by simp [carriedBlocks]) _

theorem readPins : LevelAnswer s (readPins fields s) := sized (done (by simp [carriedBlocks]) _)

theorem saveSettings : LevelAnswer s (saveSettings fields s) := sized (done (by simp [carriedBlocks]) _)

theorem restart : LevelAnswer s (restart fields s) := by
  refine sized ?_
  split
  · exact done (by simp [carriedBlocks]) _
  · exact refuse _

theorem readStatus : LevelAnswer s (readStatus fields s) := sized (done (by simp [carriedBlocks]) _)

theorem setNoticeMask : LevelAnswer s (setNoticeMask fields s) := by
  refine sized ?_
  split
  · exact ite (refuse _) (done (by simp [carriedBlocks]) _)
  · exact refuse _

theorem setPolicy : LevelAnswer s (setPolicy fields s) := by
  refine sized (needsService ?_)
  split
  · exact refuse _
  · exact done (by simp [State.replacePolicy, carriedBlocks]) _

end LevelAnswer

namespace levelKept

variable {s t : State}

theorem whenPowered {f : State → State} (hf : levelKept s (f s)) (h : whenPowered s f = .next t) : levelKept s t := by
  unfold Machine.whenPowered at h
  cases h
  exact ite (fun _ => hf) fun _ => refl s

theorem requestArrives (s : State) (fields : List Byte) : levelKept s (s.requestArrives fields) :=
  of_keeps (by simp [carriedBlocks])

theorem takeRequest {tag code : Byte} {fields : List Byte} {k : State → Answer}
    (hk : ∀ u, LevelAnswer u (k u)) (h : Machine.whenPowered s (fun s => s.takeRequest tag code fields k) = .next t) :
    levelKept s t := by
  refine whenPowered (f := fun s => s.takeRequest tag code fields k) ((requestArrives s fields).trans ?_) h
  unfold State.takeRequest
  generalize s.requestArrives fields = u
  exact ite (fun _ => hk u) fun _ => refl u

theorem takeUnlockService (s : State) (tag : Byte) (fields : List Byte) :
    levelKept s (s.takeUnlockService tag fields) := by
  refine (requestArrives s fields).trans ?_
  unfold State.takeUnlockService
  generalize s.requestArrives fields = u
  refine ite (fun _ => ?_) fun _ => refl u
  refine ite (fun _ => refl u) fun _ => ?_
  split
  · exact refl u
  · exact refl u

/-- R192: start-up begins at OPERATE. -/
theorem startUp (s u : State) : levelKept s u.startUp := by
  refine of_operate ?_
  have kept := u.startUp_keeps
  have same : u.startUp.requests = u.coldStart.requests := kept.2.2 .requests (by decide)
  rw [same]
  rfl

theorem lockoutExpires (s : State) : levelKept s s.lockoutExpires := by
  unfold State.lockoutExpires
  split
  · exact refl s
  next e running =>
    have waited : levelKept s (s.reach e) := of_keeps (by simp [carriedBlocks])
    exact waited

theorem linkExpires (s : State) (arrived : List Byte) : levelKept s (s.linkExpires arrived) := by
  unfold State.linkExpires
  split
  · refine of_operate ?_
    rw [State.loseLink_requests]
    rfl
  · exact refl s

theorem finishGrant (s : State) : levelKept s s.finishGrant := by
  unfold State.finishGrant
  split <;> exact refl s

theorem returnEnds (s : State) : levelKept s s.returnEnds := by
  refine ite (fun _ => refl s) fun _ => ite (fun _ => startUp s _) fun _ => (finishGrant s).trans ?_
  exact of_keeps (by simp [carriedBlocks])

theorem writeCompletes (s : State) : levelKept s s.writeCompletes := by
  unfold State.writeCompletes
  split
  · exact refl s
  · refine ite (fun _ => ?_) fun _ => of_keeps (by simp [carriedBlocks])
    exact ite (fun _ => of_keeps (by simp [carriedBlocks])) fun _ =>
      ite (fun _ => of_keeps (by simp [carriedBlocks])) fun _ => startUp s _

theorem rawChanges (s : State) (p : Pin) (asserted : Bool) : levelKept s (s.rawChanges p asserted) :=
  ite (fun _ => refl s) fun _ =>
    ite (fun _ => of_keeps (by simp [carriedBlocks])) fun _ => of_keeps (by simp [carriedBlocks])

theorem filterExpires (s : State) (p : Pin) (arrived : List Byte) : levelKept s (s.filterExpires p arrived) := by
  unfold State.filterExpires
  split
  · exact refl s
  next timer running =>
    have waited : levelKept s (s.reach timer.expiry) := of_keeps (by simp [carriedBlocks])
    refine waited.trans ?_
    unfold State.filterChanges
    split
    · have settled (u : State) (f : Filter) : levelKept u (u.putFilter .powerFail f) :=
        of_keeps (by simp [carriedBlocks])
      refine (settled (s.reach timer.expiry) (((s.reach timer.expiry).filter .powerFail).settle .powerFail)).trans ?_
      unfold State.powerFailChanges
      refine ite (fun _ => ?_) fun _ => ?_
      · split
        · exact of_keeps (by simp [carriedBlocks])
        · exact refl _
      · split
        · exact startUp _ _
        · exact refl _
    · exact of_keeps (by simp [carriedBlocks])

end levelKept

/-- R160: SERVICE follows from OPERATE by DIGEST_PASS_COMPLETE alone. -/
theorem levelKept.of_exec {i : Instr} {s t : State} (h : exec i s = .next t) (other : i ≠ .digestPassComplete) :
    levelKept s t := by
  cases i with
  | readPart _ fields => exact takeRequest (fun _ => LevelAnswer.sized (.same _)) h
  | readStatus _ fields => exact takeRequest (LevelAnswer.readStatus fields) h
  | setNoticeMask _ fields => exact takeRequest (LevelAnswer.setNoticeMask fields) h
  | readChannel _ fields => exact takeRequest (fun _ => LevelAnswer.onChannel fun _ => .same _) h
  | setRoute _ fields => exact takeRequest (LevelAnswer.setRoute fields) h
  | holdChannel _ fields => exact takeRequest (LevelAnswer.holdChannel fields) h
  | releaseChannel _ fields => exact takeRequest (LevelAnswer.releaseChannel fields) h
  | readSlot _ fields => exact takeRequest (fun _ => LevelAnswer.sized (.onSlot fun _ => .same _)) h
  | rescanSlot _ fields => exact takeRequest (LevelAnswer.rescanSlot fields) h
  | setWatch _ fields => exact takeRequest (LevelAnswer.setWatch fields) h
  | loadVolumeTable _ fields => exact takeRequest (LevelAnswer.loadVolumeTable fields) h
  | selectVolumeBank _ fields => exact takeRequest (LevelAnswer.selectVolumeBank fields) h
  | loadTemperatureTable _ fields => exact takeRequest (LevelAnswer.loadTemperatureTable fields) h
  | readLink _ fields => exact takeRequest (fun _ => LevelAnswer.sized (.same _)) h
  | readPins _ fields => exact takeRequest (LevelAnswer.readPins fields) h
  | setPins _ fields => exact takeRequest (LevelAnswer.setPins fields) h
  | readHistory _ fields => exact takeRequest (LevelAnswer.readHistory fields) h
  | readTrace _ fields => exact takeRequest (fun _ => LevelAnswer.sized (.same _)) h
  | clearTrace _ fields => exact takeRequest (LevelAnswer.clearTrace fields) h
  | setPolicy _ fields => exact takeRequest (LevelAnswer.setPolicy fields) h
  | grantGrace _ fields => exact takeRequest (LevelAnswer.grantGrace fields) h
  | clearHistoryEntry _ fields => exact takeRequest (LevelAnswer.clearHistoryEntry fields) h
  | resetWaste _ fields => exact takeRequest (LevelAnswer.resetWaste fields) h
  | getUnlockNonce _ fields => exact takeRequest (LevelAnswer.getUnlockNonce fields) h
  | unlockService tag fields =>
    exact whenPowered (f := fun u => u.takeUnlockService tag fields) (takeUnlockService s tag fields) h
  | lockService _ fields => exact takeRequest (LevelAnswer.lockService fields) h
  | programRootKey _ fields => exact takeRequest (LevelAnswer.programRootKey fields) h
  | saveSettings _ fields => exact takeRequest (LevelAnswer.saveSettings fields) h
  | restart _ fields => exact takeRequest (LevelAnswer.restart fields) h
  | unknownRequest _ _ _ => exact takeRequest (fun _ => LevelAnswer.refuse _) h
  | linkLost arrived => exact whenPowered (f := fun u => u.linkExpires arrived) (linkExpires s arrived) h
  | returnPacketEnd => exact whenPowered (f := State.returnEnds) (returnEnds s) h
  | filterTimerExpiry e => exact whenPowered (f := fun u => u.filterExpires e.pin e.arrived) (filterExpires s _ _) h
  | digestPassComplete => exact absurd rfl other
  | lockoutTimerExpiry => exact whenPowered (f := State.lockoutExpires) (lockoutExpires s) h
  | recordWriteComplete => exact whenPowered (f := State.writeCompletes) (writeCompletes s) h
  | powerOn errors =>
    cases h
    exact ite (fun _ => refl s) fun _ => startUp s _
  | powerLoss torn => exact whenPowered (f := fun u => u.losesPower torn) (of_operate rfl) h
  | pinRawChange p asserted =>
    cases h
    exact ite (fun _ => rawChanges s p asserted) fun _ => of_keeps (by simp [carriedBlocks])
  | mgmtCheckFailed p => exact whenPowered (f := fun u => u.mgmtFails p.payload p.check) (of_keeps (by simp [carriedBlocks])) h
  | mgmtWithoutTag n => exact whenPowered (f := fun u => u.mgmtTagless n) (of_keeps (by simp [carriedBlocks])) h
  | headPacketEnd p c => exact whenPowered (f := fun u => u.headEnds p c) (of_keeps (by simp [carriedBlocks])) h
  | fillSymbolReceived => exact whenPowered (f := fun u => u.symbolArrives _ _) (of_keeps (by simp [carriedBlocks])) h
  | unknownKindPacketEnd n => exact whenPowered (f := fun u => u.framingFault n) (of_keeps (by simp [carriedBlocks])) h
  | oversizePacketEnd n => exact whenPowered (f := fun u => u.framingFault n) (of_keeps (by simp [carriedBlocks])) h
  | packetCut x a => exact whenPowered (f := fun u => u.symbolArrives x a) (of_keeps (by simp [carriedBlocks])) h
  | lineHeader _ _ _ _ _ => exact whenPowered (f := fun u => u.headerCompletes _) (of_keeps (by simp [carriedBlocks])) h
  | refusedLineEnd r c => exact whenPowered (f := fun u => u.refusedEnds r c) (of_keeps (by simp [carriedBlocks])) h
  | lineUpstreamEnd l c => exact whenPowered (f := fun u => u.upstreamEnds l c) (of_keeps (by simp [carriedBlocks])) h
  | lineEnd => exact whenPowered (f := State.lineSent) (of_keeps (by simp [carriedBlocks])) h
  | headretStart k n => exact whenPowered (f := fun u => u.returnStarts k n) (of_keeps (by simp [carriedBlocks])) h
  | headretCut a => exact whenPowered (f := fun u => u.cutReturn a) (of_keeps (by simp [carriedBlocks])) h
  | headretEnd p c => exact whenPowered (f := fun u => u.returnArrives p c) (of_keeps (by simp [carriedBlocks])) h
  | staleTimerExpiry n => exact whenPowered (f := fun u => u.staleExpires n) (of_keeps (by simp [carriedBlocks])) h
  | gradeTimerExpiry g => exact whenPowered (f := fun u => u.gradeExpires g) (of_keeps (by simp [carriedBlocks])) h
  | switchTimerExpiry c => exact whenPowered (f := fun u => u.switchExpires c) (of_keeps (by simp [carriedBlocks])) h
  | revertTimerExpiry c => exact whenPowered (f := fun u => u.revertExpires c) (of_keeps (by simp [carriedBlocks])) h
  | breakEnd i => exact whenPowered (f := fun u => u.breakEnds i) (of_keeps (by simp [carriedBlocks])) h
  | requestSent i => exact whenPowered (f := fun u => u.requestEnds i) (of_keeps (by simp [carriedBlocks])) h
  | responseTimeout i => exact whenPowered (f := fun u => u.responseExpires i) (of_keeps (by simp [carriedBlocks])) h
  | replyComplete i => exact whenPowered (f := fun u => u.replyEnds i) (of_keeps (by simp [carriedBlocks])) h
  | gapTimeout i => exact whenPowered (f := fun u => u.gapExpires i) (of_keeps (by simp [carriedBlocks])) h
  | turnaroundEnd i => exact whenPowered (f := fun u => u.turnaroundEnds i) (of_keeps (by simp [carriedBlocks])) h
  | startSymbolReceived => exact whenPowered (f := fun u => u.symbolArrives _ _) (of_keeps (by simp [carriedBlocks])) h
  | replyByteReceived i d p q => exact whenPowered (f := fun u => u.byteReceived i d p q) (of_keeps (by simp [carriedBlocks])) h

end Sys2Proof.Machine

/-!
PROOFS. The Digest Engine: grants, and the delivery of a pass (R86, R87).
-/

namespace Sys2Proof.Machine

open Sys2Proof

/-! ### Grants (R86) -/

theorem Digest.grantNext_nobody {d : Digest} (nobody : ∀ r : Requester, d.waiting[r] = none) (root : Key) (good : Bool) :
    d.grantNext root good = d := by
  have none : (countUp d.lastGranted).find? (fun r => d.waiting[r].isSome) = none := by
    simp only [List.find?_eq_none]
    intro r _
    rw [nobody r]
    simp
  rw [Digest.grantNext, none]

theorem countUp_find {last : Requester} {test : Requester → Bool} {k : Fin 17} (passes : test (last + 1 + k) = true)
    (first : ∀ j : Fin 17, j < k → test (last + 1 + j) = false) :
    (countUp last).find? test = some (last + 1 + k) := by
  refine List.find?_eq_some_iff_getElem.mpr ⟨passes, k.val, by simp [countUp], by simp [countUp], fun j before => ?_⟩
  have fails := first ⟨j, by omega⟩ before
  simpa [countUp] using fails

theorem Digest.grantNext_first {d : Digest} {k : Fin 17} {q : DigestRequest} {r : Requester}
    (isNext : r = d.lastGranted + 1 + k) (waits : d.waiting[r] = some q)
    (first : ∀ j : Fin 17, j < k → d.waiting[d.lastGranted + 1 + j] = none) (root : Key) (good : Bool) :
    d.grantNext root good =
      { inFlight := some (q.grant r root good), waiting := d.waiting.set r none, lastGranted := r } := by
  have found : (countUp d.lastGranted).find? (fun r => d.waiting[r].isSome) = some r := by
    subst isNext
    exact countUp_find (congrArg Option.isSome waits) fun j before => congrArg Option.isSome (first j before)
  rw [Digest.grantNext, found]
  simp only [waits]

/-! ### The end of a pass (R86, R87) -/

/-- R86: the engine free, and the next request granted. -/
def State.passEnds (s : State) : State :=
  { s with digest := { s.digest with inFlight := none }.grantNext s.nvm.identity.key s.nvm.rootKeyGood }

theorem exec_digestPassComplete {s : State} {p : Pass} (on : s.powered = true) (flies : s.digest.inFlight = some p) :
    exec .digestPassComplete s = .next (s.deliver p).passEnds := by
  refine exec_on (f := State.passCompletes) rfl on ?_
  rw [State.passCompletes, flies]
  rfl

theorem slotRequester_slot (i : SlotNo) : (slotRequester i).slot = some i := numberOf_val i

section
variable {s : State} {p : Pass} {i : SlotNo} (requester : p.requester = slotRequester i)
include requester

theorem State.deliver_derive (kind : p.kind = .derive) :
    s.deliver p = if s.takesChallenge i p then s.deriveDelivered i p else s := by
  simp only [State.deliver, kind, requester, slotRequester_slot]

theorem State.deliver_expect (kind : p.kind = .expect) :
    s.deliver p = if s.takesChallenge i p then s.expectDelivered i (Config.kd p.key p.message) else s := by
  simp only [State.deliver, kind, requester, slotRequester_slot]

theorem State.deliver_writeTag (kind : p.kind = .writeTag) :
    s.deliver p = if s.takesWriteTag i p then s.writeTagDelivered i (Config.kd p.key p.message) else s := by
  simp only [State.deliver, kind, requester, slotRequester_slot]

end

theorem State.deliver_unlock {s : State} {p : Pass} (kind : p.kind = .unlock) : s.deliver p = s.unlockDelivered p := by
  simp only [State.deliver, kind]

theorem State.takesChallenge_iff {s : State} {p : Pass} {i : SlotNo} :
    s.takesChallenge i p = true ↔
      p.abandoned = false ∧ (s.slot i).tenure = p.tenure ∧ (s.slot i).state = .authenticating := by
  simp [State.takesChallenge, and_assoc]

/-! ### DERIVE (R78) -/

section
variable {s : State} {i : SlotNo} (n : Nonce)

/-- R105: a challenge placed on an IDLE line on which no probe-step waits is sent at once. -/
theorem State.placeChallenge_idle (idle : (s.line i).state = .idle) (probe : (s.line i).pendProbe = none) :
    s.placeChallenge i n =
      s.putLine i (LineCtl.sendRequest { s.line i with pendChallenge := none }
        { Transaction.start .challenge (s.slot i).tenure with nonce := n } s.policy.bitRate) := by
  have line : (s.putLine i { s.line i with pendChallenge := some n }).line i =
      { s.line i with pendChallenge := some n } := State.putLine_same s i _
  rw [State.placeChallenge, State.takePending_challenge (by rw [line]; exact idle) (by rw [line]; exact probe)
    (congrArg LineCtl.pendChallenge line), line, State.putLine_putLine]
  rfl

theorem State.placeChallenge_busy (busy : (s.line i).state ≠ .idle) :
    s.placeChallenge i n = s.putLine i { s.line i with pendChallenge := some n } :=
  State.takePending_busy (by rw [State.putLine_same]; exact busy)

/-- A challenge entry asks the Digest Engine for nothing. -/
theorem State.placeChallenge_keepsLines (s : State) (i : SlotNo) : keepsBut [.lines] s (s.placeChallenge i n) := by
  by_cases busy : (s.line i).state ≠ .idle
  · rw [State.placeChallenge_busy n busy]
    simp
  · have idle : (s.line i).state = .idle := not_not.mp busy
    cases probe : (s.line i).pendProbe with
    | none =>
      rw [State.placeChallenge_idle n idle probe]
      simp
    | some step =>
      have line : (s.putLine i { s.line i with pendChallenge := some n }).line i =
          { s.line i with pendChallenge := some n } := State.putLine_same s i _
      rw [State.placeChallenge]
      cases step with
      | identify =>
        rw [State.takePending_identify (by rw [line]; exact idle) (by rw [line]; exact probe)]
        simp
      | readFill =>
        rw [State.takePending_readFill (by rw [line]; exact idle) (by rw [line]; exact probe)]
        simp

end

end Sys2Proof.Machine

/-!
PROOFS. DIGEST_PASS_COMPLETE (R86, R87): what each result does where it is delivered.
-/

namespace Sys2Proof.Machine

open Sys2Proof

/-! ### A tag that does not match (R5, R80, R83) -/

/-- R5, R83: the state that the non-genuine policy leads to. -/
def Slot.refusedState (x : Slot) (policy : NonGenuinePolicy) (volume : Nat) : SlotState :=
  if x.ink = some 0 ∨ policy = .reject then .rejected else if volume = 0 then .spent else .grace

/-- R5, R16, R83: the record after ink code 0 or a mismatch, without the nonce and the tag. -/
def Slot.refusedAs (x : Slot) (policy : NonGenuinePolicy) (volume : Nat) : Slot :=
  { x with
    state := x.refusedState policy volume, grace := if x.ink = some 0 ∨ policy = .reject then x.grace else volume
    nonce := none, tag := none }

theorem Slot.unmatched_leaves (x : Slot) (policy : NonGenuinePolicy) (volume : Nat) :
    (x.unmatched policy volume).leaveChallenge = x.refusedAs policy volume := by
  unfold Slot.unmatched Slot.refusedAs Slot.refusedState
  by_cases void : x.ink = some 0
  · simp [void, Slot.leaveChallenge]
  · cases policy with
    | reject => simp [void, Slot.leaveChallenge]
    | grace =>
      by_cases empty : volume = 0
      · simp [void, empty, Slot.enterGrace, Slot.leaveChallenge]
      · simp [void, empty, Slot.enterGrace, Slot.leaveChallenge]

theorem Slot.refusedState_cases (x : Slot) (policy : NonGenuinePolicy) (volume : Nat) :
    x.refusedState policy volume = .rejected ∨ x.refusedState policy volume = .spent ∨
      x.refusedState policy volume = .grace := by
  unfold Slot.refusedState
  split
  · exact .inl rfl
  · split
    · exact .inr (.inl rfl)
    · exact .inr (.inr rfl)

/-- R10: the SLOT notice of that move. -/
theorem Slot.refused_details {x : Slot} (policy : NonGenuinePolicy) (volume : Nat) (state : x.state = .authenticating) :
    slotDetails x (x.refusedAs policy volume) none =
      .slot (x.refusedState policy volume) .authenticating x.tenure
        (if x.refusedState policy volume = .spent then none else some x.causes) none := by
  rw [slotDetails, state]
  rcases x.refusedState_cases policy volume with e | e | e <;> simp [Slot.refusedAs, e]

theorem State.expectDelivered_refuses {s : State} {i : SlotNo} {tag : Tag}
    (refused : (s.slot i).ink = some 0 ∨ (s.slot i).tag ≠ some tag ∨
      ∀ k, (s.slot i).derivedKey = some k → k.void = true) :
    s.expectDelivered i tag =
      s.moveSlot i ((s.slot i).unmatched s.policy.nonGenuine s.policy.graceVolume) none := by
  refine if_pos (refused.imp_right (Or.imp_right fun void => ?_))
  cases key : (s.slot i).derivedKey with
  | none => rfl
  | some k => exact void k key

/-! ### The write tag (R107) -/

theorem State.writeTagDelivered_eq {s : State} {i : SlotNo} {t : Transaction} (tag : Tag)
    (trans : (s.line i).trans = some t) (kind : t.kind = .checkpoint) :
    s.writeTagDelivered i tag =
      s.putLine i
        { s.line i with
          state := .sending, timer := none, rate := s.policy.bitRate
          request := slotMessage 0x04#8 (t.values.bytes ++ u64 tag), received := []
          trans := some { t with writeTag := some tag } } := by
  simp only [State.writeTagDelivered, trans, LineCtl.sendRequest, Transaction.message, kind]
  rfl

theorem State.takesWriteTag_iff {s : State} {p : Pass} {i : SlotNo} :
    s.takesWriteTag i p = true ↔
      (p.abandoned = false ∧ (s.slot i).tenure = p.tenure ∧ (s.line i).state = .tagWait) ∧
        (s.line i).checkpointInFlight = true := by
  simp only [State.takesWriteTag, Bool.and_eq_true, Bool.not_eq_true', decide_eq_true_eq]
  tauto

theorem LineCtl.checkpointInFlight_iff (l : LineCtl) :
    l.checkpointInFlight = true ↔ ∃ t, l.trans = some t ∧ t.kind = .checkpoint := by
  unfold LineCtl.checkpointInFlight
  split <;> simp_all

/-! ### The unlock (R163) -/

/-- R163: the state after an attempt is judged, before the next grant. -/
def State.unlockJudged (s : State) (a : Attempt) (access : Access) (failures : Nat) (lockout : Option Time)
    (result : Byte) (e : UnlockEvent) : State :=
  { s with
    requests :=
      { s.requests with
        access := access, attempt := none, failedUnlocks := failures, lockout := lockout
        replies :=
          s.requests.replies ++
            [⟨a.requestTag, 0x19#8, .done,
              [result, BitVec.ofNat 8 access.ctorIdx] ++ u8 failures ++ u32 (s.leftOf lockout)⟩] }
    notices :=
      s.notices.take s.settings.mask[NoticeKind.unlock.position] .unlock .none
        (.unlock e access failures (s.leftOf lockout)) }

theorem State.answerUnlock_eq (s : State) (a : Attempt) {r : RequestUnit} (replies : r.replies = s.requests.replies)
    (nonce : r.nonce = s.requests.nonce) (freed : r.attempt = none) (result : UnlockResult) (e : UnlockEvent) :
    State.answerUnlock { s with requests := r } a result e =
      s.unlockJudged a r.access r.failedUnlocks r.lockout (BitVec.ofNat 8 result.ctorIdx) e := by
  have left : State.leftOf { s with requests := r } r.lockout = s.leftOf r.lockout := State.leftOf_congr rfl _
  have contents : State.unlockContents { s with requests := r } result =
      [BitVec.ofNat 8 result.ctorIdx, BitVec.ofNat 8 r.access.ctorIdx] ++ u8 r.failedUnlocks ++
        u32 (s.leftOf r.lockout) := by
    rw [State.unlockContents, left, u8_eq, u8_eq]
    rfl
  rw [State.answerUnlock, contents]
  obtain ⟨access, isNonce, attempt, failures, lockout, isReplies⟩ := r
  subst replies nonce freed
  rfl

theorem State.judgeUnlock_eq (s : State) (a : Attempt) (good : Bool) :
    s.judgeUnlock a good =
      if a.withdrawn = true then
        s.unlockJudged a s.requests.access s.requests.failedUnlocks s.requests.lockout 0#8 .withdrawn
      else if good = true then s.unlockJudged a .service 0 s.requests.lockout 1#8 .granted
      else if s.requests.failedUnlocks < 3 then
        s.unlockJudged a s.requests.access (s.requests.failedUnlocks + 1) s.requests.lockout 2#8 .denied
      else s.unlockJudged a s.requests.access 4 (some (s.time + 60000)) 2#8 .lockoutBegun := by
  unfold State.judgeUnlock
  dsimp only
  by_cases withdrawn : a.withdrawn = true
  · rw [if_pos withdrawn, if_pos withdrawn]
    refine s.answerUnlock_eq a ?_ ?_ ?_ .withdrawn .withdrawn <;> rfl
  · rw [if_neg withdrawn, if_neg withdrawn]
    by_cases granted : good = true
    · rw [if_pos granted, if_pos granted]
      refine s.answerUnlock_eq a ?_ ?_ ?_ .granted .granted <;> rfl
    · rw [if_neg granted, if_neg granted]
      by_cases few : s.requests.failedUnlocks < 3
      · rw [if_pos few, if_pos few]
        refine s.answerUnlock_eq a ?_ ?_ ?_ .denied .denied <;> rfl
      · rw [if_neg few, if_neg few]
        refine s.answerUnlock_eq a ?_ ?_ ?_ .denied .lockoutBegun <;> rfl

end Sys2Proof.Machine

/-!
PROOFS. What a delivered pass leaves (R78, R80, R107, R163), and DIGEST_PASS_COMPLETE as a whole.
-/

namespace Sys2Proof.Machine

open Sys2Proof

theorem State.passEnds_keeps (s : State) : keepsBut [.digest] s s.passEnds := by
  simp [State.passEnds]

/-- A delivery that asks for nothing lets the engine grant as if nothing had been delivered. -/
theorem State.passEnds_digest {s t : State} (digest : t.digest = s.digest) (nvm : t.nvm = s.nvm) :
    t.passEnds.digest = s.passEnds.digest := by
  rw [State.passEnds, State.passEnds, digest, nvm]

section
variable {s : State} {p : Pass} {i : SlotNo}

/-- R78: the record with the derived key and the nonce. -/
def Slot.keyed (x : Slot) (p : Pass) (n : Nonce) : Slot :=
  { x with
    derivedKey :=
      some
        { key := Config.kd p.key (p.message ++ [0#8]) ++ Config.kd p.key (p.message ++ [1#8]), void := !p.keyGood }
    nonce := some n }

theorem State.deriveDelivered_eq (s : State) (i : SlotNo) (p : Pass) :
    s.deriveDelivered i p =
      (s.drawn.putSlot i ((s.slot i).keyed p (Config.nonce s.draws))).placeChallenge i (Config.nonce s.draws) := rfl

theorem State.deriveDelivered_does (s : State) (i : SlotNo) (p : Pass) :
    let n := Config.nonce s.draws
    let t := s.deriveDelivered i p
    keepsBut [.draws, .slots, .lines] s t ∧ t.draws = s.draws + 1 ∧ otherSlots i s t ∧
      t.slot i = (s.slot i).keyed p n ∧
      ((s.line i).state = .idle → (s.line i).pendProbe = none →
        t.line i =
          LineCtl.sendRequest { s.line i with pendChallenge := none }
            { Transaction.start .challenge (s.slot i).tenure with nonce := n } s.policy.bitRate) ∧
      ((s.line i).state ≠ .idle → t.line i = { s.line i with pendChallenge := some n }) := by
  intro n t
  obtain ⟨u, isKeyed⟩ : ∃ u, u = s.drawn.putSlot i ((s.slot i).keyed p n) := ⟨_, rfl⟩
  have shape : t = u.placeChallenge i n := by
    rw [isKeyed]
    rfl
  have line : u.line i = s.line i := by rw [isKeyed]; rfl
  have record : u.slot i = (s.slot i).keyed p n := by rw [isKeyed]; exact State.putSlot_same s.drawn i _
  have others : otherSlots i s u := by rw [isKeyed]; exact s.drawn.putSlot_otherSlots i _
  have policy : u.policy = s.policy := by rw [isKeyed]; rfl
  have draws : u.draws = s.draws + 1 := by rw [isKeyed]; rfl
  have base : keepsBut [.draws, .slots, .lines] s u := by rw [isKeyed]; simp
  have placed : keepsBut [.lines] u t := shape ▸ State.placeChallenge_keepsLines n u i
  refine ⟨base.trans (placed.mono (by simp)), (placed.2.2 .draws (by decide)).trans draws,
    others.trans (otherSlots.of_slots (placed.2.2 .slots (by decide))),
    (State.slot_of_slots (placed.2.2 .slots (by decide)) i).trans record, fun idle probe => ?_, fun busy => ?_⟩
  · rw [shape, State.placeChallenge_idle n (by rw [line]; exact idle) (by rw [line]; exact probe), State.putLine_same, line,
      record, policy]
    rfl
  · rw [shape, State.placeChallenge_busy n (by rw [line]; exact busy), State.putLine_same, line]

/-- R80, R83: a mismatch. -/
theorem State.expectDelivered_does {tag : Tag} (state : (s.slot i).state = .authenticating)
    (refused : (s.slot i).ink = some 0 ∨ (s.slot i).tag ≠ some tag ∨
      ∀ k, (s.slot i).derivedKey = some k → k.void = true) :
    let z := (s.slot i).refusedAs s.policy.nonGenuine s.policy.graceVolume
    let t := s.expectDelivered i tag
    keepsBut [.slots, .routes, .trace, .pins, .notices] s t ∧ otherSlots i s t ∧
      t.slot i = (z.compared .w0).compared .w1 ∧ sameRouting (s.handedOn i z) t ∧
      noticesWere [.slot, .watch] (z.firings i)
        (s.notices.take s.settings.mask[NoticeKind.slot.position] .slot (.slot i)
          (.slot z.state .authenticating (s.slot i).tenure
            (if z.state = .spent then none else some (s.slot i).causes) none)) t := by
  intro z t
  obtain ⟨new, isNew⟩ : ∃ new, new = (s.slot i).unmatched s.policy.nonGenuine s.policy.graceVolume := ⟨_, rfl⟩
  have left : new.leaveChallenge = z := isNew ▸ Slot.unmatched_leaves _ _ _
  have shape : t = s.moveSlot i new none := isNew ▸ State.expectDelivered_refuses refused
  obtain ⟨record, routing, told⟩ := s.moveSlot_handsOn i new none (kinds := [.slot, .watch]) (by decide) (by decide)
    (by decide)
  have details := Slot.refused_details s.policy.nonGenuine s.policy.graceVolume state
  rw [left] at record routing told
  have supplies : ((s.slot i).state.supplies && !new.leaveChallenge.state.supplies) = false := by rw [state]; rfl
  rw [shape]
  refine ⟨s.moveSlot_keepsLines (by simp) i new none supplies, s.moveSlot_otherSlots i new none, record, routing, ?_⟩
  rw [details] at told
  exact told

end

/-! ### The access level (R160, R163) -/

theorem State.unlockJudged_access (s : State) (a : Attempt) (access : Access) (n : Nat) (lockout : Option Time) (b : Byte)
    (e : UnlockEvent) : (s.unlockJudged a access n lockout b e).requests.access = access := rfl

/-- R163: SERVICE is granted on a tag that matches under a good key, and on nothing else. -/
theorem State.judgeUnlock_raises {s : State} {a : Attempt} {good : Bool} (operate : s.requests.access = .operate)
    (service : (s.judgeUnlock a good).requests.access = .service) : a.withdrawn = false ∧ good = true := by
  rw [State.judgeUnlock_eq] at service
  split at service
  · rw [State.unlockJudged_access, operate] at service
    cases service
  next stands =>
    split at service
    next granted => exact ⟨by simpa using stands, granted⟩
    · split at service
      · rw [State.unlockJudged_access, operate] at service
        cases service
      · rw [State.unlockJudged_access, operate] at service
        cases service

/-- The other results leave the Request Unit. -/
theorem State.deliver_requests {s : State} {p : Pass} (kind : p.kind ≠ .unlock) :
    (s.deliver p).requests = s.requests := by
  have kept : keepsBut carriedBlocks s (s.deliver p) := by
    unfold State.deliver
    split
    next isUnlock => exact absurd isUnlock kind
    · split <;> simp [carriedBlocks]
    · split <;> simp [carriedBlocks]
    · split <;> simp [carriedBlocks]
    · simp
  exact kept.2.2 .requests (by decide)

theorem State.passRaises {s t : State} (h : exec .digestPassComplete s = .next t)
    (operate : s.requests.access = .operate) (service : t.requests.access = .service) :
    ∃ p a, s.digest.inFlight = some p ∧ p.kind = .unlock ∧ s.requests.attempt = some a ∧ a.withdrawn = false ∧
      a.tag = Config.kd p.key p.message ∧ p.keyGood = true := by
  have stays (same : t = s) : False := by
    rw [same, operate] at service
    cases service
  have next : t = if s.powered then s.passCompletes else s := by
    injection h.symm
  cases on : s.powered with
  | false =>
    rw [on] at next
    exact (stays next).elim
  | true =>
    cases flies : s.digest.inFlight with
    | none =>
      rw [on, if_pos rfl, State.passCompletes, flies] at next
      exact (stays next).elim
    | some p =>
      have carried : t = (s.deliver p).passEnds := by
        injection h.symm.trans (exec_digestPassComplete on flies)
      have raised : (s.deliver p).requests.access = .service := by rw [← service, carried]; rfl
      have kind : p.kind = .unlock := not_not.mp fun other => by
        rw [State.deliver_requests other, operate] at raised
        cases raised
      rw [State.deliver_unlock kind] at raised
      cases attempt : s.requests.attempt with
      | none =>
        simp only [State.unlockDelivered, attempt, operate] at raised
        cases raised
      | some a =>
        simp only [State.unlockDelivered, attempt] at raised
        obtain ⟨stands, good⟩ := State.judgeUnlock_raises operate raised
        obtain ⟨tag, key⟩ : a.tag = Config.kd p.key p.message ∧ p.keyGood = true := by simpa using good
        exact ⟨p, a, rfl, kind, rfl, stands, tag, key⟩

/-- Settles O58: the result by its kind, then the next grant; and the level by every other command. -/
theorem digestPassIsDelivered : Obligations.DigestPassIsDelivered := by
  refine ⟨fun s p on flies => ?_, fun i s t operate h service => ?_, fun root good d => ⟨fun nobody => ?_,
    fun k q waits first => ?_⟩⟩
  · intro granted discarded
    have carried := exec_digestPassComplete on flies
    have ends : s.passEnds = { s with digest := granted } := rfl
    have dropped (same : s.deliver p = s) : discarded := carried.trans (by rw [same, ends])
    refine ⟨fun i requester => ?_, fun kind => ⟨fun none => ?_, fun a attempt => ?_⟩⟩
    · intro x l
      refine ⟨fun kinds => ⟨fun fails => ?_, fun heard tenure state => ⟨fun kind => ?_, fun kind refused => ?_⟩⟩,
        fun kind => ⟨fun fails => ?_, fun t trans => ⟨fun other => ?_, fun waits checkpoint => ?_⟩⟩⟩
      · have refused : ¬s.takesChallenge i p = true := by
          rw [State.takesChallenge_iff]
          rintro ⟨heard, tenure, state⟩
          rcases fails with abandoned | other | elsewhere
          · rw [heard] at abandoned
            cases abandoned
          · exact other tenure
          · exact elsewhere state
        rcases kinds with kind | kind
        · exact dropped ((State.deliver_derive requester kind).trans (if_neg refused))
        · exact dropped ((State.deliver_expect requester kind).trans (if_neg refused))
      · have delivered := (State.deliver_derive requester kind).trans
          (if_pos (State.takesChallenge_iff.mpr ⟨heard, tenure, state⟩))
        obtain ⟨kept, draws, others, record, sends, waits⟩ := s.deriveDelivered_does i p
        rw [delivered] at carried
        have ended := (s.deriveDelivered i p).passEnds_keeps
        have digest := State.passEnds_digest (kept.2.2 .digest (by decide)) (kept.2.2 .nvm (by decide))
        generalize s.deriveDelivered i p = u at *
        have line := State.line_of_lines (ended.2.2 .lines (by decide)) i
        exact ⟨u.passEnds, ⟨carried, (kept.mono (by simp)).trans (ended.mono (by simp))⟩,
          (ended.2.2 .draws (by decide)).trans draws, others.trans (otherSlots.of_slots (ended.2.2 .slots (by decide))),
          (State.slot_of_slots (ended.2.2 .slots (by decide)) i).trans record,
          fun idle probe => line.trans (sends idle probe), fun busy => line.trans (waits busy), digest⟩
      · intro isRefused volume entered z
        have delivered := (State.deliver_expect requester kind).trans
          (if_pos (State.takesChallenge_iff.mpr ⟨heard, tenure, state⟩))
        obtain ⟨kept, others, record, ⟨routes, trace, pins⟩, told⟩ := State.expectDelivered_does state refused
        rw [delivered] at carried
        have ended := (s.expectDelivered i (Config.kd p.key p.message)).passEnds_keeps
        have digest := State.passEnds_digest (kept.2.2 .digest (by decide)) (kept.2.2 .nvm (by decide))
        generalize s.expectDelivered i (Config.kd p.key p.message) = u at *
        exact ⟨u.passEnds, ⟨carried, (kept.mono (by simp)).trans (ended.mono (by simp))⟩,
          others.trans (otherSlots.of_slots (ended.2.2 .slots (by decide))),
          (State.slot_of_slots (ended.2.2 .slots (by decide)) i).trans record, digest, ⟨routes, trace, pins⟩, told⟩
      · have refused : ¬s.takesWriteTag i p = true := by
          rw [State.takesWriteTag_iff, LineCtl.checkpointInFlight_iff]
          rintro ⟨waits, t, trans, -⟩
          rcases fails with gone | none
          · exact gone waits
          · rw [none] at trans
            cases trans
        exact dropped ((State.deliver_writeTag requester kind).trans (if_neg refused))
      · have refused : ¬s.takesWriteTag i p = true := by
          rw [State.takesWriteTag_iff, LineCtl.checkpointInFlight_iff]
          rintro ⟨-, t', trans', checkpoint⟩
          cases trans.symm.trans trans'
          exact other checkpoint
        exact dropped ((State.deliver_writeTag requester kind).trans (if_neg refused))
      · have takes : s.takesWriteTag i p = true :=
          State.takesWriteTag_iff.mpr ⟨waits, (LineCtl.checkpointInFlight_iff _).mpr ⟨t, trans, checkpoint⟩⟩
        have delivered := (State.deliver_writeTag requester kind).trans (if_pos takes)
        rw [carried, delivered, State.writeTagDelivered_eq _ trans checkpoint]
        rfl
    · refine dropped ((State.deliver_unlock kind).trans ?_)
      simp only [State.unlockDelivered, none]
    · intro good judged
      have delivered : s.deliver p =
          s.judgeUnlock a (decide (a.tag = Config.kd p.key p.message) && p.keyGood) := by
        rw [State.deliver_unlock kind]
        simp only [State.unlockDelivered, attempt]
      have isGood : (decide (a.tag = Config.kd p.key p.message) && p.keyGood) = true ↔ good := by
        simp [good]
      rw [carried, delivered, State.judgeUnlock_eq]
      simp only [isGood, apply_ite State.passEnds]
      rfl
  · obtain rfl : i = .digestPassComplete := not_not.mp fun other => by
      have raised := levelKept.of_exec h other service
      rw [operate] at raised
      cases raised
    exact ⟨rfl, State.passRaises h operate service⟩
  · exact Digest.grantNext_nobody nobody root good
  · exact Digest.grantNext_first rfl waits first root good

end Sys2Proof.Machine

/-!
PROOFS. What the work on the entry of one serial leaves of the rest: the other entries, the notices, and the writer's
queue (R115 to R119).
-/

namespace Sys2Proof.Machine

open Sys2Proof

/-! ### The writer's queue while writes are queued (R185) -/

/-- Writes were queued and one may have begun; nothing else of the Non-Volatile Memory changed. -/
def Nvm.queuesOn (m before : Nvm) : Prop :=
  ∃ p q, m = { before with inProgress := p, queue := q } ∧ (p = none → before.inProgress = none)

theorem Nvm.queuesOn.refl (m : Nvm) : m.queuesOn m := ⟨m.inProgress, m.queue, rfl, id⟩

theorem Nvm.queuesOn.trans {m n o : Nvm} (h : n.queuesOn m) (k : o.queuesOn n) : o.queuesOn m := by
  obtain ⟨p, q, rfl, free⟩ := h
  obtain ⟨p', q', rfl, free'⟩ := k
  exact ⟨p', q', rfl, fun none => free (free' none)⟩

theorem Nvm.begin_queuesOn (m : Nvm) : m.begin.queuesOn m := by
  unfold Nvm.begin
  split
  next w ws free queue => exact ⟨some (w, m.timing), ws, rfl, fun _ => free⟩
  · exact .refl m

theorem Nvm.enqueue_queuesOn (m : Nvm) (w : RecordWrite) : (m.enqueue w).queuesOn m := by
  obtain ⟨p, q, begun, free⟩ := Nvm.begin_queuesOn
    { m with
      queue := if m.queue.any (fun p => decide (p.record = w.record)) then replaceWrite w m.queue else m.queue ++ [w] }
  exact ⟨p, q, begun, free⟩

theorem replaceWrite_mem (w : RecordWrite) {queue : List RecordWrite}
    (pending : queue.any (fun p => decide (p.record = w.record)) = true) : w ∈ replaceWrite w queue := by
  induction queue with
  | nil => cases pending
  | cons p ps ih =>
    rw [replaceWrite]
    split
    · exact .head ps
    next other => exact .tail p (ih (by simpa [other] using pending))

/-- The oldest pending write begins, where none is in progress; the others wait. -/
theorem Nvm.begin_mem {m : Nvm} {w : RecordWrite} (waits : w ∈ m.queue) :
    w ∈ m.begin.queue ∨ (m.inProgress = none ∧ ∃ timing, m.begin.inProgress = some (w, timing)) := by
  unfold Nvm.begin
  split
  next v ws free queue =>
    rw [queue] at waits
    rcases List.mem_cons.mp waits with rfl | behind
    · exact .inr ⟨free, m.timing, rfl⟩
    · exact .inl behind
  · exact .inl waits

/-- R185: a write queued since a moment, after other writes. -/
theorem Nvm.enqueue_queuedSince {m before : Nvm} (h : m.queuesOn before) (w : RecordWrite) :
    (m.enqueue w).queuedSince before w := by
  obtain ⟨p, q, rfl, free⟩ := h
  have waits : w ∈ (if q.any (fun p => decide (p.record = w.record)) then replaceWrite w q else q ++ [w]) := by
    split
    next pending => exact replaceWrite_mem w pending
    · simp
  rcases Nvm.begin_mem (m :=
    { before with
      inProgress := p
      queue := if q.any (fun p => decide (p.record = w.record)) then replaceWrite w q else q ++ [w] }) waits with
    queued | ⟨none, begun⟩
  · exact .inl queued
  · exact .inr ⟨free none, begun⟩

/-! ### Work on one entry -/

/-- From s to t the History Table worked on entry n. The other entries are those of s, but for their stamps, and no
entry is new; of the slots history indexes alone were made absent; only HISTORY notices were raised; writes were
queued. -/
structure TableWork (n : EntryNo) (s t : State) : Prop where
  kept : keepsBut [.slots, .history, .nvm, .notices] s t
  slots : indexesForgotten s t
  told : ∀ kinds : List NoticeKind, .history ∉ kinds → noticesWere kinds [] s.notices t
  writes : t.nvm.queuesOn s.nvm
  others : ∀ (m : EntryNo) (f : HistoryEntry), m ≠ n → t.entry m = some f →
    ∃ before, s.entry m = some before ∧ f = { before with stamp := f.stamp }

namespace TableWork

variable {n : EntryNo} {s t u : State}

theorem of_history (kept : keepsBut [.slots, .nvm] s t) (slots : indexesForgotten s t)
    (writes : t.nvm.queuesOn s.nvm) : TableWork n s t where
  kept := kept.mono (by simp)
  slots := slots
  told kinds _ := ⟨[], rfl, kept.2.2 .notices (by decide)⟩
  writes := writes
  others m f _ held :=
    ⟨f, (State.entry_of_history (kept.2.2 .history (by decide)) m).symm.trans held, rfl⟩

theorem refl (n : EntryNo) (s : State) : TableWork n s s :=
  of_history (by simp) (indexesForgotten.of_slots rfl) (.refl _)

theorem trans (h : TableWork n s t) (k : TableWork n t u) : TableWork n s u where
  kept := h.kept.trans k.kept
  slots := h.slots.trans k.slots
  told kinds none := (h.told kinds none).append (k.told kinds none) (k.kept.2.2 .settings (by decide))
  writes := h.writes.trans k.writes
  others m f other held := by
    obtain ⟨e, held', same⟩ := k.others m f other held
    obtain ⟨b, held'', same'⟩ := h.others m e other held'
    exact ⟨b, held'', same.trans (by rw [same'])⟩

end TableWork

theorem State.putEntry_work (s : State) (n : EntryNo) (e : Option HistoryEntry) : TableWork n s (s.putEntry n e) where
  kept := by simp
  slots := indexesForgotten.of_slots rfl
  told _ _ := ⟨[], rfl, rfl⟩
  writes := .refl _
  others m f other held := ⟨f, (State.putEntry_other s e other).symm.trans held, rfl⟩

theorem State.forgetIndex_work (s : State) (n m : EntryNo) : TableWork n s (s.forgetIndex m) :=
  .of_history (by simp) (s.forgetIndex_forgotten m) (.refl _)

theorem State.queueEntry_work (s : State) (n m : EntryNo) : TableWork n s (s.queueEntry m) :=
  .of_history (by simp) (indexesForgotten.of_slots rfl) (Nvm.enqueue_queuesOn _ _)

/-! ### Moves -/

/-- R115: the entries renumbered. -/
theorem State.renumbered_work (s : State) (n : EntryNo) : TableWork n s { s with history := s.history.renumber } where
  kept := by simp
  slots := indexesForgotten.of_slots rfl
  told _ _ := ⟨[], rfl, rfl⟩
  writes := .refl _
  others m f _ held := by
    have entry : ({ s with history := s.history.renumber } : State).entry m =
        (s.entry m).map fun e => { e with stamp := s.history.placeOf m } := by
      simp [State.entry, History.renumber]
    rw [entry] at held
    obtain ⟨e, before, rfl⟩ := Option.map_eq_some_iff.mp held
    exact ⟨e, before, rfl⟩

theorem State.renumberIfFull_work (s : State) (n : EntryNo) : TableWork n s s.renumberIfFull := by
  have queued (u : State) (ms : List EntryNo) :
      TableWork n u (ms.foldl (fun t m => if (t.entry m).isSome then t.queueEntry m else t) u) := by
    induction ms generalizing u with
    | nil => exact .refl n u
    | cons m ms ih =>
      refine TableWork.trans (t := if (u.entry m).isSome then u.queueEntry m else u) ?_ (ih _)
      split
      · exact u.queueEntry_work n m
      · exact .refl n u
  unfold State.renumberIfFull
  split
  · exact .refl n s
  · exact (s.renumbered_work n).trans (queued _ _)

theorem State.moveEntry_work (s : State) (n : EntryNo) : TableWork n s (s.moveEntry n) := by
  refine (s.renumberIfFull_work n).trans ?_
  unfold State.moveEntry
  generalize s.renumberIfFull = t
  dsimp only
  split
  · exact .refl n t
  next e held =>
    exact {
      kept := by simp
      slots := indexesForgotten.of_slots rfl
      told := fun _ _ => ⟨[], rfl, rfl⟩
      writes := .refl _
      others := fun m f other held => ⟨f, (State.putEntry_other t _ other).symm.trans held, rfl⟩ }

/-- R115: the entry that becomes the most recent takes the next stamp. -/
theorem State.moveEntry_entry {s : State} {n : EntryNo} {e : HistoryEntry} (held : s.entry n = some e) :
    ∃ k, (s.moveEntry n).entry n = some { e with stamp := k } ∧ (s.moveEntry n).history.nextStamp = k + 1 := by
  obtain ⟨a, stays⟩ := s.renumberIfFull_entryStays n e held
  refine ⟨s.renumberIfFull.history.nextStamp, ?_, ?_⟩
  · simp only [State.moveEntry, stays]
    exact State.putEntry_same s.renumberIfFull n _
  · simp only [State.moveEntry, stays]

/-! ### Insertion and eviction -/

theorem State.insertEntry_work (s : State) (e : HistoryEntry) :
    TableWork (s.insertEntry e).2 s (s.insertEntry e).1 :=
  ((s.forgetIndex_work _ _).trans (State.putEntry_work _ s.history.vacancy (some e))).trans (State.moveEntry_work _ _)

theorem State.findOrInsert_work (s : State) (serial : Serial) (fresh : HistoryEntry) :
    TableWork (s.findOrInsert serial fresh).2 s (s.findOrInsert serial fresh).1 := by
  unfold State.findOrInsert
  split
  next n hit => exact .refl n s
  · exact s.insertEntry_work fresh

/-- R118: the entry of a serial, found in s, or inserted as given. -/
def State.entryFor (s : State) (serial : Serial) (fresh : HistoryEntry) (n : EntryNo) (e : HistoryEntry) : Prop :=
  (s.history.lookup serial = some n ∧ s.entry n = some e) ∨
    (s.history.lookup serial = none ∧ ∃ k, e = { fresh with stamp := k })

theorem State.findOrInsert_finds (s : State) (serial : Serial) (fresh : HistoryEntry) :
    ∃ e, (s.findOrInsert serial fresh).1.entry (s.findOrInsert serial fresh).2 = some e ∧
      s.entryFor serial fresh (s.findOrInsert serial fresh).2 e := by
  unfold State.findOrInsert
  split
  next n hit =>
    obtain ⟨e, held, -⟩ := History.lookup_serial hit
    exact ⟨e, held, .inl ⟨hit, held⟩⟩
  next miss =>
    obtain ⟨k, held⟩ := s.insertEntry_entry fresh
    exact ⟨_, held, .inr ⟨miss, k, rfl⟩⟩

theorem State.evicted_work (s : State) (n m : EntryNo) : TableWork n s (s.putEntry m none) where
  kept := by simp
  slots := indexesForgotten.of_slots rfl
  told _ _ := ⟨[], rfl, rfl⟩
  writes := .refl _
  others l f _ held := by
    by_cases same : l = m
    · subst same
      cases (State.putEntry_same s l none).symm.trans held
    · exact ⟨f, (State.putEntry_other s none same).symm.trans held, rfl⟩

theorem State.raiseHistory_work (s : State) (n : EntryNo) (u : Subject) (d : Details) :
    TableWork n s (s.raise .history u d) where
  kept := by simp
  slots := indexesForgotten.of_slots rfl
  told kinds none := ⟨[(.history, u, d)], by simp [none], rfl⟩
  writes := .refl _
  others _ f _ held := ⟨f, held, rfl⟩

theorem State.evict_work (s : State) (n : EntryNo) (k : Option Serial) : TableWork n s (s.evict k) := by
  unfold State.evict
  split
  · exact .refl n s
  next m least =>
    split
    · exact .refl n s
    · exact (((s.evicted_work n m).trans (State.forgetIndex_work _ n m)).trans (State.queueEntry_work _ n m)).trans
        (State.raiseHistory_work _ n _ _)

theorem State.addMarks_work (s : State) (n : EntryNo) (a b : Bool) : TableWork n s (s.addMarks n a b) := by
  unfold State.addMarks
  split
  · exact .refl n s
  next e held =>
    refine TableWork.trans ?_ (State.putEntry_work _ n _)
    split
    · exact s.evict_work n _
    · exact .refl n s

/-! ### An update (R118) -/

/-- R118: an update is work on the entry of the slot's serial, which becomes the most recent, and then its close. -/
theorem State.historyUpdate_work {s : State} {i : SlotNo} {serial : Serial} (own : (s.slot i).serial = some serial)
    {update : State → EntryNo → State} {f : HistoryEntry → HistoryEntry} (updates : Updates update f)
    (works : ∀ t n, TableWork n t (update t n)) :
    ∃ u n e k, TableWork n s u ∧ s.historyUpdate i update = u.closeUpdate i n ∧
      u.entry n = some { f e with stamp := k } ∧ u.history.nextStamp = k + 1 ∧
      s.entryFor serial ((s.slot i).historyEntry serial) n e := by
  obtain ⟨e, held, found⟩ := s.findOrInsert_finds serial ((s.slot i).historyEntry serial)
  have work := s.findOrInsert_work serial ((s.slot i).historyEntry serial)
  have shape : s.historyUpdate i update =
      ((update (s.findOrInsert serial ((s.slot i).historyEntry serial)).1
        (s.findOrInsert serial ((s.slot i).historyEntry serial)).2).moveEntry
          (s.findOrInsert serial ((s.slot i).historyEntry serial)).2).closeUpdate i
            (s.findOrInsert serial ((s.slot i).historyEntry serial)).2 := by
    simp only [State.historyUpdate, own]
  generalize s.findOrInsert serial ((s.slot i).historyEntry serial) = p at held found work shape
  obtain ⟨k, moved, next⟩ := State.moveEntry_entry (updates.entry held)
  exact ⟨(update p.1 p.2).moveEntry p.2, p.2, e, k,
    (work.trans (works p.1 p.2)).trans (State.moveEntry_work _ p.2), shape, moved, next, found⟩

/-- R118, R119: the close of an update queues the entry as it stands. -/
theorem State.closeUpdate_nvm (s : State) (i : SlotNo) (n : EntryNo) :
    (s.closeUpdate i n).nvm = s.nvm.enqueue (.history n (s.entry n)) := rfl

/-- R118: a slot without a serial has no entry. -/
theorem State.historyUpdate_none {s : State} {i : SlotNo} (none : (s.slot i).serial = none)
    (update : State → EntryNo → State) : s.historyUpdate i update = s := by
  simp only [State.historyUpdate, none]

end Sys2Proof.Machine

/-!
PROOFS. The handing on of a slot's fitness does not read the history indexes (R12, R53): states that differ in these, in
the notices and in the blocks that no judging reads hand on the same.
-/

namespace Sys2Proof.Machine

open Sys2Proof

/-- A slot record with another history index. -/
def Slot.indexed (x : Slot) (h : Option EntryNo) : Slot := { x with historyIndex := h }

/-- A slot record without its history index. -/
def Slot.forgotten (x : Slot) : Slot := x.indexed none

theorem Slot.indexed_self (x : Slot) : x.indexed x.historyIndex = x := rfl

@[simp] theorem Slot.indexed_indexed (x : Slot) (h k : Option EntryNo) : (x.indexed h).indexed k = x.indexed k := rfl

theorem Slot.eq_of_forgotten {x y : Slot} (h : x.forgotten = y.forgotten) : x = y.indexed x.historyIndex :=
  (congrArg (fun z : Slot => z.indexed x.historyIndex) h :)

@[simp] theorem Slot.forgotten_indexed (x : Slot) (h : Option EntryNo) : (x.indexed h).forgotten = x.forgotten := rfl

/-- The two states agree on all that the handing on of a slot's fitness reads. -/
def alike (s u : State) : Prop :=
  u.time = s.time ∧ u.settings = s.settings ∧ u.routes = s.routes ∧ u.trace = s.trace ∧ u.pins = s.pins ∧
    ∀ i : SlotNo, (u.slot i).forgotten = (s.slot i).forgotten

theorem alike.refl (s : State) : alike s s := ⟨rfl, rfl, rfl, rfl, rfl, fun _ => rfl⟩

theorem alike.trans {s t u : State} (h : alike s t) (k : alike t u) : alike s u := by
  obtain ⟨time, settings, routes, trace, pins, slots⟩ := h
  obtain ⟨time', settings', routes', trace', pins', slots'⟩ := k
  exact ⟨time'.trans time, settings'.trans settings, routes'.trans routes, trace'.trans trace, pins'.trans pins,
    fun i => (slots' i).trans (slots i)⟩

theorem alike.of_sameRead {s u : State} (h : sameRead s u) : alike s u := by
  obtain ⟨time, settings, slots, routes, trace, pins⟩ := h
  exact ⟨time, settings, routes, trace, pins, fun i => by rw [State.slot_of_slots slots i]⟩

theorem alike.sameRouting {s u : State} (h : alike s u) : sameRouting s u := by
  obtain ⟨-, -, routes, trace, pins, -⟩ := h
  exact ⟨routes, trace, pins⟩

section
variable {s u : State} (h : alike s u)
include h

theorem alike.route (c : Channel) : u.route c = s.route c :=
  congrArg (fun routes : Vector Route 12 => routes[c]) h.2.2.1

theorem alike.routeCfg (c : Channel) : u.routeCfg c = s.routeCfg c := by
  rw [State.routeCfg, h.2.1, State.routeCfg]

theorem alike.slot (i : SlotNo) : u.slot i = (s.slot i).indexed (u.slot i).historyIndex :=
  Slot.eq_of_forgotten (h.2.2.2.2.2 i)

theorem alike.fit (i : SlotNo) (c : Channel) : u.fit i c = s.fit i c := by
  rw [State.fit, State.fit, h.slot i, h.routeCfg c]
  rfl

theorem alike.drawable (i : SlotNo) (c : Channel) : u.drawable i c = s.drawable i c := by
  rw [State.drawable, State.drawable, h.slot i, h.routeCfg c, State.policy, h.2.1]
  rfl

theorem alike.defaultFit (c : Channel) : u.defaultFit c = s.defaultFit c := by
  simp only [State.defaultFit, h.routeCfg c, h.fit]

theorem alike.leaveDefault (c : Channel) : u.leaveDefault c = s.leaveDefault c := by
  have filter (p : Pin) : u.filter p = s.filter p := by
    cases p <;> simp only [State.filter, h.2.2.2.2.1]
  simp only [State.leaveDefault, State.reportedLow, h.2.1, filter, h.routeCfg c, h.defaultFit c]

theorem alike.noSupply (c : Channel) : u.noSupply c = s.noSupply c := by
  simp only [State.noSupply_eq, h.route c, h.drawable]

end

theorem judgeRelation_alike (c : Channel) : JudgeRelation c alike where
  time h := h.1
  route h := h.route c
  routeCfg h := h.routeCfg c
  fit h i := h.fit i c
  drawable h i := h.drawable i c
  leaveDefault h := h.leaveDefault c
  putRoute h r := by
    obtain ⟨time, settings, routes, trace, pins, slots⟩ := h
    exact ⟨time, settings, congrArg (fun routes : Vector Route 12 => routes.set c r) routes, trace, pins, slots⟩
  raise h _ _ _ := h
  driveValve h := by
    have same := h.routeCfg c
    have route := h.route c
    obtain ⟨time, settings, routes, trace, pins, slots⟩ := h
    refine ⟨time, settings, routes, trace, ?_, slots⟩
    simp only [State.driveValve, pins, State.valveLevel, route, same]
  addTrace h e := by
    obtain ⟨time, settings, routes, trace, pins, slots⟩ := h
    exact ⟨time, settings, routes, congrArg (fun l : List TraceEntry => (if 10 ≤ l.length then l.drop 1 else l) ++ [e]) trace,
      pins, slots⟩

theorem alike.judgeFitness {s u : State} (h : alike s u) (before : State) (i : SlotNo) :
    alike (s.judgeFitness before i) (u.judgeFitness before i) :=
  Respects.foldl (f := State.handFitness before i) (fun c => (judgeRelation_alike c).handFitness before i) channels s u h

theorem alike.putSlot {s u : State} (h : alike s u) (i : SlotNo) {x y : Slot} (same : y.forgotten = x.forgotten) :
    alike (s.putSlot i x) (u.putSlot i y) := by
  obtain ⟨time, settings, routes, trace, pins, slots⟩ := h
  refine ⟨time, settings, routes, trace, pins, fun j => ?_⟩
  by_cases own : j = i
  · subst own
    rw [State.putSlot_same, State.putSlot_same, same]
  · rw [State.putSlot_other s x own, State.putSlot_other u y own, slots]

theorem alike.stepOn {s u : State} (h : alike s u) (i : SlotNo) {x y : Slot} (same : y.forgotten = x.forgotten) :
    alike (s.stepOn i x) (u.stepOn i y) := by
  have before : (u.putSlot i y).judgeFitness u i = (u.putSlot i y).judgeFitness s i :=
    State.judgeFitness_before (fun c => h.fit i c) (fun c => h.drawable i c) _
  rw [State.stepOn, State.stepOn, before]
  exact (h.putSlot i same).judgeFitness s i

/-- States that are changed only where no judging reads are alike. -/
theorem keepsBut.alike {bs : List Block} {s t : State} (k : keepsBut bs s t)
    (h : [Block.time, .settings, .routes, .trace, .pins].all (fun b => decide (b ∉ bs)) = true)
    (slots : ∀ i : SlotNo, (t.slot i).forgotten = (s.slot i).forgotten) : alike s t := by
  simp only [List.all_cons, List.all_nil, Bool.and_true, Bool.and_eq_true, decide_eq_true_eq] at h
  obtain ⟨time, settings, routes, trace, pins⟩ := h
  exact ⟨k.2.2 .time time, k.2.2 .settings settings, k.2.2 .routes routes, k.2.2 .trace trace, k.2.2 .pins pins, slots⟩

/-! ### The comparison of a slot's watches (R19) -/

theorem Slot.compared_indexed (x : Slot) (n : WatchNo) (h : Option EntryNo) :
    (x.indexed h).compared n = (x.compared n).indexed h := by
  have condition (w : Watch) : w.condition (x.indexed h) = w.condition x := by
    cases w with | mk k => cases k <;> rfl
  have watch : (x.indexed h).watch n = x.watch n := by cases n <;> rfl
  unfold Slot.compared
  rw [watch, condition]
  split
  · cases n <;> rfl
  · rfl

theorem Slot.firings_indexed (x : Slot) (i : SlotNo) (h : Option EntryNo) :
    (x.indexed h).firings i = x.firings i := by
  have condition (w : Watch) : w.condition (x.indexed h) = w.condition x := by
    cases w with | mk k => cases k <;> rfl
  have quantity (w : Watch) : w.quantity (x.indexed h) = w.quantity x := by
    cases w with | mk k => cases k <;> rfl
  have watch (n : WatchNo) : (x.indexed h).watch n = x.watch n := by cases n <;> rfl
  simp only [Slot.firings, watch, condition, quantity]

/-- What both comparisons make of a record: its watches and whether the slot is held, and nothing else. -/
theorem Slot.compared_shape (x : Slot) (n : WatchNo) :
    ∃ w0 w1 held, x.compared n = { x with w0 := w0, w1 := w1, held := held } := by
  unfold Slot.compared
  split
  · cases n <;> exact ⟨_, _, _, rfl⟩
  · exact ⟨x.w0, x.w1, x.held, rfl⟩

theorem Slot.bothCompared_shape (x : Slot) :
    ∃ w0 w1 held, (x.compared .w0).compared .w1 = { x with w0 := w0, w1 := w1, held := held } := by
  obtain ⟨a, b, c, first⟩ := x.compared_shape .w0
  obtain ⟨a', b', c', second⟩ := (x.compared .w0).compared_shape .w1
  exact ⟨a', b', c', by rw [second, first]⟩

theorem State.handedOn_eq (s : State) (i : SlotNo) (x : Slot) :
    s.handedOn i x = ((s.stepOn i x).stepOn i (x.compared .w0)).stepOn i ((x.compared .w0).compared .w1) := by
  simp only [State.handedOn, List.foldl_cons, List.foldl_nil, State.stepOn]

/-- R19, R20: the watches of a slot compared in a state that is alike the one in which it took its record. -/
theorem State.compareWatches_alike {s u : State} {i : SlotNo} {z : Slot} (taken : alike (s.stepOn i z) u)
    (own : (u.slot i).forgotten = z.forgotten) {kinds : List NoticeKind} (watch : .watch ∈ kinds) (route : .route ∉ kinds)
    (gate : .gate ∉ kinds) :
    alike (s.handedOn i z) (u.compareWatches i) ∧
      (u.compareWatches i).slot i =
        ((z.compared .w0).compared .w1).indexed (u.slot i).historyIndex ∧
      noticesWere kinds (z.firings i) u.notices (u.compareWatches i) := by
  have record : u.slot i = z.indexed (u.slot i).historyIndex := Slot.eq_of_forgotten own
  generalize (u.slot i).historyIndex = h at record ⊢
  obtain ⟨read, slot, -, told⟩ := State.compareWatches_handsOn i (sameRead.refl u) watch route gate
  rw [record, Slot.compared_indexed, Slot.compared_indexed] at read slot
  rw [record, Slot.firings_indexed] at told
  refine ⟨?_, slot, told⟩
  rw [State.handedOn_eq]
  exact ((taken.stepOn i (Slot.forgotten_indexed _ h)).stepOn i (Slot.forgotten_indexed _ h)).trans (.of_sameRead read)

end Sys2Proof.Machine

/-!
PROOFS. A debit by the slot's state (R13 to R17): the record it leaves, and the state in which the watches are compared.
-/

namespace Sys2Proof.Machine

open Sys2Proof

/-! ### The record -/

section
variable {x : Slot} (limit : Nat)

theorem Slot.charged_genuine (state : x.state = .genuine) : x.charged limit = x.drawGenuine := by
  simp only [Slot.charged, state]
  rfl

theorem Slot.charged_depleted (state : x.state = .depleted) :
    x.charged limit = if x.overdraw < limit then { x with overdraw := x.overdraw + 1 } else x.addUnbacked := by
  simp only [Slot.charged, state]
  split <;> simp [state, Slot.addUnbacked, satAdd]

theorem Slot.charged_grace (state : x.state = .grace) :
    x.charged limit =
      { x with grace := x.grace - 1, state := if x.grace - 1 = 0 then .spent else .grace } := by
  simp only [Slot.charged, state]

/-- R17: in the other states a debit is unbacked. -/
theorem Slot.charged_unbacked (genuine : x.state ≠ .genuine) (depleted : x.state ≠ .depleted) (grace : x.state ≠ .grace) :
    x.charged limit = x.addUnbacked := by
  unfold Slot.charged
  split
  · contradiction
  · contradiction
  · contradiction
  · rfl

/-- R14: only the last microlitre of a GENUINE slot makes it DEPLETED. -/
theorem Slot.runsDry_iff : x.runsDry limit = true ↔ x.state = .genuine ∧ x.remaining.getD 0 - 1 = 0 := by
  rw [Slot.runsDry, Bool.and_eq_true, decide_eq_true_eq, decide_eq_true_eq]
  refine and_congr_right fun genuine => ?_
  rw [Slot.charged_genuine limit genuine, Slot.drawGenuine]
  dsimp only
  split <;> simp_all

/-- R16: only the last of a GRACE slot's volume makes it SPENT. -/
theorem Slot.spends_iff : (x.state = .grace ∧ (x.charged limit).state = .spent) ↔ x.state = .grace ∧ x.grace - 1 = 0 := by
  refine and_congr_right fun grace => ?_
  rw [Slot.charged_grace limit grace]
  dsimp only
  split <;> simp_all

/-- R1, Note 5: with a move to SPENT the challenge nonce and the received tag go. -/
theorem Slot.debited_spends (state : x.state = .grace) (last : x.grace - 1 = 0) :
    x.debited limit = ({ x with grace := x.grace - 1, state := .spent } : Slot).leaveChallenge := by
  have spends : x.state = .grace ∧ (x.charged limit).state = .spent := (Slot.spends_iff limit).mpr ⟨state, last⟩
  rw [Slot.debited, if_pos spends, Slot.charged_grace limit state, if_pos last]
  rfl

theorem Slot.debited_stays (stays : ¬(x.state = .grace ∧ x.grace - 1 = 0)) : x.debited limit = x.charged limit :=
  if_neg (mt (Slot.spends_iff limit).mp stays)

theorem Slot.debited_genuine (state : x.state = .genuine) : x.debited limit = x.drawGenuine := by
  rw [Slot.debited_stays limit (by simp [state]), Slot.charged_genuine limit state]

theorem Slot.debited_depleted (state : x.state = .depleted) :
    x.debited limit = if x.overdraw < limit then { x with overdraw := x.overdraw + 1 } else x.addUnbacked := by
  rw [Slot.debited_stays limit (by simp [state]), Slot.charged_depleted limit state]

theorem Slot.debited_grace (state : x.state = .grace) (left : x.grace - 1 ≠ 0) :
    x.debited limit = { x with grace := x.grace - 1 } := by
  rw [Slot.debited_stays limit (by simp [left]), Slot.charged_grace limit state, if_neg left, ← state]

theorem Slot.debited_unbacked (genuine : x.state ≠ .genuine) (depleted : x.state ≠ .depleted) (grace : x.state ≠ .grace) :
    x.debited limit = x.addUnbacked := by
  rw [Slot.debited_stays limit (by simp [grace]), Slot.charged_unbacked limit genuine depleted grace]

/-- A debit leaves a slot's identity: its presence, tenure, cartridge, watches and history index, and what it fixed of
the cartridge. -/
theorem Slot.debited_shape :
    ∃ state remaining overdraw grace unbacked drawn nonce tag,
      x.debited limit =
        { x with
          state := state, remaining := remaining, overdraw := overdraw, grace := grace, unbacked := unbacked
          drawn := drawn, nonce := nonce, tag := tag } := by
  by_cases spends : x.state = .grace ∧ x.grace - 1 = 0
  · rw [Slot.debited_spends limit spends.1 spends.2]
    exact ⟨_, _, _, _, _, _, _, _, rfl⟩
  · rw [Slot.debited_stays limit spends]
    unfold Slot.charged
    split
    · exact ⟨_, _, _, _, _, _, _, _, rfl⟩
    · split <;> exact ⟨_, _, _, _, _, _, _, _, rfl⟩
    · exact ⟨_, _, _, _, _, _, _, _, rfl⟩
    · exact ⟨_, _, _, _, _, _, _, _, rfl⟩

end

/-! ### The state in which the watches are compared -/

/-- R13 to R17: a debit up to the comparison of the watches. -/
def State.charge (s : State) (i : SlotNo) : State :=
  let x := s.slot i
  let limit := s.policy.overdrawLimit
  let taken := s.putSlot i (x.debited limit)
  if x.runsDry limit = true then taken.enterDepleted s i
  else if x.state = .depleted ∧ x.overdraw < limit then
    (if x.overdraw + 1 = limit then taken.raise .slot (.slot i) (.overdrawLimit x.state x.tenure) else taken).judgeFitness
      s i
  else if x.state = .grace ∧ x.grace - 1 = 0 then s.changeSlot i { x with grace := x.grace - 1, state := .spent } none
  else taken

section
variable {s : State} {i : SlotNo}

theorem State.charge_dry (dry : (s.slot i).runsDry s.policy.overdrawLimit = true) :
    s.charge i = (s.putSlot i ((s.slot i).debited s.policy.overdrawLimit)).enterDepleted s i := if_pos dry

theorem State.runsDry_of_state (other : (s.slot i).state ≠ .genuine) :
    ¬(s.slot i).runsDry s.policy.overdrawLimit = true := by
  rw [Slot.runsDry_iff]
  exact fun dry => other dry.1

theorem State.charge_overdraws (state : (s.slot i).state = .depleted)
    (below : (s.slot i).overdraw < s.policy.overdrawLimit) :
    s.charge i =
      (if (s.slot i).overdraw + 1 = s.policy.overdrawLimit then
          (s.putSlot i ((s.slot i).debited s.policy.overdrawLimit)).raise .slot (.slot i)
            (.overdrawLimit (s.slot i).state (s.slot i).tenure)
        else s.putSlot i ((s.slot i).debited s.policy.overdrawLimit)).judgeFitness s i := by
  rw [State.charge, if_neg (State.runsDry_of_state (by rw [state]; decide)), if_pos ⟨state, below⟩]

theorem State.charge_spends (state : (s.slot i).state = .grace) (last : (s.slot i).grace - 1 = 0) :
    s.charge i = s.changeSlot i { s.slot i with grace := (s.slot i).grace - 1, state := .spent } none := by
  rw [State.charge, if_neg (State.runsDry_of_state (by rw [state]; decide)), if_neg (by simp [state]),
    if_pos ⟨state, last⟩]

theorem State.charge_takes (wet : ¬(s.slot i).runsDry s.policy.overdrawLimit = true)
    (depleted : ¬((s.slot i).state = .depleted ∧ (s.slot i).overdraw < s.policy.overdrawLimit))
    (grace : ¬((s.slot i).state = .grace ∧ (s.slot i).grace - 1 = 0)) :
    s.charge i = s.putSlot i ((s.slot i).debited s.policy.overdrawLimit) := by
  rw [State.charge, if_neg wet, if_neg depleted, if_neg grace]

theorem State.applyDebit_genuine (state : (s.slot i).state = .genuine) :
    s.applyDebit i = ((s.charge i).compareWatches i).stepDue i := by
  have debit : s.applyDebit i = s.debitGenuine i := by simp only [State.applyDebit, state]
  rw [debit, State.debitGenuine]
  by_cases dry : (s.slot i).runsDry s.policy.overdrawLimit = true
  · have empty : (s.slot i).drawGenuine.state = .depleted := if_pos ((Slot.runsDry_iff _).mp dry).2
    rw [State.charge_dry dry, Slot.debited_genuine _ state, if_pos empty]
  · have left : (s.slot i).drawGenuine.state ≠ .depleted := by
      have more : ¬((s.slot i).remaining.getD 0 - 1 = 0) := fun last => dry ((Slot.runsDry_iff _).mpr ⟨state, last⟩)
      simp [Slot.drawGenuine, more]
    rw [State.charge_takes dry (by simp [state]) (by simp [state]), Slot.debited_genuine _ state, if_neg left]

theorem State.applyDebit_other (state : (s.slot i).state ≠ .genuine) :
    s.applyDebit i = (s.charge i).compareWatches i := by
  have wet := State.runsDry_of_state state
  by_cases depleted : (s.slot i).state = .depleted
  · have debit : s.applyDebit i = s.debitDepleted i := by simp only [State.applyDebit, depleted]
    rw [debit, State.debitDepleted]
    by_cases below : (s.slot i).overdraw < s.policy.overdrawLimit
    · rw [State.charge_overdraws depleted below, Slot.debited_depleted _ depleted, if_pos below, if_pos below]
    · rw [State.charge_takes wet (by simp [below]) (by simp [depleted]), Slot.debited_depleted _ depleted,
        if_neg below, if_neg below]
  · by_cases grace : (s.slot i).state = .grace
    · have debit : s.applyDebit i = s.debitGrace i := by simp only [State.applyDebit, grace]
      rw [debit, State.debitGrace]
      by_cases last : (s.slot i).grace - 1 = 0
      · rw [State.charge_spends grace last, if_pos last]
        rfl
      · rw [State.charge_takes wet (by simp [depleted]) (by simp [last]), Slot.debited_grace _ grace last, if_neg last]
    · have debit : s.applyDebit i = (s.putSlot i (s.slot i).addUnbacked).compareWatches i := by
        unfold State.applyDebit
        split <;> simp_all
      rw [debit, State.charge_takes wet (by simp [depleted]) (by simp [grace]),
        Slot.debited_unbacked _ state depleted grace]

end

end Sys2Proof.Machine

/-!
PROOFS. What a debit leaves up to the comparison of the watches: the record and the hand-on, the notices, the entry of
the History Table (R12 to R17, R126).
-/

namespace Sys2Proof.Machine

open Sys2Proof

/-! ### Fitness -/

/-- R11, R12: but for the last microlitre, overdraw and the last of a grace volume, a debit leaves fitness and
drawability. -/
theorem Slot.debited_fit {x : Slot} {limit : Nat} (wet : ¬x.runsDry limit = true)
    (depleted : ¬(x.state = .depleted ∧ x.overdraw < limit)) (grace : ¬(x.state = .grace ∧ x.grace - 1 = 0)) (ink full : Nat) :
    (x.debited limit).fitFor ink = x.fitFor ink ∧ (x.debited limit).drawableFor ink full = x.drawableFor ink full := by
  rw [Slot.runsDry_iff] at wet
  by_cases genuine : x.state = .genuine
  · have more : ¬(x.remaining.getD 0 - 1 = 0) := fun last => wet ⟨genuine, last⟩
    rw [Slot.debited_genuine limit genuine]
    simp [Slot.fitFor, Slot.drawableFor, Slot.drawGenuine, more, genuine]
  · by_cases isDepleted : x.state = .depleted
    · rw [Slot.debited_depleted limit isDepleted, if_neg fun below => depleted ⟨isDepleted, below⟩]
      exact ⟨rfl, rfl⟩
    · by_cases isGrace : x.state = .grace
      · rw [Slot.debited_grace limit isGrace fun last => grace ⟨isGrace, last⟩]
        exact ⟨rfl, rfl⟩
      · rw [Slot.debited_unbacked limit genuine isDepleted isGrace]
        exact ⟨rfl, rfl⟩

theorem State.stepOn_putSlot {s : State} {i : SlotNo} {z : Slot}
    (fit : ∀ ink full, z.fitFor ink = (s.slot i).fitFor ink ∧ z.drawableFor ink full = (s.slot i).drawableFor ink full) :
    s.stepOn i z = s.putSlot i z :=
  State.judgeFitness_unchanged
    (fun c => (State.fit_of_slot (s := s) (t := s.putSlot i z) rfl (fun ink => by rw [State.putSlot_same]; exact (fit ink 0).1) c).symm)
    (fun c => (State.drawable_of_slot (s := s) (t := s.putSlot i z) rfl (fun ink full => by rw [State.putSlot_same]; exact (fit ink full).2) c).symm)

/-! ### Taking a record -/

/-- In A the slot has taken record z since s, fitness and drawability were handed on, and those notices of the two kinds
were raised. -/
structure State.TakesRecord (s : State) (i : SlotNo) (z : Slot) (listed : List (NoticeKind × Subject × Details))
    (A : State) : Prop where
  handed : alike (s.stepOn i z) A
  slot : (A.slot i).forgotten = z.forgotten
  told : noticesWere [.slot, .watch] listed s.notices A

/-- A slot takes a record in a state that is otherwise changed where no judging reads. -/
theorem State.TakesRecord.of_judged {s P : State} {i : SlotNo} {z : Slot}
    {listed : List (NoticeKind × Subject × Details)} (placed : alike (s.putSlot i z) P)
    (told : noticesWere [.slot, .watch] listed s.notices P) : s.TakesRecord i z listed (P.judgeFitness s i) where
  handed := placed.judgeFitness s i
  slot := by
    rw [State.slot_of_slots (State.judgeFitness_slots s P i), placed.2.2.2.2.2 i, State.putSlot_same]
  told := by
    obtain ⟨-, settings⟩ := State.judgeFitness_keepsSlots s P i
    have judged : noticesWere [.slot, .watch] [] P.notices (P.judgeFitness s i) :=
      State.judgeFitness_noticesWere (by decide) (by decide) (m := P) rfl (by simp) settings.symm rfl
    exact List.append_nil listed ▸ told.append judged settings

theorem State.noticesWere_nil {s t : State} (kinds : List NoticeKind) (same : t.notices = s.notices) :
    noticesWere kinds [] s.notices t := ⟨[], rfl, same⟩

/-! ### The last microlitre (R14, R126) -/

/-- R14: the slot DEPLETED, its checkpoint placed and its entry marked, before the SLOT notice. -/
def State.driedUp (s : State) (i : SlotNo) : State :=
  ((s.putSlot i ((s.slot i).debited s.policy.overdrawLimit)).depletionDue i).markDepleted i

theorem State.depletionDue_keeps' (s : State) (i : SlotNo) : keepsBut [.lines, .digest] s (s.depletionDue i) := by
  unfold State.depletionDue
  split <;> simp

theorem State.driedUp_keeps (s : State) (i : SlotNo) :
    keepsBut [.lines, .digest, .slots, .history, .nvm, .notices] s (s.driedUp i) := by
  have due := State.depletionDue_keeps' (s.putSlot i ((s.slot i).debited s.policy.overdrawLimit)) i
  have placed : keepsBut [.lines, .digest, .slots] s
      ((s.putSlot i ((s.slot i).debited s.policy.overdrawLimit)).depletionDue i) :=
    keepsBut.trans (by simp) (due.mono (by simp))
  rw [State.driedUp, State.markDepleted_keeps (by simp)]
  exact placed.mono (by simp)

theorem State.driedUp_slots (s : State) (i : SlotNo) :
    ((s.driedUp i).slot i).forgotten = ((s.slot i).debited s.policy.overdrawLimit).forgotten ∧
      ∀ j : SlotNo, j ≠ i → (s.driedUp i).slot j = s.slot j ∨ (s.driedUp i).slot j = { s.slot j with historyIndex := none } := by
  have due := State.depletionDue_keeps' (s.putSlot i ((s.slot i).debited s.policy.overdrawLimit)) i
  have placed (j : SlotNo) := State.slot_of_slots (due.2.2 .slots (by decide)) j
  obtain ⟨own, others⟩ := State.historyUpdate_slots
    ((s.putSlot i ((s.slot i).debited s.policy.overdrawLimit)).depletionDue i) i (Updates.addMarks true false)
  rw [placed i, State.putSlot_same] at own
  refine ⟨(congrArg Slot.forgotten own).trans rfl, fun j other => ?_⟩
  have kept := others j other
  rwa [placed j, State.putSlot_other s _ other] at kept

theorem Slot.with_index_forgotten {x y : Slot} (h : x = y ∨ x = { y with historyIndex := none }) :
    x.forgotten = y.forgotten := by
  rcases h with rfl | rfl
  · rfl
  · exact Slot.forgotten_indexed y none

theorem State.driedUp_alike (s : State) (i : SlotNo) :
    alike (s.putSlot i ((s.slot i).debited s.policy.overdrawLimit)) (s.driedUp i) := by
  obtain ⟨own, others⟩ := s.driedUp_slots i
  have kept : keepsBut [.lines, .digest, .slots, .history, .nvm, .notices]
      (s.putSlot i ((s.slot i).debited s.policy.overdrawLimit)) (s.driedUp i) :=
    keepsBut.trans (t := s) (by simp [keepsBut_iff, State.putSlot]) (s.driedUp_keeps i)
  refine kept.alike (by decide) fun j => ?_
  by_cases same : j = i
  · subst same
    rw [own, State.putSlot_same]
  · rw [State.putSlot_other s _ same]
    exact Slot.with_index_forgotten (others j same)

/-- R117, R126: the mark and what it evicts raise no SLOT and no WATCH notice. -/
theorem State.markDepleted_told (s : State) (i : SlotNo) : noticesWere [.slot, .watch] [] s.notices (s.markDepleted i) := by
  cases own : (s.slot i).serial with
  | none =>
    rw [State.markDepleted, State.historyUpdate_none own]
    exact noticesWere.refl _ _
  | some serial =>
    obtain ⟨u, n, e, k, work, closed, -⟩ := State.historyUpdate_work own (Updates.addMarks true false)
      fun t n => t.addMarks_work n true false
    rw [State.markDepleted, closed]
    exact work.told _ (by decide)

theorem State.driedUp_told (s : State) (i : SlotNo) : noticesWere [.slot, .watch] [] s.notices (s.driedUp i) := by
  have due := State.depletionDue_keeps' (s.putSlot i ((s.slot i).debited s.policy.overdrawLimit)) i
  have notices : ((s.putSlot i ((s.slot i).debited s.policy.overdrawLimit)).depletionDue i).notices = s.notices :=
    due.2.2 .notices (by decide)
  exact notices ▸ State.markDepleted_told _ i

theorem State.enterDepleted_eq (s : State) (i : SlotNo) :
    (s.putSlot i ((s.slot i).debited s.policy.overdrawLimit)).enterDepleted s i =
      ((s.driedUp i).raise .slot (.slot i) (slotDetails (s.slot i) ((s.driedUp i).slot i) none)).judgeFitness s i := rfl

theorem slotDetails_indexed (x y : Slot) (h : Option EntryNo) (k : Option (TransKind × FailKind)) :
    slotDetails x (y.indexed h) k = slotDetails x y k := rfl

/-! ### All debits -/

/-- R12 to R17: the record, the hand-on and the SLOT notice of a debit. -/
theorem State.charge_takesRecord (s : State) (i : SlotNo) :
    s.TakesRecord i ((s.slot i).debited s.policy.overdrawLimit) ((s.slot i).debitNotice s.policy.overdrawLimit i)
      (s.charge i) := by
  by_cases dry : (s.slot i).runsDry s.policy.overdrawLimit = true
  · obtain ⟨genuine, last⟩ := (Slot.runsDry_iff _).mp dry
    have record := Slot.eq_of_forgotten (s.driedUp_slots i).1
    have details : slotDetails (s.slot i) ((s.driedUp i).slot i) none =
        .slot .depleted .genuine (s.slot i).tenure none none := by
      rw [record, slotDetails_indexed, Slot.debited_genuine _ genuine]
      simp [slotDetails, Slot.drawGenuine, last, genuine]
    have listed : (s.slot i).debitNotice s.policy.overdrawLimit i =
        [(.slot, .slot i, .slot .depleted .genuine (s.slot i).tenure none none)] := if_pos dry
    rw [State.charge_dry dry, State.enterDepleted_eq, details, listed]
    exact .of_judged (s.driedUp_alike i) ((s.driedUp_told i).append (State.raise_noticesWere _ _ _ _ (by decide)) rfl)
  · by_cases overdraws : (s.slot i).state = .depleted ∧ (s.slot i).overdraw < s.policy.overdrawLimit
    · obtain ⟨depleted, below⟩ := overdraws
      rw [State.charge_overdraws depleted below]
      by_cases full : (s.slot i).overdraw + 1 = s.policy.overdrawLimit
      · have listed : (s.slot i).debitNotice s.policy.overdrawLimit i =
            [(.slot, .slot i, .overdrawLimit .depleted (s.slot i).tenure)] := by
          rw [Slot.debitNotice, if_neg dry, if_pos ⟨depleted, full⟩]
        rw [if_pos full, listed, depleted]
        exact .of_judged (.refl _) (State.raise_noticesWere (s.putSlot i _) _ _ _ (by decide))
      · have listed : (s.slot i).debitNotice s.policy.overdrawLimit i = [] := by
          rw [Slot.debitNotice, if_neg dry, if_neg (by simp [full]), if_neg (by simp [depleted])]
        rw [if_neg full, listed]
        exact .of_judged (.refl _) (State.noticesWere_nil _ rfl)
    · by_cases spends : (s.slot i).state = .grace ∧ (s.slot i).grace - 1 = 0
      · obtain ⟨grace, last⟩ := spends
        have listed : (s.slot i).debitNotice s.policy.overdrawLimit i =
            [(.slot, .slot i, .slot .spent .grace (s.slot i).tenure none none)] := by
          rw [Slot.debitNotice, if_neg dry, if_neg (by simp [grace]), if_pos ((Slot.spends_iff _).mpr ⟨grace, last⟩)]
        rw [State.charge_spends grace last, listed, Slot.debited_spends _ grace last]
        have stays : ((s.slot i).state.supplies &&
            !({ s.slot i with grace := (s.slot i).grace - 1, state := .spent } : Slot).leaveChallenge.state.supplies) =
            false := by rw [grace]; rfl
        have details : slotDetails (s.slot i)
            ({ s.slot i with grace := (s.slot i).grace - 1, state := .spent } : Slot).leaveChallenge none =
            .slot .spent .grace (s.slot i).tenure none none := by rw [slotDetails, grace]; rfl
        rw [State.changeSlot]
        dsimp only
        rw [stays, details, if_neg (by decide)]
        exact .of_judged (.refl _) (State.raise_noticesWere (s.putSlot i _) _ _ _ (by decide))
      · have listed : (s.slot i).debitNotice s.policy.overdrawLimit i = [] := by
          rw [Slot.debitNotice, if_neg dry, if_neg, if_neg (mt (Slot.spends_iff _).mp spends)]
          rintro ⟨depleted, full⟩
          exact overdraws ⟨depleted, by omega⟩
        rw [State.charge_takes dry overdraws spends, listed]
        refine ⟨?_, ?_, State.noticesWere_nil _ rfl⟩
        · rw [State.stepOn_putSlot (Slot.debited_fit dry overdraws spends)]
          exact .refl _
        · rw [State.putSlot_same]

end Sys2Proof.Machine

/-!
PROOFS. NO_SUPPLY follows the slot that feeds a channel (R63): a judging that moves the channel sets it, and so does a
change of the drawability of the slot that feeds it (R12).
-/

namespace Sys2Proof.Machine

open Sys2Proof

/-- R63: NO_SUPPLY is what the slot that feeds the channel makes it. -/
def State.supplyHolds (s : State) (c : Channel) : Prop := (s.route c).gate.noSupply = s.noSupply c

/-- A change of the routing that leaves the conditions and POWER_SAVE, and either the slot that feeds the channel and
NO_SUPPLY, or NO_SUPPLY as R63 has it. -/
def judgesSupply (c : Channel) (s t : State) : Prop :=
  sameConditions s t ∧ (t.route c).gate.powerSave = (s.route c).gate.powerSave ∧
    (((t.route c).active = (s.route c).active ∧ (t.route c).gate.noSupply = (s.route c).gate.noSupply) ∨ t.supplyHolds c)

theorem State.noSupply_of_active {s t : State} {c : Channel} (h : sameConditions s t)
    (active : (t.route c).active = (s.route c).active) : t.noSupply c = s.noSupply c := by
  simp only [State.noSupply_eq, active, h.drawable c]

namespace judgesSupply

variable {c : Channel} {s t u : State}

theorem refl (c : Channel) (s : State) : judgesSupply c s s := ⟨⟨rfl, rfl, fun _ => rfl⟩, rfl, .inl ⟨rfl, rfl⟩⟩

theorem trans (h : judgesSupply c s t) (k : judgesSupply c t u) : judgesSupply c s u := by
  obtain ⟨conditions, save, first⟩ := h
  obtain ⟨conditions', save', second⟩ := k
  refine ⟨conditions.trans conditions', save'.trans save, ?_⟩
  rcases second with ⟨active, gate⟩ | holds
  · rcases first with ⟨active', gate'⟩ | holds
    · exact .inl ⟨active.trans active', gate.trans gate'⟩
    · exact .inr (gate.trans (holds.trans (State.noSupply_of_active conditions' active).symm))
  · exact .inr holds

theorem putRoute {x : Route} (active : x.active = (s.route c).active)
    (gate : x.gate = (s.route c).gate) : judgesSupply c s (s.putRoute c x) := by
  refine ⟨s.putRoute_sameConditions c x, ?_, .inl ?_⟩ <;> rw [State.putRoute_same, gate]
  exact ⟨active, rfl⟩

theorem putRoute_raiseRoute {x : Route} (b : Bool) (active : x.active = (s.route c).active)
    (gate : x.gate = (s.route c).gate) : judgesSupply c s ((s.putRoute c x).raiseRoute c b) :=
  (putRoute active gate).trans ⟨State.raise_sameConditions _ _ _ _, rfl, .inl ⟨rfl, rfl⟩⟩

end judgesSupply

section
variable (s : State) (c : Channel)

theorem State.switchTo_judgesSupply (k : SwitchCause) : judgesSupply c s (s.switchTo c k) := by
  have conditions := s.switchTo_sameConditions c k
  refine ⟨conditions, by rw [State.switchTo_route], .inr ?_⟩
  rw [State.supplyHolds, State.noSupply_eq, State.switchTo_route]
  simp only [conditions.drawable c, Route.switched]

theorem State.expirePendingAlt_judgesSupply : judgesSupply c s (s.expirePendingAlt c) := by
  unfold State.expirePendingAlt
  split
  · exact s.switchTo_judgesSupply c _
  · exact judgesSupply.putRoute_raiseRoute _ rfl rfl

theorem State.judgeOnDefault_judgesSupply : judgesSupply c s (s.judgeOnDefault c) := by
  have placed : judgesSupply c s (s.startLeave c) := judgesSupply.putRoute_raiseRoute _ rfl rfl
  unfold State.judgeOnDefault
  split
  · unfold State.enterPendingAlt
    dsimp only
    split
    · exact placed.trans (State.expirePendingAlt_judgesSupply _ c)
    · exact placed
  · exact .refl c s

theorem State.enterPendingDefault_judgesSupply : judgesSupply c s (s.enterPendingDefault c) := by
  have placed : judgesSupply c s (s.startReturn c) := judgesSupply.putRoute_raiseRoute _ rfl rfl
  rw [State.enterPendingDefault_eq]
  split
  · exact (placed.trans (State.switchTo_judgesSupply _ c _)).trans (State.judgeOnDefault_judgesSupply _ c)
  · exact placed

theorem State.judgeRevert_judgesSupply : judgesSupply c s (s.judgeRevert c) := by
  have started : judgesSupply c s
      (s.putRoute c { s.route c with revertTimer := some (s.after (s.routeCfg c).revertDelay) }) :=
    judgesSupply.putRoute rfl rfl
  unfold State.judgeRevert
  dsimp only
  split
  · split
    · exact .refl c s
    · split
      · exact (started.trans (State.switchTo_judgesSupply _ c _)).trans (State.judgeOnDefault_judgesSupply _ c)
      · exact started
  · exact judgesSupply.putRoute rfl rfl

theorem State.cancelPending_judgesSupply (back : RouteState) : judgesSupply c s (s.cancelPending c back) :=
  judgesSupply.putRoute_raiseRoute _ rfl rfl

theorem State.judgePendingAlt_judgesSupply : judgesSupply c s (s.judgePendingAlt c) := by
  unfold State.judgePendingAlt
  split
  · exact s.cancelPending_judgesSupply c _
  · split
    · exact s.switchTo_judgesSupply c _
    · exact .refl c s

/-- R53, R63: a judging, whatever the route state. -/
theorem State.judgeRoute_judgesSupply : judgesSupply c s (s.judgeRoute c) := by
  unfold State.judgeRoute
  cases (s.route c).state with
  | unrouted => exact .refl c s
  | onDefault => exact s.judgeOnDefault_judgesSupply c
  | pendingAlt => exact s.judgePendingAlt_judgesSupply c
  | onAlternate =>
    dsimp only
    unfold State.judgeOnAlternate
    split
    · exact s.enterPendingDefault_judgesSupply c
    · exact s.judgeRevert_judgesSupply c
  | pendingDefault =>
    dsimp only
    unfold State.judgePendingDefault
    split
    · exact .refl c s
    · exact (s.cancelPending_judgesSupply c _).trans (State.judgeRevert_judgesSupply _ c)

end

/-! ### A slot takes a record (R12, R63) -/

theorem State.judgeSupply_supplyHolds (s : State) (c : Channel) : (s.judgeSupply c).supplyHolds c := by
  have conditions : sameConditions s (s.judgeSupply c) := s.setGate_sameConditions c _
  have route : (s.judgeSupply c).route c = { s.route c with gate := { (s.route c).gate with noSupply := s.noSupply c } } :=
    State.setGate_route s c _
  rw [State.supplyHolds, State.noSupply_of_active conditions (by rw [route]), route]

theorem State.refit_judgesSupply (before s : State) (i : SlotNo) (c : Channel) :
    judgesSupply c s (State.refit before i s c) := by
  unfold State.refit
  split
  · exact s.judgeRoute_judgesSupply c
  · exact .refl c s

/-- R63: the handing on of the slot's new record keeps NO_SUPPLY as the slot that feeds the channel makes it. -/
theorem State.handFitness_supplyHolds {u : State} {i : SlotNo} {y : Slot} {c : Channel} (holds : u.supplyHolds c) :
    (State.handFitness u i (u.putSlot i y) c).supplyHolds c := by
  have otherDrawable {j : SlotNo} (other : j ≠ i) : (u.putSlot i y).drawable j c = u.drawable j c := by
    simp only [State.drawable, State.putSlot_other u y other]
    rfl
  have judged := State.refit_judgesSupply u (u.putSlot i y) i c
  rw [State.handFitness_eq]
  generalize State.refit u i (u.putSlot i y) c = v at judged ⊢
  split
  · exact v.judgeSupply_supplyHolds c
  next quiet =>
    obtain ⟨conditions, -, ⟨active, gate⟩ | judged⟩ := judged
    · have supply : v.noSupply c = u.noSupply c := by
        rw [State.noSupply_of_active conditions active, State.noSupply_eq, State.noSupply_eq]
        cases feeds : (u.route c).active with
        | none =>
          rw [show ((u.putSlot i y).route c).active = none from feeds]
          rfl
        | some j =>
          rw [show ((u.putSlot i y).route c).active = some j from feeds]
          by_cases own : j = i
          · subst own
            have same : u.drawable j c = (u.putSlot j y).drawable j c :=
              Decidable.of_not_not fun changed => quiet ⟨changed, active.trans feeds⟩
            simp [same]
          · simp [otherDrawable own]
      exact gate.trans (holds.trans supply.symm)
    · exact judged

theorem State.stepOn_supplyHolds {u : State} (i : SlotNo) (y : Slot) {c : Channel} (holds : u.supplyHolds c) :
    (u.stepOn i y).supplyHolds c := by
  have judged := State.handFitness_supplyHolds (i := i) (y := y) holds
  have route : (u.stepOn i y).route c = (State.handFitness u i (u.putSlot i y) c).route c :=
    State.judgeFitness_route u (u.putSlot i y) i c
  have kept : keepsBut [.routes, .trace, .pins, .notices] (u.putSlot i y) (u.stepOn i y) := by simp [State.stepOn]
  have conditions := (sameConditions_of_keeps kept fun p => State.judgeFitness_filter ..).1
  have conditions' := (State.handFitness_sameConditions u i (u.putSlot i y) c).1
  rw [State.supplyHolds, route, judged, State.noSupply_eq, State.noSupply_eq, route]
  simp only [conditions.drawable c, conditions'.drawable c]

/-! ### POWER_SAVE (R189) -/

/-- No judging touches POWER_SAVE. -/
theorem State.handFitness_powerSave (before s : State) (i : SlotNo) (c : Channel) :
    ((State.handFitness before i s c).route c).gate.powerSave = (s.route c).gate.powerSave := by
  obtain ⟨-, judged, -⟩ := State.refit_judgesSupply before s i c
  rw [State.handFitness_eq]
  split
  · rw [State.judgeSupply, State.setGate_route]
    exact judged
  · exact judged

theorem State.handedOn_powerSave (s : State) (i : SlotNo) (z : Slot) (c : Channel) :
    ((s.handedOn i z).route c).gate.powerSave = (s.route c).gate.powerSave := by
  have step (u : State) (y : Slot) : ((u.stepOn i y).route c).gate.powerSave = (u.route c).gate.powerSave := by
    rw [State.stepOn, State.judgeFitness_route, State.handFitness_powerSave]
    rfl
  rw [State.handedOn_eq, step, step, step]

/-! ### What a debit hands on -/

theorem State.handedOn_supplyHolds {s : State} (i : SlotNo) (z : Slot) {c : Channel} (holds : s.supplyHolds c) :
    (s.handedOn i z).supplyHolds c := by
  rw [State.handedOn_eq]
  exact State.stepOn_supplyHolds i _ (State.stepOn_supplyHolds i _ (State.stepOn_supplyHolds i _ holds))

theorem alike.supplyHolds {s u : State} (h : alike s u) {c : Channel} (holds : s.supplyHolds c) : u.supplyHolds c := by
  rw [State.supplyHolds, h.route c, h.noSupply c]
  exact holds

end Sys2Proof.Machine

/-!
PROOFS. A checkpoint that becomes due (R23, R24, R104, R105, R107): what placing it makes of the line and of the Digest
Engine, once or twice in one debit.
-/

namespace Sys2Proof.Machine

open Sys2Proof

/-- What a line and the Digest Engine are after a checkpoint was placed, or was not: it begins on a line that takes it,
with the request that asked makes; on a line that is not IDLE it is pending. -/
structure CheckpointPlaced (due : Bool) (l : LineCtl) (d : Digest) (x : Slot) (asked : Digest) (l' : LineCtl)
    (d' : Digest) : Prop where
  notDue : due = false → l' = l
  pends : due = true → l.state ≠ .idle → l' = { l with pendCheckpoint := true }
  begins : (due && l.takesCheckpoint) = true → l' = l.checkpointing x
  digest : d' = if due && l.takesCheckpoint then asked else d
  busy : due = true → l'.state ≠ .idle

theorem CheckpointPlaced.none (l : LineCtl) (d : Digest) (x : Slot) (asked : Digest) :
    CheckpointPlaced false l d x asked l d where
  notDue _ := rfl
  pends due := nomatch due
  begins due := nomatch due
  digest := rfl
  busy due := nomatch due

/-- R105: a line on which a checkpoint was placed is not IDLE. -/
theorem State.placeCheckpoint_notIdle (s : State) (i : SlotNo) : ((s.placeCheckpoint i).line i).state ≠ .idle := by
  by_cases idle : (s.line i).state = .idle
  · obtain ⟨t, isPlaced⟩ : ∃ t, t = s.putLine i { s.line i with pendCheckpoint := true } := ⟨_, rfl⟩
    have line : t.line i = { s.line i with pendCheckpoint := true } := by rw [isPlaced, State.putLine_same]
    have placed : s.placeCheckpoint i = t.takePending i := by rw [isPlaced]; rfl
    have idle_t : (t.line i).state = .idle := by rw [line]; exact idle
    rw [placed]
    cases probe : (t.line i).pendProbe with
    | some step =>
      cases step with
      | identify =>
        rw [State.takePending_identify idle_t probe, State.putLine_same]
        exact nofun
      | readFill =>
        rw [State.takePending_readFill idle_t probe, State.putLine_same]
        exact nofun
    | none =>
      cases challenge : (t.line i).pendChallenge with
      | some n =>
        rw [State.takePending_challenge idle_t probe challenge, State.putLine_same]
        exact nofun
      | none =>
        rw [State.takePending_checkpoint idle_t probe challenge (by rw [line]), State.startCheckpoint_eq]
        change ((t.putLine i ((t.line i).checkpointing (t.slot i))).line i).state ≠ .idle
        rw [State.putLine_same]
        exact nofun
  · rw [State.placeCheckpoint_busy idle, State.putLine_same]
    exact idle

theorem State.placeCheckpoint_placed (s : State) (i : SlotNo) :
    CheckpointPlaced true (s.line i) s.digest (s.slot i) (s.digestWithWriteTag s.digest i (s.slot i))
      ((s.placeCheckpoint i).line i) (s.placeCheckpoint i).digest where
  notDue due := nomatch due
  pends _ busy := by rw [State.placeCheckpoint_busy busy, State.putLine_same]
  begins takes := by
    rw [State.placeCheckpoint_takes takes]
    exact State.putLine_same s i _
  digest := s.placeCheckpoint_digest i
  busy _ := s.placeCheckpoint_notIdle i

theorem State.placeCheckpoint_if (s : State) (i : SlotNo) (due : Bool) :
    CheckpointPlaced due (s.line i) s.digest (s.slot i) (s.digestWithWriteTag s.digest i (s.slot i))
      ((if due = true then s.placeCheckpoint i else s).line i) (if due = true then s.placeCheckpoint i else s).digest := by
  cases due with
  | true => exact s.placeCheckpoint_placed i
  | false => exact .none _ _ _ _

theorem LineCtl.checkpointing_inFlight (l : LineCtl) (x : Slot) : (l.checkpointing x).checkpointInFlight = true := rfl

/-- R23, R24, R104: two that become due are one entry; once one is in flight no second is placed. -/
theorem CheckpointPlaced.twice {a b : Bool} {l l' l'' : LineCtl} {d d' d'' asked asked' : Digest} {x : Slot}
    (first : CheckpointPlaced a l d x asked l' d')
    (second : CheckpointPlaced b l' d' x asked' l'' d'') (same : a = false → asked' = asked)
    (once : b = true → a = true → l'.checkpointInFlight = false) :
    CheckpointPlaced (a || b) l d x asked l'' d'' := by
  obtain ⟨notDue, pends, begins, digest, busy⟩ := first
  cases a with
  | false =>
    obtain rfl := notDue rfl
    obtain rfl : d' = d := digest
    exact same rfl ▸ second
  | true =>
    cases b with
    | false =>
      obtain ⟨notDue', -, -, digest', -⟩ := second
      obtain rfl := notDue' rfl
      obtain rfl : d'' = d' := digest'
      exact ⟨nofun, pends, begins, digest, busy⟩
    | true =>
      have untaken : l.takesCheckpoint = false := by
        by_contra takes
        have inFlight := once rfl rfl
        rw [begins (by simpa using takes), LineCtl.checkpointing_inFlight] at inFlight
        cases inFlight
      have untaken' : l'.takesCheckpoint = false := by
        simp [LineCtl.takesCheckpoint, busy rfl]
      obtain ⟨-, pends', -, digest', busy'⟩ := second
      simp only [Bool.true_and, untaken, untaken'] at digest digest'
      refine ⟨nofun, fun _ isBusy => ?_, fun takes => ?_, ?_, busy'⟩
      · rw [pends' rfl (busy rfl), pends rfl isBusy]
      · simp [untaken] at takes
      · simp only [Bool.or_true, Bool.true_and, untaken]
        exact digest'.trans digest

end Sys2Proof.Machine

/-!
PROOFS. The whole of a debit (R13 to R20, R23, R126): what its steps leave, its checkpoint and its mark.
-/

namespace Sys2Proof.Machine

open Sys2Proof

/-! ### After the comparison of the watches -/

/-- R19, R23: the comparison and the step leave what the debit made, but for the watches and what they hand on. -/
theorem State.applyDebit_after (s : State) (i : SlotNo) :
    let t := s.applyDebit i
    let z := (s.slot i).debited s.policy.overdrawLimit
    keepsBut [.slots, .routes, .pins, .trace, .notices, .lines, .digest] (s.charge i) t ∧
      otherSlots i (s.charge i) t ∧
      t.slot i = ((z.compared .w0).compared .w1).indexed ((s.charge i).slot i).historyIndex ∧
      alike (s.handedOn i z) t ∧
      noticesWere [.slot, .watch] ((s.slot i).debitNotice s.policy.overdrawLimit i ++ z.firings i) s.notices t := by
  intro t z
  obtain ⟨handed, own, told⟩ := s.charge_takesRecord i
  obtain ⟨handed', slot, fired⟩ := State.compareWatches_alike (kinds := [.slot, .watch]) handed own (by decide) (by decide)
    (by decide)
  obtain ⟨w, isCompared⟩ : ∃ w, w = (s.charge i).compareWatches i := ⟨_, rfl⟩
  have compared : keepsBut [.slots, .routes, .pins, .trace, .notices] (s.charge i) w := by rw [isCompared]; simp
  have others : otherSlots i (s.charge i) w := isCompared ▸ State.compareWatches_otherSlots _ i
  have stepped : keepsBut [.lines, .digest] w t := by
    by_cases genuine : (s.slot i).state = .genuine
    · have shape : t = w.stepDue i := (State.applyDebit_genuine genuine).trans (by rw [isCompared])
      rw [shape]
      simp
    · have shape : t = w := (State.applyDebit_other genuine).trans isCompared.symm
      rw [shape]
      simp
  rw [← isCompared] at handed' slot fired
  have slots : t.slots = w.slots := stepped.2.2 .slots (by decide)
  have settings : w.settings = (s.charge i).settings := compared.2.2 .settings (by decide)
  refine ⟨(compared.mono (by simp)).trans (stepped.mono (by simp)), others.trans (otherSlots.of_slots slots),
    (State.slot_of_slots slots i).trans slot, handed'.trans (.of_sameRead (stepped.sameRead (by decide))), ?_⟩
  have kept : noticesWere [.slot, .watch] [] w.notices t := State.noticesWere_nil _ (stepped.2.2 .notices (by decide))
  have all := (told.append fired settings).append kept (stepped.2.2 .settings (by decide))
  rwa [List.append_nil] at all

/-! ### A debit without a mark -/

/-- R12 to R17: but for the last microlitre, a debit replaces the record, raises its notice and hands on. -/
theorem State.charge_wet {s : State} {i : SlotNo} (wet : ¬(s.slot i).runsDry s.policy.overdrawLimit = true) :
    keepsBut [.routes, .pins, .trace, .notices] (s.putSlot i ((s.slot i).debited s.policy.overdrawLimit)) (s.charge i) := by
  by_cases overdraws : (s.slot i).state = .depleted ∧ (s.slot i).overdraw < s.policy.overdrawLimit
  · rw [State.charge_overdraws overdraws.1 overdraws.2]
    split <;> simp
  · by_cases spends : (s.slot i).state = .grace ∧ (s.slot i).grace - 1 = 0
    · have stays : ((s.slot i).state.supplies &&
          !({ s.slot i with grace := (s.slot i).grace - 1, state := .spent } : Slot).leaveChallenge.state.supplies) =
          false := by rw [spends.1]; rfl
      rw [State.charge_spends spends.1 spends.2, Slot.debited_spends _ spends.1 spends.2, State.changeSlot]
      dsimp only
      rw [stays, if_neg (by decide)]
      simp
    · rw [State.charge_takes wet overdraws spends]
      simp

/-- R126: a debit that adds no mark leaves the History Table and the writer. -/
theorem State.charge_unmarked {s : State} {i : SlotNo}
    (unmarked : ((s.slot i).runsDry s.policy.overdrawLimit && (s.slot i).serial.isSome) = false) :
    keepsBut [.lines, .digest, .routes, .pins, .trace, .notices]
      (s.putSlot i ((s.slot i).debited s.policy.overdrawLimit)) (s.charge i) := by
  by_cases dry : (s.slot i).runsDry s.policy.overdrawLimit = true
  · have none : (s.slot i).serial = none := by simpa [dry] using unmarked
    obtain ⟨placed, isPlaced⟩ : ∃ placed, placed =
        (s.putSlot i ((s.slot i).debited s.policy.overdrawLimit)).depletionDue i := ⟨_, rfl⟩
    have due : keepsBut [.lines, .digest] (s.putSlot i ((s.slot i).debited s.policy.overdrawLimit)) placed :=
      isPlaced ▸ State.depletionDue_keeps' _ i
    obtain ⟨_, _, _, _, _, _, _, _, shape⟩ := Slot.debited_shape (x := s.slot i) s.policy.overdrawLimit
    have slot : placed.slot i = (s.slot i).debited s.policy.overdrawLimit :=
      (State.slot_of_slots (due.2.2 .slots (by decide)) i).trans (State.putSlot_same s i _)
    have unmarked : placed.markDepleted i = placed := State.historyUpdate_none (by rw [slot, shape]; exact none) _
    have same : s.driedUp i = placed := by rw [State.driedUp, ← isPlaced, unmarked]
    rw [State.charge_dry dry, State.enterDepleted_eq, same]
    simpa using due.mono (by simp)
  · exact (State.charge_wet dry).mono (by simp)

/-! ### The mark -/

theorem State.driedUp_charge {s : State} {i : SlotNo} (dry : (s.slot i).runsDry s.policy.overdrawLimit = true) :
    keepsBut [.routes, .pins, .trace, .notices] (s.driedUp i) (s.charge i) := by
  rw [State.charge_dry dry, State.enterDepleted_eq]
  simp

/-- R126, R118: the last microlitre works on the entry of the slot's serial and closes the update. -/
theorem State.driedUp_marks {s : State} {i : SlotNo} {serial : Serial} (own : (s.slot i).serial = some serial) :
    ∃ placed u n e k, keepsBut [.lines, .digest] (s.putSlot i ((s.slot i).debited s.policy.overdrawLimit)) placed ∧
      TableWork n placed u ∧ s.driedUp i = u.closeUpdate i n ∧
      u.entry n = some { e.marked true false with stamp := k } ∧ u.history.nextStamp = k + 1 ∧
      s.entryFor serial ((s.slot i).historyEntry serial) n e := by
  obtain ⟨placed, isPlaced⟩ : ∃ placed, placed =
      (s.putSlot i ((s.slot i).debited s.policy.overdrawLimit)).depletionDue i := ⟨_, rfl⟩
  have due : keepsBut [.lines, .digest] (s.putSlot i ((s.slot i).debited s.policy.overdrawLimit)) placed :=
    isPlaced ▸ State.depletionDue_keeps' _ i
  obtain ⟨_, _, _, _, _, _, _, _, shape⟩ := Slot.debited_shape (x := s.slot i) s.policy.overdrawLimit
  have slot : placed.slot i = (s.slot i).debited s.policy.overdrawLimit :=
    (State.slot_of_slots (due.2.2 .slots (by decide)) i).trans (State.putSlot_same s i _)
  have serialOf : (placed.slot i).serial = some serial := by rw [slot, shape]; exact own
  have built : (placed.slot i).historyEntry serial = (s.slot i).historyEntry serial := by rw [slot, shape]; rfl
  have history : placed.history = s.history := due.2.2 .history (by decide)
  obtain ⟨u, n, e, k, work, closed, entry, next, found⟩ := State.historyUpdate_work serialOf (Updates.addMarks true false)
    fun t n => t.addMarks_work n true false
  refine ⟨placed, u, n, e, k, due, work, ?_, entry, next, ?_⟩
  · rw [← closed, isPlaced]
    rfl
  · rw [built] at found
    simpa only [State.entryFor, history, State.entry_of_history history] using found

/-- R185: a debit queues writes and nothing else of the Non-Volatile Memory changes. -/
theorem State.charge_writes (s : State) (i : SlotNo) : (s.charge i).nvm.queuesOn s.nvm := by
  cases marks : (s.slot i).runsDry s.policy.overdrawLimit && (s.slot i).serial.isSome with
  | false =>
    have nvm : (s.charge i).nvm = s.nvm := (State.charge_unmarked marks).2.2 .nvm (by decide)
    exact nvm ▸ .refl _
  | true =>
    obtain ⟨dry, some⟩ := Bool.and_eq_true_iff.mp marks
    obtain ⟨serial, own⟩ := Option.isSome_iff_exists.mp some
    obtain ⟨placed, u, n, e, k, due, work, closed, -⟩ := State.driedUp_marks own
    have nvm : (s.charge i).nvm = (u.closeUpdate i n).nvm := closed ▸ (State.driedUp_charge dry).2.2 .nvm (by decide)
    have before : placed.nvm = s.nvm := due.2.2 .nvm (by decide)
    rw [nvm, ← before]
    exact work.writes.trans (Nvm.enqueue_queuesOn _ _)

/-! ### The checkpoint -/

theorem Nvm.queuesOn.rootKey {m before : Nvm} (h : m.queuesOn before) :
    m.identity = before.identity ∧ m.rootKeyGood = before.rootKeyGood := by
  obtain ⟨p, q, rfl, -⟩ := h
  exact ⟨rfl, rfl⟩

/-- R107: what a checkpoint takes of the slot is no part of its watches or its history index. -/
theorem State.digestWithWriteTag_compared {s u : State} (writes : u.nvm.queuesOn s.nvm) (d : Digest) (i : SlotNo) (z : Slot)
    (h : Option EntryNo) :
    u.digestWithWriteTag d i (((z.compared .w0).compared .w1).indexed h) = s.digestWithWriteTag d i z := by
  obtain ⟨identity, good⟩ := writes.rootKey
  obtain ⟨w0, w1, held, shape⟩ := z.bothCompared_shape
  rw [State.digestWithWriteTag, State.digestWithWriteTag, identity, good, shape]
  rfl

theorem LineCtl.checkpointing_compared (l : LineCtl) (z : Slot) (h : Option EntryNo) :
    l.checkpointing (((z.compared .w0).compared .w1).indexed h) = l.checkpointing z := by
  obtain ⟨w0, w1, held, shape⟩ := z.bothCompared_shape
  rw [shape]
  rfl

/-- R23: the checkpoint of depletion. -/
theorem State.charge_line (s : State) (i : SlotNo) :
    let z := (s.slot i).debited s.policy.overdrawLimit
    let due := (s.slot i).runsDry s.policy.overdrawLimit && z.depletionCounts
    otherLines i s (s.charge i) ∧
      CheckpointPlaced due (s.line i) s.digest z (s.digestWithWriteTag s.digest i z) ((s.charge i).line i)
        (s.charge i).digest := by
  intro z due
  have placed := State.placeCheckpoint_if (s.putSlot i z) i due
  rw [State.putSlot_same] at placed
  have shape : (s.charge i).lines = (if due = true then (s.putSlot i z).placeCheckpoint i else s.putSlot i z).lines ∧
      (s.charge i).digest = (if due = true then (s.putSlot i z).placeCheckpoint i else s.putSlot i z).digest := by
    by_cases dry : (s.slot i).runsDry s.policy.overdrawLimit = true
    · have isDue : due = z.depletionCounts := by simp [due, dry]
      have depletion : (s.putSlot i z).depletionDue i =
          if due = true then (s.putSlot i z).placeCheckpoint i else s.putSlot i z := by
        rw [State.depletionDue, State.putSlot_same, isDue]
      have kept : keepsBut [.slots, .history, .nvm, .notices, .routes, .pins, .trace] ((s.putSlot i z).depletionDue i)
          (s.charge i) := by
        refine keepsBut.trans (t := s.driedUp i) ?_ ((State.driedUp_charge dry).mono (by simp))
        simp [State.driedUp, z]
      rw [← depletion]
      exact ⟨kept.2.2 .lines (by decide), kept.2.2 .digest (by decide)⟩
    · have notDue : due = false := by simp [due, dry]
      have kept := State.charge_wet dry
      rw [notDue]
      exact ⟨kept.2.2 .lines (by decide), kept.2.2 .digest (by decide)⟩
  have line (j : SlotNo) := State.line_of_lines shape.1 j
  refine ⟨fun j other => ?_, ?_⟩
  · rw [line j]
    split
    · exact (s.putSlot i z).placeCheckpoint_otherLines i j other
    · rfl
  · rw [line i, shape.2]
    exact placed

end Sys2Proof.Machine

/-!
PROOFS. Debits (R13 to R17, R19, R23, R126) and the debits of a line (R40).
-/

namespace Sys2Proof.Machine

open Sys2Proof

section
variable (s : State) (i : SlotNo)

/-! ### The counts -/

theorem Slot.debited_counts (x : Slot) (limit : Nat) : (x.debited limit).counts = (x.charged limit).counts := by
  unfold Slot.debited
  dsimp only
  split <;> rfl

/-- R13 to R17: the counts of a slot after a debit, and what a debit never changes. -/
theorem State.applyDebit_counts :
    ((s.applyDebit i).slot i).counts = ((s.slot i).charged s.policy.overdrawLimit).counts ∧
      ((s.applyDebit i).slot i).tenure = (s.slot i).tenure ∧ ((s.applyDebit i).slot i).serial = (s.slot i).serial ∧
      ((s.applyDebit i).slot i).present = (s.slot i).present := by
  obtain ⟨-, -, slot, -, -⟩ := s.applyDebit_after i
  obtain ⟨_, _, _, compared⟩ := ((s.slot i).debited s.policy.overdrawLimit).bothCompared_shape
  obtain ⟨_, _, _, _, _, _, _, _, debited⟩ := Slot.debited_shape (x := s.slot i) s.policy.overdrawLimit
  rw [slot, compared, ← Slot.debited_counts]
  refine ⟨rfl, ?_⟩
  rw [debited]
  exact ⟨rfl, rfl, rfl⟩

theorem State.applyDebit_index :
    ((s.applyDebit i).slot i).historyIndex = ((s.charge i).slot i).historyIndex := by
  obtain ⟨-, -, slot, -, -⟩ := s.applyDebit_after i
  exact (congrArg Slot.historyIndex slot).trans rfl

theorem Slot.charged_counts_genuine {x : Slot} (limit : Nat) (genuine : x.state = .genuine) (left : 0 < x.remaining.getD 0) :
    (x.charged limit).counts =
      (if x.remaining.getD 0 = 1 then .depleted else .genuine, some (x.remaining.getD 0 - 1), min u32Max (x.drawn + 1),
        x.overdraw, x.grace, x.unbacked) := by
  have last : (x.remaining.getD 0 - 1 = 0) = (x.remaining.getD 0 = 1) := propext (by omega)
  rw [Slot.charged_genuine limit genuine, Slot.counts, Slot.drawGenuine]
  simp only [last]
  rfl

theorem Slot.charged_counts_depleted {x : Slot} (limit : Nat) (depleted : x.state = .depleted) :
    (x.charged limit).counts =
      if x.overdraw < limit then (.depleted, x.remaining, x.drawn, x.overdraw + 1, x.grace, x.unbacked)
      else (.depleted, x.remaining, x.drawn, x.overdraw, x.grace, min u32Max (x.unbacked + 1)) := by
  rw [Slot.charged_depleted limit depleted]
  split
  · rw [Slot.counts, depleted]
  · rw [Slot.counts, Slot.addUnbacked, depleted]
    rfl

theorem Slot.charged_counts_grace {x : Slot} (limit : Nat) (grace : x.state = .grace) (left : 0 < x.grace) :
    (x.charged limit).counts =
      (if x.grace = 1 then .spent else .grace, x.remaining, x.drawn, x.overdraw, x.grace - 1, x.unbacked) := by
  have last : (x.grace - 1 = 0) = (x.grace = 1) := propext (by omega)
  rw [Slot.charged_grace limit grace, Slot.counts]
  simp only [last]

theorem Slot.charged_counts_unbacked {x : Slot} (limit : Nat) (other : x.state ∉ [SlotState.genuine, .depleted, .grace]) :
    (x.charged limit).counts =
      (x.state, x.remaining, x.drawn, x.overdraw, x.grace, min u32Max (x.unbacked + 1)) := by
  simp only [List.mem_cons, List.not_mem_nil, or_false, not_or] at other
  obtain ⟨genuine, depleted, grace⟩ := other
  rw [Slot.charged_unbacked limit genuine depleted grace]
  rfl

/-- R13 to R17: the counts by the state. -/
theorem State.applyDebit_byState :
    let x := s.slot i
    let y := (s.applyDebit i).slot i
    let limit := s.policy.overdrawLimit
    (x.state = .genuine → 0 < x.remaining.getD 0 →
      y.remaining = some (x.remaining.getD 0 - 1) ∧ y.drawn = min u32Max (x.drawn + 1) ∧
        y.state = (if x.remaining.getD 0 = 1 then .depleted else .genuine) ∧ y.overdraw = x.overdraw ∧
        y.grace = x.grace ∧ y.unbacked = x.unbacked) ∧
      (x.state = .depleted →
        y.remaining = x.remaining ∧ y.drawn = x.drawn ∧ y.state = .depleted ∧ y.grace = x.grace ∧
          (x.overdraw < limit → y.overdraw = x.overdraw + 1 ∧ y.unbacked = x.unbacked) ∧
          (limit ≤ x.overdraw → y.overdraw = x.overdraw ∧ y.unbacked = min u32Max (x.unbacked + 1))) ∧
      (x.state = .grace → 0 < x.grace →
        y.grace = x.grace - 1 ∧ y.state = (if x.grace = 1 then .spent else .grace) ∧ y.remaining = x.remaining ∧
          y.drawn = x.drawn ∧ y.overdraw = x.overdraw ∧ y.unbacked = x.unbacked) ∧
      (x.state ∉ [.genuine, .depleted, .grace] →
        y.unbacked = min u32Max (x.unbacked + 1) ∧ y.state = x.state ∧ y.remaining = x.remaining ∧
          y.drawn = x.drawn ∧ y.overdraw = x.overdraw ∧ y.grace = x.grace) ∧
      y.tenure = x.tenure ∧ y.serial = x.serial ∧ y.present = x.present := by
  intro x y limit
  obtain ⟨counts, identity⟩ := s.applyDebit_counts i
  change y.counts = (x.charged limit).counts at counts
  refine ⟨fun genuine left => ?_, fun depleted => ?_, fun grace left => ?_, fun other => ?_, identity⟩
  · rw [Slot.charged_counts_genuine limit genuine left, Slot.counts] at counts
    simp only [Prod.mk.injEq] at counts
    obtain ⟨state, remaining, drawn, overdraw, volume, unbacked⟩ := counts
    exact ⟨remaining, drawn, state, overdraw, volume, unbacked⟩
  · rw [Slot.charged_counts_depleted limit depleted, Slot.counts] at counts
    split at counts <;> simp only [Prod.mk.injEq] at counts <;>
      obtain ⟨state, remaining, drawn, overdraw, volume, unbacked⟩ := counts
    next below =>
      exact ⟨remaining, drawn, state, volume, fun _ => ⟨overdraw, unbacked⟩, fun full => absurd below (by omega)⟩
    next full =>
      exact ⟨remaining, drawn, state, volume, fun below => absurd below full, fun _ => ⟨overdraw, unbacked⟩⟩
  · rw [Slot.charged_counts_grace limit grace left, Slot.counts] at counts
    simp only [Prod.mk.injEq] at counts
    obtain ⟨state, remaining, drawn, overdraw, volume, unbacked⟩ := counts
    exact ⟨volume, state, remaining, drawn, overdraw, unbacked⟩
  · rw [Slot.charged_counts_unbacked limit other, Slot.counts] at counts
    simp only [Prod.mk.injEq] at counts
    obtain ⟨state, remaining, drawn, overdraw, volume, unbacked⟩ := counts
    exact ⟨unbacked, state, remaining, drawn, overdraw, volume⟩

/-- No debit touches POWER_SAVE. -/
theorem State.applyDebit_powerSave (c : Channel) :
    ((s.applyDebit i).route c).gate.powerSave = (s.route c).gate.powerSave := by
  obtain ⟨-, -, -, handed, -⟩ := s.applyDebit_after i
  rw [handed.route c, State.handedOn_powerSave]

/-! ### Overdraw at the limit (R12, R63) -/

/-- R11: a DEPLETED slot at the overdraw limit supplies no channel. -/
theorem Slot.full_unsupplied {z : Slot} {limit : Nat} (depleted : z.state = .depleted) (full : z.overdraw = limit)
    (ink : Nat) : z.fitFor ink = false ∧ z.drawableFor ink limit = false := by
  simp [Slot.fitFor, Slot.drawableFor, depleted, full]

/-- R12: records that supply nothing hand nothing on. -/
theorem State.stepOn_unsupplied {u : State} {y : Slot}
    (before : ∀ ink, (u.slot i).fitFor ink = false ∧ (u.slot i).drawableFor ink u.policy.overdrawLimit = false)
    (after : ∀ ink, y.fitFor ink = false ∧ y.drawableFor ink u.policy.overdrawLimit = false) :
    u.stepOn i y = u.putSlot i y := by
  refine State.judgeFitness_unchanged (fun c => ?_) fun c => ?_
  · simp only [State.fit, State.putSlot_same, (before _).1, (after _).1]
  · have same : (u.putSlot i y).policy.overdrawLimit = u.policy.overdrawLimit := rfl
    simp only [State.drawable, State.putSlot_same, (before _).2, (after _).2, same]

theorem State.stepOn_slot (u : State) (y : Slot) : (u.stepOn i y).slot i = y := by
  rw [State.stepOn, State.slot_of_slots (State.judgeFitness_slots u _ i), State.putSlot_same]

theorem State.stepOn_policy (u : State) (y : Slot) : (u.stepOn i y).policy = u.policy := by
  obtain ⟨-, settings⟩ := State.judgeFitness_keepsSlots u (u.putSlot i y) i
  rw [State.policy, State.stepOn, settings]
  rfl

/-- R12, R63: the slot that feeds a channel supplies it no longer; the channel's conditions do not change. -/
theorem State.handedOn_full {z : Slot} (depleted : z.state = .depleted) (full : z.overdraw = s.policy.overdrawLimit)
    (unfit : ∀ c, s.fit i c = false) (c : Channel) :
    (s.handedOn i z).drawable i c = false ∧
      ((s.route c).active = some i → s.drawable i c = true →
        (s.handedOn i z).route c = { s.route c with gate := { (s.route c).gate with noSupply := true } }) := by
  have none (n : WatchNo) (y : Slot) (state : y.state = .depleted) (overdraw : y.overdraw = s.policy.overdrawLimit) :
      (y.compared n).state = .depleted ∧ (y.compared n).overdraw = s.policy.overdrawLimit := by
    obtain ⟨_, _, _, shape⟩ := y.compared_shape n
    rw [shape]
    exact ⟨state, overdraw⟩
  obtain ⟨state0, overdraw0⟩ := none .w0 z depleted full
  obtain ⟨state1, overdraw1⟩ := none .w1 (z.compared .w0) state0 overdraw0
  obtain ⟨u, isTaken⟩ : ∃ u, u = s.stepOn i z := ⟨_, rfl⟩
  have slot : u.slot i = z := isTaken ▸ State.stepOn_slot i s z
  have policy : u.policy = s.policy := isTaken ▸ State.stepOn_policy i s z
  have first : u.stepOn i (z.compared .w0) = u.putSlot i (z.compared .w0) := by
    apply State.stepOn_unsupplied <;> rw [policy]
    · rw [slot]
      exact Slot.full_unsupplied depleted full
    · exact Slot.full_unsupplied state0 overdraw0
  have second : (u.putSlot i (z.compared .w0)).stepOn i ((z.compared .w0).compared .w1) =
      (u.putSlot i (z.compared .w0)).putSlot i ((z.compared .w0).compared .w1) := by
    have same : (u.putSlot i (z.compared .w0)).policy = s.policy := policy
    apply State.stepOn_unsupplied <;> rw [same]
    · rw [State.putSlot_same]
      exact Slot.full_unsupplied state0 overdraw0
    · exact Slot.full_unsupplied state1 overdraw1
  rw [State.handedOn_eq, ← isTaken, first, second]
  refine ⟨?_, fun active supplied => ?_⟩
  · rw [State.drawable, State.putSlot_same]
    exact policy ▸ (Slot.full_unsupplied state1 overdraw1 _).2
  · change u.route c = _
    have unfit' : (s.putSlot i z).fit i c = false := by
      rw [State.fit, State.putSlot_same]
      exact (Slot.full_unsupplied depleted full _).1
    have dry : (s.putSlot i z).drawable i c = false := by
      rw [State.drawable, State.putSlot_same]
      exact (Slot.full_unsupplied depleted full _).2
    have judged : State.refit s i (s.putSlot i z) c = s.putSlot i z :=
      State.refit_of_not fun reaches => reaches.1 ((unfit c).trans unfit'.symm)
    have route : u.route c = (State.handFitness s i (s.putSlot i z) c).route c :=
      isTaken ▸ State.judgeFitness_route s (s.putSlot i z) i c
    rw [route, State.handFitness_eq, judged, if_pos ⟨by rw [supplied, dry]; decide, active⟩,
      (State.judgeSupply_of_active (u := s.putSlot i z) active).1, dry]
    rfl

/-- R12, R15, R63: overdraw at the limit. -/
theorem State.applyDebit_full (depleted : (s.slot i).state = .depleted)
    (full : (s.slot i).overdraw + 1 = s.policy.overdrawLimit) (c : Channel) :
    (s.applyDebit i).drawable i c = false ∧
      ((s.route c).active = some i → s.drawable i c = true →
        (s.applyDebit i).route c = { s.route c with gate := { (s.route c).gate with noSupply := true } }) := by
  obtain ⟨-, -, -, handed, -⟩ := s.applyDebit_after i
  have debited : (s.slot i).debited s.policy.overdrawLimit = { s.slot i with overdraw := (s.slot i).overdraw + 1 } := by
    rw [Slot.debited_depleted _ depleted, if_pos (by omega)]
  have unfit (c : Channel) : s.fit i c = false := by simp [State.fit, Slot.fitFor, depleted]
  obtain ⟨dry, route⟩ := State.handedOn_full s i (z := (s.slot i).debited s.policy.overdrawLimit)
    (by rw [debited]; exact depleted) (by rw [debited]; exact full) unfit c
  exact ⟨(handed.drawable i c).trans dry, fun active supplied => (handed.route c).trans (route active supplied)⟩

/-! ### The checkpoint (R23, R24, R105, R107) -/

/-- R23: what makes a checkpoint due by depletion. -/
theorem Slot.debited_depletionCounts (x : Slot) (limit : Nat) :
    (x.debited limit).depletionCounts =
      !(decide (x.writtenRemaining = some 0) && x.reported.any fun fill => fill.mark) := by
  obtain ⟨_, _, _, _, _, _, _, _, shape⟩ := Slot.debited_shape (x := x) limit
  rw [shape]
  rfl

theorem CheckpointPlaced.inFlight {due : Bool} {l l' : LineCtl} {d d' asked : Digest} {x : Slot}
    (placed : CheckpointPlaced due l d x asked l' d') (notDue : due = false) :
    l'.checkpointInFlight = l.checkpointInFlight := by
  rw [placed.notDue notDue]

/-- R23: what the step compares of a GENUINE slot after its debit. -/
theorem Slot.debited_step {x : Slot} (limit : Nat) (genuine : x.state = .genuine) (h : Option EntryNo) :
    let y := (((x.debited limit).compared .w0).compared .w1).indexed h
    y.state.supplies = true ∧ y.drawn = (x.charged limit).drawn := by
  intro y
  obtain ⟨_, _, _, shape⟩ := (x.debited limit).bothCompared_shape
  have stays : x.debited limit = x.charged limit := Slot.debited_stays limit (by simp [genuine])
  have supplies : (x.charged limit).state.supplies = true := by
    rw [Slot.charged_genuine limit genuine, Slot.drawGenuine]
    dsimp only
    split <;> rfl
  rw [show y = _ from congrArg (fun z : Slot => z.indexed h) shape, stays]
  exact ⟨supplies, rfl⟩

/-- R23: the debit's step makes a checkpoint due, unless one is in flight. -/
def State.debitSteps (s : State) (i : SlotNo) (l : LineCtl) : Bool :=
  decide (s.policy.checkpointStep ≤ ((s.slot i).charged s.policy.overdrawLimit).drawn) && !l.checkpointInFlight

/-- R19, R23: a debit in GENUINE ends with the comparison of the watches and the step. -/
theorem State.applyDebit_steps (genuine : (s.slot i).state = .genuine) :
    let w := (s.charge i).compareWatches i
    s.applyDebit i = if s.debitSteps i (w.line i) = true then w.placeCheckpoint i else w := by
  intro w
  obtain ⟨handed, own, -⟩ := s.charge_takesRecord i
  obtain ⟨-, slot, -⟩ := State.compareWatches_alike (kinds := [.slot, .watch]) handed own (by decide) (by decide) (by decide)
  obtain ⟨supplies, drawn⟩ := Slot.debited_step s.policy.overdrawLimit genuine ((s.charge i).slot i).historyIndex
  rw [← slot] at supplies drawn
  have policy : w.policy = s.policy := by
    have compared : keepsBut [.slots, .routes, .pins, .trace, .notices] (s.charge i) w := by simp [w]
    have settings : w.settings = (s.charge i).settings := compared.2.2 .settings (by decide)
    rw [State.policy, settings, handed.2.1]
    exact State.stepOn_policy i s _
  have due : (((w.slot i).state.supplies && decide (w.policy.checkpointStep ≤ (w.slot i).drawn)) &&
      !(w.line i).checkpointInFlight) = s.debitSteps i (w.line i) := by
    rw [supplies, drawn, policy, Bool.true_and, State.debitSteps]
  rw [State.applyDebit_genuine genuine]
  exact congrArg (fun b : Bool => if b = true then w.placeCheckpoint i else w) due

theorem State.debitMakesDue_genuine (genuine : (s.slot i).state = .genuine) {l : LineCtl}
    (same : ((s.slot i).runsDry s.policy.overdrawLimit &&
      ((s.slot i).debited s.policy.overdrawLimit).depletionCounts) = false → l = s.line i) :
    s.debitMakesDue i =
      ((s.slot i).runsDry s.policy.overdrawLimit && ((s.slot i).debited s.policy.overdrawLimit).depletionCounts ||
        s.debitSteps i l) := by
  rw [Slot.debited_depletionCounts] at same ⊢
  rw [State.debitMakesDue, State.debitSteps]
  simp only [genuine, decide_true, Bool.true_and]
  cases first : (s.slot i).runsDry s.policy.overdrawLimit &&
      !(decide ((s.slot i).writtenRemaining = some 0) && (s.slot i).reported.any fun fill => fill.mark) with
  | true => rfl
  | false => rw [same first]

theorem State.debitMakesDue_other (other : (s.slot i).state ≠ .genuine) : s.debitMakesDue i = false := by
  simp [State.debitMakesDue, Slot.runsDry, other]

theorem State.applyDebit_line :
    let t := s.applyDebit i
    let z := (s.slot i).debited s.policy.overdrawLimit
    otherLines i s t ∧
      CheckpointPlaced (s.debitMakesDue i) (s.line i) s.digest z (s.digestWithWriteTag s.digest i z) (t.line i) t.digest := by
  intro t z
  obtain ⟨others, placed⟩ := s.charge_line i
  obtain ⟨handed, own, -⟩ := s.charge_takesRecord i
  obtain ⟨-, slot, -⟩ := State.compareWatches_alike (kinds := [.slot, .watch]) handed own (by decide) (by decide) (by decide)
  have compared : keepsBut [.slots, .routes, .pins, .trace, .notices] (s.charge i) ((s.charge i).compareWatches i) := by simp
  have steps := s.applyDebit_steps i
  have ends := State.applyDebit_other (s := s) (i := i)
  generalize (s.charge i).compareWatches i = w at slot compared steps ends
  have line (j : SlotNo) : w.line j = (s.charge i).line j := State.line_of_lines (compared.2.2 .lines (by decide)) j
  have digest : w.digest = (s.charge i).digest := compared.2.2 .digest (by decide)
  have quiet (j : SlotNo) (other : j ≠ i) : w.line j = s.line j := (line j).trans (others j other)
  by_cases genuine : (s.slot i).state = .genuine
  · have stepped : t = _ := steps genuine
    have writes : w.nvm.queuesOn s.nvm := (compared.2.2 .nvm (by decide) : w.nvm = (s.charge i).nvm) ▸ s.charge_writes i
    have second := w.placeCheckpoint_if i (s.debitSteps i (w.line i))
    rw [← stepped, slot, State.digestWithWriteTag_compared writes, digest, line i] at second
    have taken : CheckpointPlaced (s.debitSteps i ((s.charge i).line i)) ((s.charge i).line i) (s.charge i).digest z
        (s.digestWithWriteTag (s.charge i).digest i z) (t.line i) t.digest :=
      { second with begins := fun takes => (second.begins takes).trans (LineCtl.checkpointing_compared _ z _) }
    refine ⟨fun j other => ?_, ?_⟩
    · rw [stepped]
      split
      · exact (w.placeCheckpoint_otherLines i j other).trans (quiet j other)
      · exact quiet j other
    · rw [s.debitMakesDue_genuine i genuine placed.notDue]
      refine placed.twice taken (fun notDue => by rw [placed.digest, notDue]; rfl) fun due _ => ?_
      simp only [State.debitSteps, Bool.and_eq_true, Bool.not_eq_true'] at due
      exact due.2
  · have shape : t = w := ends genuine
    have undrained : ((s.slot i).runsDry s.policy.overdrawLimit && z.depletionCounts) = false := by
      simp [Slot.runsDry, genuine]
    rw [undrained] at placed
    rw [shape, s.debitMakesDue_other i genuine, line i, digest]
    exact ⟨quiet, placed⟩

/-! ### The mark (R126, R118) -/

theorem State.applyDebit_unmarked
    (unmarked : ((s.slot i).runsDry s.policy.overdrawLimit && (s.slot i).serial.isSome) = false) :
    let t := s.applyDebit i
    t.history = s.history ∧ t.nvm = s.nvm ∧ otherSlots i s t ∧ (t.slot i).historyIndex = (s.slot i).historyIndex := by
  intro t
  obtain ⟨kept, others, -⟩ := s.applyDebit_after i
  have charged := State.charge_unmarked unmarked
  have slots : (s.charge i).slots = (s.putSlot i ((s.slot i).debited s.policy.overdrawLimit)).slots :=
    charged.2.2 .slots (by decide)
  obtain ⟨_, _, _, _, _, _, _, _, shape⟩ := Slot.debited_shape (x := s.slot i) s.policy.overdrawLimit
  refine ⟨(kept.2.2 .history (by decide)).trans (charged.2.2 .history (by decide)),
    (kept.2.2 .nvm (by decide)).trans (charged.2.2 .nvm (by decide)),
    ((s.putSlot_otherSlots i _).trans (otherSlots.of_slots slots)).trans others, ?_⟩
  rw [s.applyDebit_index i, State.slot_of_slots slots, State.putSlot_same, shape]

theorem State.applyDebit_otherSlots (j : SlotNo) (other : j ≠ i) :
    (s.applyDebit i).slot j = s.slot j ∨ (s.applyDebit i).slot j = { s.slot j with historyIndex := none } := by
  obtain ⟨-, others, -⟩ := s.applyDebit_after i
  rw [others j other]
  by_cases dry : (s.slot i).runsDry s.policy.overdrawLimit = true
  · rw [State.slot_of_slots ((State.driedUp_charge dry).2.2 .slots (by decide)) j]
    exact (s.driedUp_slots i).2 j other
  · refine .inl ((State.slot_of_slots ((State.charge_wet dry).2.2 .slots (by decide)) j).trans ?_)
    exact State.putSlot_other s _ other

/-- R126: the entry of the slot's serial, with the mark, is the most recent, and its write is queued. -/
theorem State.applyDebit_marks {serial : Serial} (dry : (s.slot i).runsDry s.policy.overdrawLimit = true)
    (own : (s.slot i).serial = some serial) :
    let t := s.applyDebit i
    ∃ n e k, (t.slot i).historyIndex = some n ∧ t.entry n = some { e with depletedMark := true, stamp := k } ∧
      s.entryFor serial ((s.slot i).historyEntry serial) n e ∧ t.history.nextStamp = k + 1 ∧
      (∀ (m : EntryNo) (f : HistoryEntry), m ≠ n → t.entry m = some f →
        ∃ before, s.entry m = some before ∧ f = { before with stamp := f.stamp }) ∧
      t.nvm.queuedSince s.nvm (.history n (some { e with depletedMark := true, stamp := k })) := by
  intro t
  obtain ⟨kept, -⟩ := s.applyDebit_after i
  have charged := State.driedUp_charge dry
  obtain ⟨placed, u, n, e, k, due, work, closed, entry, next, found⟩ := State.driedUp_marks own
  have marked : ({ e.marked true false with stamp := k } : HistoryEntry) = { e with depletedMark := true, stamp := k } := by
    simp [HistoryEntry.marked]
  rw [marked] at entry
  have history : t.history = (u.closeUpdate i n).history := by
    rw [← closed]
    exact (kept.2.2 .history (by decide)).trans (charged.2.2 .history (by decide))
  have entries (m : EntryNo) : t.entry m = u.entry m :=
    (State.entry_of_history history m).trans (u.closeUpdate_entry i n m)
  have nvm : t.nvm = u.nvm.enqueue (.history n (some { e with depletedMark := true, stamp := k })) := by
    rw [← entry, ← u.closeUpdate_nvm i n, ← closed]
    exact (kept.2.2 .nvm (by decide)).trans (charged.2.2 .nvm (by decide))
  refine ⟨n, e, k, ?_, (entries n).trans entry, found, ?_, fun m f other held => ?_, ?_⟩
  · rw [s.applyDebit_index i, State.slot_of_slots (charged.2.2 .slots (by decide)), closed, State.closeUpdate_slot]
  · have closedKeeps : keepsBut [.slots, .nvm] u (u.closeUpdate i n) := by simp
    have same : (u.closeUpdate i n).history = u.history := closedKeeps.2.2 .history (by decide)
    rw [history, same, next]
  · rw [entries m] at held
    obtain ⟨before, had, same⟩ := work.others m f other held
    exact ⟨before, (State.entry_of_history (due.2.2 .history (by decide)) m).symm.trans had, same⟩
  · rw [nvm]
    have before : placed.nvm = s.nvm := due.2.2 .nvm (by decide)
    exact Nvm.enqueue_queuedSince (before ▸ work.writes) _

end

/-! ### The debits of a line (R40) -/

theorem State.putMeter_putMeter (s : State) (c : Channel) (m n : Meter) :
    (s.putMeter c m).putMeter c n = s.putMeter c n := by
  simp [State.putMeter]

/-- R40: a debit goes to the latched slot while its tenure is the latched one, and counts for the channel. -/
theorem State.emitDebit_charges {s : State} {c : Channel} {source : Option (SlotNo × Tenure)} {i : SlotNo}
    (charged : s.chargeable source = some i) :
    s.emitDebit c source = (s.applyDebit i).putMeter c ((s.applyDebit i).meter c).countDebit := by
  rw [State.emitDebit, charged]

theorem State.emitDebit_orphan {s : State} {c : Channel} {source : Option (SlotNo × Tenure)}
    (orphan : s.chargeable source = none) :
    s.emitDebit c source =
      s.putMeter c { s.meter c with orphan := min u32Max ((s.meter c).orphan + 1) }.countDebit := by
  have counted : s.emitDebit c source =
      (s.putMeter c { s.meter c with orphan := min u32Max ((s.meter c).orphan + 1) }).putMeter c
        ((s.putMeter c { s.meter c with orphan := min u32Max ((s.meter c).orphan + 1) }).meter c).countDebit := by
    rw [State.emitDebit, orphan]
    rfl
  rw [counted, State.putMeter_same, State.putMeter_putMeter]

/-! ### Settled -/

theorem State.applyDebit_keeps' (s : State) (i : SlotNo) :
    keepsBut [.slots, .lines, .digest, .routes, .trace, .history, .pins, .nvm, .notices] s (s.applyDebit i) := by
  simp

/-- Settles O44: by the steps of a debit; the debits of a line by the recursion of `emitDebits`. -/
theorem debitsAreAppliedByState : Obligations.DebitsAreAppliedByState := by
  refine ⟨fun s i => ?_, fun s i => ?_, fun s i => ?_, fun s i => ?_, fun s c source => ?_⟩
  · obtain ⟨genuine, depleted, grace, other, identity⟩ := s.applyDebit_byState i
    exact ⟨genuine, depleted, grace, other, identity, s.applyDebit_keeps' i⟩
  · intro t limit x z
    obtain ⟨-, -, slot, handed, told⟩ := s.applyDebit_after i
    refine ⟨?_, told, handed.sameRouting, fun c holds => handed.supplyHolds (State.handedOn_supplyHolds i z holds),
      fun depleted full c => s.applyDebit_full i depleted full c⟩
    rw [s.applyDebit_index i]
    exact slot
  · intro t z begins
    obtain ⟨others, placed⟩ := s.applyDebit_line i
    exact ⟨others, placed.notDue, placed.pends, placed.begins, placed.digest⟩
  · intro t x marks
    refine ⟨s.applyDebit_unmarked i, s.applyDebit_otherSlots i, fun serial isMarked own => ?_⟩
    obtain ⟨dry, -⟩ := Bool.and_eq_true_iff.mp isMarked
    obtain ⟨n, e, k, index, entry, found, next, others, queued⟩ := s.applyDebit_marks i dry own
    refine ⟨n, { e with depletedMark := true, stamp := k }, index, entry, ?_, next, others, queued⟩
    rcases found with ⟨hit, held⟩ | ⟨miss, a, rfl⟩
    · rw [hit]
      exact ⟨rfl, e, held, rfl⟩
    · rw [miss]
  · refine ⟨rfl, fun _ => rfl, ?_⟩
    cases source with
    | none => rfl
    | some latched => rfl

end Sys2Proof.Machine

/-!
PROOFS. Debits one after another (R40): what a list of them, each of a channel and of the slot and tenure latched for
it, leaves of the slots and of the channels' meters.
-/

namespace Sys2Proof.Machine

open Sys2Proof

/-! ### Which slot a debit goes to -/

theorem State.chargeable_iff (s : State) (source : Option (SlotNo × Tenure)) (i : SlotNo) :
    s.chargeable source = some i ↔ s.chargesSlot i source = true := by
  rw [State.chargesSlot, decide_eq_true_eq]
  cases source with
  | none => simp [State.chargeable]
  | some latched =>
    obtain ⟨j, tenure⟩ := latched
    simp only [State.chargeable, Option.some.injEq, Prod.mk.injEq]
    constructor
    · intro charged
      split at charged
      next same =>
        cases charged
        exact ⟨rfl, same.symm⟩
      · cases charged
    · rintro ⟨rfl, rfl⟩
      rw [if_pos rfl]

/-- Whether a debit goes to a slot turns on the tenures alone. -/
def sameTenures (s t : State) : Prop := ∀ i : SlotNo, (t.slot i).tenure = (s.slot i).tenure

theorem sameTenures.chargesSlot {s t : State} (h : sameTenures s t) (i : SlotNo) (source : Option (SlotNo × Tenure)) :
    t.chargesSlot i source = s.chargesSlot i source := by
  rw [State.chargesSlot, State.chargesSlot, h i]

theorem sameTenures.chargeable {s t : State} (h : sameTenures s t) (source : Option (SlotNo × Tenure)) :
    t.chargeable source = s.chargeable source :=
  Option.ext fun i => by rw [State.chargeable_iff, State.chargeable_iff, h.chargesSlot]

/-! ### Counts of debits -/

/-- The debits of a channel. -/
def debitsOf (c : Channel) (ds : List (Channel × Option (SlotNo × Tenure))) : List (Channel × Option (SlotNo × Tenure)) :=
  ds.filter fun d => decide (d.1 = c)

/-- R40: those of them that go to no slot. -/
def State.orphans (s : State) (ds : List (Channel × Option (SlotNo × Tenure))) :
    List (Channel × Option (SlotNo × Tenure)) :=
  ds.filter fun d => (s.chargeable d.2).isNone

/-- R40: those that go to a slot. -/
def State.charges (s : State) (i : SlotNo) (ds : List (Channel × Option (SlotNo × Tenure))) :
    List (Channel × Option (SlotNo × Tenure)) :=
  ds.filter fun d => s.chargesSlot i d.2

theorem sameTenures.orphans {s t : State} (h : sameTenures s t) (ds : List (Channel × Option (SlotNo × Tenure))) :
    t.orphans ds = s.orphans ds := by
  simp only [State.orphans, h.chargeable]

theorem sameTenures.charges {s t : State} (h : sameTenures s t) (i : SlotNo)
    (ds : List (Channel × Option (SlotNo × Tenure))) : t.charges i ds = s.charges i ds := by
  simp only [State.charges, h.chargesSlot]

/-! ### The meter -/

/-- R40: a channel's meter after debits, of which some went to no slot. -/
def Meter.debited (m : Meter) (debits orphans : Nat) : Meter :=
  { m with
    metered := m.metered + BitVec.ofNat 32 debits
    service := if m.classifier = .service then m.service + BitVec.ofNat 32 debits else m.service
    orphan := orphanAfter orphans m.orphan }

theorem orphanAfter_add (m n orphan : Nat) : orphanAfter n (orphanAfter m orphan) = orphanAfter (m + n) orphan := by
  unfold orphanAfter
  split <;> split <;> split <;> omega

theorem Meter.debited_debited (m : Meter) (a b k l : Nat) : (m.debited a k).debited b l = m.debited (a + b) (k + l) := by
  have sum (w : BitVec 32) : w + BitVec.ofNat 32 a + BitVec.ofNat 32 b = w + BitVec.ofNat 32 (a + b) := by
    rw [BitVec.add_assoc, BitVec.ofNat_add]
  simp only [Meter.debited, orphanAfter_add, sum]
  split <;> simp only [sum]

/-- A meter but for its residue, the fine accumulator and the correction remainder (R39). -/
def Meter.settled (m : Meter) : Meter := { m with fine := 0, remainder := 0 }

theorem Meter.eq_of_settled {m n : Meter} (same : m.settled = n.settled) (fine : m.fine = n.fine)
    (remainder : m.remainder = n.remainder) : m = n := by
  have whole : { m.settled with fine := m.fine, remainder := m.remainder } =
      { n.settled with fine := n.fine, remainder := n.remainder } := by rw [same, fine, remainder]
  exact whole

theorem Meter.settled_debited {m n : Meter} (same : m.settled = n.settled) (debits orphans : Nat) :
    (m.debited debits orphans).settled = (n.debited debits orphans).settled :=
  (congrArg (fun k : Meter => (k.debited debits orphans).settled) same :)

theorem Meter.debited_none (m : Meter) : m.debited 0 0 = m := by
  simp [Meter.debited, orphanAfter]

theorem Meter.debited_charged (m : Meter) : m.debited 1 0 = m.countDebit := by
  simp [Meter.debited, Meter.countDebit, orphanAfter]

theorem Meter.debited_orphan (m : Meter) :
    m.debited 1 1 = ({ m with orphan := min u32Max (m.orphan + 1) } : Meter).countDebit := by
  simp [Meter.debited, Meter.countDebit, orphanAfter]

/-! ### The slots -/

/-- The counts of a slot after a debit turn on its counts before. -/
theorem Slot.charged_counts_congr {x y : Slot} (limit : Nat) (same : x.counts = y.counts) :
    (x.charged limit).counts = (y.charged limit).counts := by
  simp only [Slot.counts, Prod.mk.injEq] at same
  obtain ⟨state, remaining, drawn, overdraw, grace, unbacked⟩ := same
  simp only [Slot.charged, state, remaining, drawn, overdraw, grace, unbacked]
  split
  · rfl
  · split <;> rfl
  · rfl
  · rfl

theorem Slot.countsAfter_congr {x y : Slot} (limit n : Nat) (same : x.counts = y.counts) :
    x.countsAfter n limit = y.countsAfter n limit := by
  induction n generalizing x y with
  | zero => exact same
  | succ n ih => exact ih (Slot.charged_counts_congr limit same)

theorem Slot.countsAfter_add {x y : Slot} (limit m n : Nat) (first : y.counts = x.countsAfter m limit) :
    y.countsAfter n limit = x.countsAfter (m + n) limit := by
  rw [Slot.countsAfter_congr (y := (Slot.charged limit)^[m] x) limit n first, Slot.countsAfter, Slot.countsAfter,
    Nat.add_comm, Function.iterate_add_apply]

/-! ### Debits one after another -/

/-- From s to t those debits were emitted, one after another. -/
structure Debits (ds : List (Channel × Option (SlotNo × Tenure))) (s t : State) : Prop where
  kept : keepsBut [.slots, .lines, .digest, .routes, .trace, .history, .pins, .nvm, .notices, .meters] s t
  writes : t.nvm.queuesOn s.nvm
  gates : ∀ c : Channel, (t.route c).gate.powerSave = (s.route c).gate.powerSave
  meter : ∀ c : Channel, (t.meter c).settled =
    ((s.meter c).debited (debitsOf c ds).length (s.orphans (debitsOf c ds)).length).settled
  identity : ∀ i : SlotNo, (t.slot i).tenure = (s.slot i).tenure ∧ (t.slot i).serial = (s.slot i).serial ∧
    (t.slot i).present = (s.slot i).present
  counts : ∀ i : SlotNo, (t.slot i).counts = (s.slot i).countsAfter (s.charges i ds).length s.policy.overdrawLimit
  uncharged : ∀ i : SlotNo, s.charges i ds = [] → (t.slot i).forgotten = (s.slot i).forgotten ∧
    (t.slot i = s.slot i ∨ t.slot i = { s.slot i with historyIndex := none })
  unslotted : (∀ d ∈ ds, s.chargeable d.2 = none) → t.slots = s.slots

namespace Debits

variable {ds es : List (Channel × Option (SlotNo × Tenure))} {s t u : State}

theorem tenures (h : Debits ds s t) : sameTenures s t := fun i => (h.identity i).1

theorem none (s : State) : Debits [] s s where
  kept := by simp
  writes := .refl _
  gates _ := rfl
  meter c := congrArg Meter.settled (Meter.debited_none _).symm
  identity _ := ⟨rfl, rfl, rfl⟩
  counts _ := rfl
  uncharged _ _ := ⟨rfl, .inl rfl⟩
  unslotted _ := rfl

theorem trans (h : Debits ds s t) (k : Debits es t u) : Debits (ds ++ es) s u where
  kept := h.kept.trans k.kept
  writes := h.writes.trans k.writes
  gates c := (k.gates c).trans (h.gates c)
  meter c := by
    rw [k.meter c, Meter.settled_debited (h.meter c), Meter.debited_debited, h.tenures.orphans]
    simp [debitsOf, State.orphans]
  identity i := by
    obtain ⟨tenure, serial, present⟩ := h.identity i
    obtain ⟨tenure', serial', present'⟩ := k.identity i
    exact ⟨tenure'.trans tenure, serial'.trans serial, present'.trans present⟩
  counts i := by
    have policy : t.policy = s.policy := congrArg Settings.policy (h.kept.2.2 .settings (by decide))
    rw [k.counts i, policy, Slot.countsAfter_add _ _ _ (h.counts i), h.tenures.charges]
    simp [State.charges]
  uncharged i no := by
    obtain ⟨first, second⟩ : s.charges i ds = [] ∧ s.charges i es = [] := by
      simpa only [State.charges, List.filter_append, List.append_eq_nil_iff] using no
    obtain ⟨same, slot⟩ := h.uncharged i first
    obtain ⟨same', slot'⟩ := k.uncharged i (by rw [h.tenures.charges]; exact second)
    refine ⟨same'.trans same, ?_⟩
    rcases slot with slot | slot <;> rcases slot' with slot' | slot' <;> rw [slot', slot]
    · exact .inl rfl
    · exact .inr rfl
    · exact .inr rfl
    · exact .inr rfl
  unslotted no := by
    refine (k.unslotted fun d mem => ?_).trans (h.unslotted fun d mem => no d (by simp [mem]))
    rw [h.tenures.chargeable]
    exact no d (by simp [mem])

end Debits

end Sys2Proof.Machine

/-!
PROOFS. One debit, and the debits of a line (R40).
-/

namespace Sys2Proof.Machine

open Sys2Proof

theorem State.applyDebit_writes (s : State) (i : SlotNo) : (s.applyDebit i).nvm.queuesOn s.nvm := by
  obtain ⟨kept, -⟩ := s.applyDebit_after i
  have nvm : (s.applyDebit i).nvm = (s.charge i).nvm := kept.2.2 .nvm (by decide)
  exact nvm ▸ s.charge_writes i

theorem State.slot_of_putMeter (s : State) (c : Channel) (m : Meter) (i : SlotNo) : (s.putMeter c m).slot i = s.slot i := rfl

theorem debitsOf_one (c d : Channel) (source : Option (SlotNo × Tenure)) :
    debitsOf d [(c, source)] = if d = c then [(c, source)] else [] := by
  by_cases same : d = c
  · simp [debitsOf, same]
  · simp [debitsOf, same, Ne.symm same]

section
variable {s : State} {c : Channel} {source : Option (SlotNo × Tenure)}

/-- The channel's meter after one debit, and the other meters. -/
theorem State.debits_meter {u : State} (meters : u.meters = s.meters) {m : Meter} {orphans : Nat}
    (own : m = (s.meter c).debited 1 orphans) (count : (s.orphans [(c, source)]).length = orphans) (d : Channel) :
    ((u.putMeter c m).meter d).settled =
      ((s.meter d).debited (debitsOf d [(c, source)]).length (s.orphans (debitsOf d [(c, source)])).length).settled := by
  refine congrArg Meter.settled ?_
  rw [debitsOf_one]
  by_cases same : d = c
  · subst same
    rw [if_pos rfl, State.putMeter_same, count, own]
    rfl
  · have meter : u.meter d = s.meter d := congrArg (fun meters : Vector Meter 12 => meters[d]) meters
    rw [if_neg same, State.putMeter_other u m same, meter]
    exact (Meter.debited_none _).symm

/-- R40: a debit that goes to a slot. -/
theorem State.emitDebit_charged {i : SlotNo} (charged : s.chargeable source = some i) :
    Debits [(c, source)] s (s.emitDebit c source) := by
  have applied := s.applyDebit_keeps' i
  have meters : (s.applyDebit i).meters = s.meters := applied.2.2 .meters (by decide)
  have meter : (s.applyDebit i).meter c = s.meter c := congrArg (fun meters : Vector Meter 12 => meters[c]) meters
  have goes (j : SlotNo) : s.charges j [(c, source)] = if j = i then [(c, source)] else [] := by
    have own : s.chargesSlot j source = decide (j = i) := by
      rw [Bool.eq_iff_iff, ← State.chargeable_iff, charged, decide_eq_true_eq, Option.some.injEq]
      exact eq_comm
    simp only [State.charges, List.filter_cons, List.filter_nil, own, decide_eq_true_eq]
  obtain ⟨counts, identity⟩ := s.applyDebit_counts i
  have others := s.applyDebit_otherSlots i
  have writes := s.applyDebit_writes i
  have gates := s.applyDebit_powerSave i
  rw [State.emitDebit_charges charged]
  generalize s.applyDebit i = u at applied meters meter counts identity others writes gates ⊢
  exact {
    kept := keepsBut.trans (t := u) (applied.mono (by simp)) (by simp)
    writes := writes
    gates := gates
    meter := State.debits_meter meters (orphans := 0) (by rw [meter, Meter.debited_charged])
      (by simp [State.orphans, charged])
    identity := fun j => by
      rw [State.slot_of_putMeter]
      by_cases same : j = i
      · rw [same]
        exact identity
      · rcases others j same with slot | slot <;> rw [slot] <;> exact ⟨rfl, rfl, rfl⟩
    counts := fun j => by
      rw [State.slot_of_putMeter, goes j]
      by_cases same : j = i
      · rw [if_pos same, same]
        exact counts
      · rw [if_neg same]
        rcases others j same with slot | slot <;> rw [slot] <;> rfl
    uncharged := fun j no => by
      have other : j ≠ i := by
        rintro rfl
        rw [goes j, if_pos rfl] at no
        cases no
      exact ⟨Slot.with_index_forgotten (others j other), others j other⟩
    unslotted := fun no => by
      have none := no (c, source) (by simp)
      rw [charged] at none
      cases none }

/-- R40: a debit that goes to the orphan count. -/
theorem State.emitDebit_orphaned (orphan : s.chargeable source = none) : Debits [(c, source)] s (s.emitDebit c source) := by
  have goes (j : SlotNo) : s.charges j [(c, source)] = [] := by
    have own : s.chargesSlot j source = false := by
      rw [Bool.eq_false_iff, ne_eq, ← State.chargeable_iff, orphan]
      exact nofun
    simp [State.charges, own]
  rw [State.emitDebit_orphan orphan]
  exact {
    kept := by simp
    writes := .refl _
    gates := fun _ => rfl
    meter := State.debits_meter rfl (orphans := 1) (Meter.debited_orphan _).symm (by simp [State.orphans, orphan])
    identity := fun _ => ⟨rfl, rfl, rfl⟩
    counts := fun j => by
      rw [goes j]
      rfl
    uncharged := fun _ _ => ⟨rfl, .inl rfl⟩
    unslotted := fun _ => rfl }

variable (s c source)

theorem State.emitDebit_debits : Debits [(c, source)] s (s.emitDebit c source) := by
  cases charged : s.chargeable source with
  | some i => exact State.emitDebit_charged charged
  | none => exact State.emitDebit_orphaned charged

/-- R40: a debit leaves the residue of every channel. -/
theorem State.emitDebit_residue (d : Channel) :
    ((s.emitDebit c source).meter d).fine = (s.meter d).fine ∧
      ((s.emitDebit c source).meter d).remainder = (s.meter d).remainder := by
  cases charged : s.chargeable source with
  | some i =>
    have applied : (s.applyDebit i).meters = s.meters := (s.applyDebit_keeps' i).2.2 .meters (by decide)
    have meter (e : Channel) : (s.applyDebit i).meter e = s.meter e :=
      congrArg (fun meters : Vector Meter 12 => meters[e]) applied
    rw [State.emitDebit_charges charged]
    by_cases same : d = c
    · rw [same, State.putMeter_same, ← meter c]
      exact ⟨rfl, rfl⟩
    · rw [State.putMeter_other _ _ same, meter d]
      exact ⟨rfl, rfl⟩
  | none =>
    rw [State.emitDebit_orphan charged]
    by_cases same : d = c
    · rw [same, State.putMeter_same]
      exact ⟨rfl, rfl⟩
    · rw [State.putMeter_other _ _ same]
      exact ⟨rfl, rfl⟩

theorem State.emitDebits_residue (n : Nat) (d : Channel) :
    ((State.emitDebits n s c source).meter d).fine = (s.meter d).fine ∧
      ((State.emitDebits n s c source).meter d).remainder = (s.meter d).remainder := by
  induction n generalizing s with
  | zero => exact ⟨rfl, rfl⟩
  | succ n ih =>
    obtain ⟨fine, remainder⟩ := ih (s.emitDebit c source)
    obtain ⟨fine', remainder'⟩ := s.emitDebit_residue c source d
    exact ⟨fine.trans fine', remainder.trans remainder'⟩

theorem State.emitDebits_debits (n : Nat) :
    Debits (List.replicate n (c, source)) s (State.emitDebits n s c source) := by
  induction n generalizing s with
  | zero => exact .none s
  | succ n ih => exact (s.emitDebit_debits c source).trans (ih (s.emitDebit c source))

end

end Sys2Proof.Machine

/-!
PROOFS. LINE_END (R143): the oldest line leaves the record; its metering (R37 to R41) and its waste (R43 to R45).
-/

namespace Sys2Proof.Machine

open Sys2Proof

/-! ### The forward buffer (R138, R143) -/

theorem sentThroughLine_live {ahead behind : List ForwardPacket} {p : ForwardPacket} (live : p.live = true)
    (sent : ∀ q ∈ ahead, q.live = false) : sentThroughLine (ahead ++ p :: behind) = behind := by
  induction ahead with
  | nil => exact if_pos live
  | cons q ahead ih =>
    have first : q.live = false := sent q (by simp)
    rw [List.cons_append, sentThroughLine, first, if_neg (by simp)]
    exact ih fun r mem => sent r (by simp [mem])

theorem sentThroughLine_unsent (buffer : List ForwardPacket) :
    unsentSymbols (sentThroughLine buffer) ≤ unsentSymbols buffer := by
  induction buffer with
  | nil => exact Nat.le_refl _
  | cons p buffer ih =>
    have sum : unsentSymbols (p :: buffer) = p.unsent + unsentSymbols buffer := rfl
    rw [sentThroughLine]
    split
    · omega
    · omega

/-- R138: the symbols that leave with the check are the held ones first, and the others are taken early (log 15). -/
theorem Forward.endLine_symbols (f : Forward) (later : List Flight) :
    unsentSymbols (f.endLine later).buffer + f.held + (f.endLine later).early =
      unsentSymbols f.buffer + (f.endLine later).held + f.early := by
  have less := sentThroughLine_unsent f.buffer
  change unsentSymbols (sentThroughLine f.buffer) + f.held +
      (f.early + (unsentSymbols f.buffer - unsentSymbols (sentThroughLine f.buffer) - f.held)) =
    unsentSymbols f.buffer + (f.held - (unsentSymbols f.buffer - unsentSymbols (sentThroughLine f.buffer))) + f.early
  omega

/-! ### LINE_END -/

theorem exec_lineEnd {s : State} (on : s.powered = true) {l : Flight} {later : List Flight}
    (flights : s.forward.flights = l :: later) (arrived : l.upstream ≠ .arriving) :
    exec .lineEnd s = .next ({ s with forward := s.forward.endLine later }.lineEnds l) := by
  refine exec_on (f := fun s => s.lineSent) rfl on ?_
  simp only [State.lineSent, flights, arrived, if_false]

/-! ### The debits of the line (R40) -/

section
variable (s : State) (n : Nat) (c : Channel) (source : Option (SlotNo × Tenure))

theorem State.charges_line (i : SlotNo) :
    s.charges i (List.replicate n (c, source)) =
      if s.chargeable source = some i then List.replicate n (c, source) else [] := by
  simp only [State.charges, List.filter_replicate, State.chargeable_iff]

theorem debitsOf_line (d : Channel) :
    debitsOf d (List.replicate n (c, source)) = if c = d then List.replicate n (c, source) else [] := by
  simp only [debitsOf, List.filter_replicate, decide_eq_true_eq]

theorem State.orphans_line :
    (s.orphans (List.replicate n (c, source))).length = if (s.chargeable source).isSome then 0 else n := by
  simp only [State.orphans, List.filter_replicate]
  cases s.chargeable source <;> simp

theorem State.emitDebits_meter :
    (State.emitDebits n s c source).meter c =
      (s.meter c).debited n (if (s.chargeable source).isSome then 0 else n) := by
  obtain ⟨fine, remainder⟩ := s.emitDebits_residue c source n c
  refine Meter.eq_of_settled ?_ fine remainder
  rw [(s.emitDebits_debits c source n).meter c, debitsOf_line, if_pos rfl, State.orphans_line, List.length_replicate]

theorem State.emitDebits_otherMeters : otherMeters c s (State.emitDebits n s c source) := fun d other => by
  obtain ⟨fine, remainder⟩ := s.emitDebits_residue c source n d
  refine Meter.eq_of_settled ?_ fine remainder
  rw [(s.emitDebits_debits c source n).meter d, debitsOf_line, if_neg (Ne.symm other)]
  exact congrArg Meter.settled (Meter.debited_none _)

end

/-! ### Waste (R43 to R45) -/

/-- R43 to R45: the volume in the account, the notices of what flags it changes, and the record's write. -/
theorem State.addWaste_does (u : State) (volume : Nat) :
    let w := u.waste.add volume
    keepsBut [.waste, .notices, .nvm] u (u.addWaste volume) ∧ (u.addWaste volume).waste = w ∧
      (u.addWaste volume).notices = ({ u with waste := w }.judgeWaste u.wasteNear u.wasteFull).notices ∧
      (u.addWaste volume).nvm =
        if u.waste.counter / 1000 < w.counter / 1000 then u.nvm.enqueue (.waste w) else u.nvm := by
  intro w
  obtain ⟨v, isJudged⟩ : ∃ v, v = { u with waste := w }.judgeWaste u.wasteNear u.wasteFull := ⟨_, rfl⟩
  have judged : keepsBut [.notices] { u with waste := w } v := isJudged ▸ State.judgeWaste_keepsNotices _ _ _
  have waste : v.waste = w := judged.2.2 .waste (by decide)
  have nvm : v.nvm = u.nvm := judged.2.2 .nvm (by decide)
  have shape : u.addWaste volume =
      if u.waste.counter / 1000 < w.counter / 1000 then v.queueWrite (.waste w) else v := by rw [isJudged]; rfl
  refine ⟨by simp, ?_⟩
  rw [shape, ← isJudged]
  split
  · exact ⟨waste, rfl, congrArg (fun m : Nvm => m.enqueue (.waste w)) nvm⟩
  · exact ⟨waste, rfl, nvm⟩

end Sys2Proof.Machine

/-!
PROOFS. The line end of an open line whose check was good (R37 to R45).
-/

namespace Sys2Proof.Machine

open Sys2Proof

/-- R44: the waste flags turn on the account and the policy. -/
theorem State.wasteFlags_congr {s u : State} (waste : u.waste = s.waste) (settings : u.settings = s.settings) :
    u.wasteNear = s.wasteNear ∧ u.wasteFull = s.wasteFull := by
  have near (v : State) : v.wasteNear =
      (fun (x : Settings) (w : WasteAccount) => decide (x.policy.wasteNear ≤ w.counter)) v.settings v.waste := rfl
  have full (v : State) : v.wasteFull =
      (fun (x : Settings) (w : WasteAccount) => decide (x.policy.wasteFull ≤ w.counter)) v.settings v.waste := rfl
  rw [near u, near s, full u, full s, waste, settings]
  exact ⟨rfl, rfl⟩

/-- R44: the notices of the waste flags do not turn on the meters. -/
theorem State.judgeWaste_meters (v : State) (meters : Vector Meter 12) (near full : Bool) :
    ({ v with meters := meters }.judgeWaste near full).notices = (v.judgeWaste near full).notices := by
  have sameNear : ({ v with meters := meters } : State).wasteNear = v.wasteNear := rfl
  have sameFull : ({ v with meters := meters } : State).wasteFull = v.wasteFull := rfl
  unfold State.judgeWaste
  rw [sameNear, sameFull]
  dsimp only
  split <;> split <;> rfl

section
variable (s : State) (l : Flight)

/-- R37: the band of the line's head. -/
def State.lineBand : Nat := s.settings.temp.band (s.head l.head)

/-- R38: the multiplier of that band. -/
def State.lineMultiplier : Nat := s.settings.temp.multiplier (s.lineBand l)

/-- R38: the corrected volume of the line. -/
def State.lineVolume : Nat := (s.meter l.channel).corrected l (s.lineMultiplier l)

/-- R38, R39, R41: the line's channel with the computation made, before its debits. -/
def State.lineComputed : State :=
  s.putMeter l.channel ((s.meter l.channel).afterLine l (s.routeCfg l.channel) (s.lineMultiplier l) (s.lineBand l))

/-- R39: the debit count. -/
def State.lineDebits : Nat := (s.meter l.channel).debits l (s.lineMultiplier l)

/-- R40: the debits emitted. -/
def State.lineDebited : State := State.emitDebits (s.lineDebits l) (s.lineComputed l) l.channel l.source

/-- R40: the slot and tenure latched. -/
def State.lineLatched : State :=
  (s.lineDebited l).putMeter l.channel { (s.lineDebited l).meter l.channel with lastCharge := l.source }

/-- R41: the class of the line. -/
def State.lineService : Bool :=
  l.full (s.routeCfg l.channel).fullAllowance &&
    decide ((s.routeCfg l.channel).runLength ≤ (s.meter l.channel).runAfter (l.full (s.routeCfg l.channel).fullAllowance))

theorem State.lineDebited_meter :
    (s.lineDebited l).meter l.channel =
      ((s.meter l.channel).afterLine l (s.routeCfg l.channel) (s.lineMultiplier l) (s.lineBand l)).debited
        (s.lineDebits l) (if (s.chargeable l.source).isSome then 0 else s.lineDebits l) := by
  rw [State.lineDebited, State.emitDebits_meter, State.lineComputed, State.putMeter_same]
  rfl

theorem State.lineLatched_meter :
    (s.lineLatched l).meter l.channel = { (s.lineDebited l).meter l.channel with lastCharge := l.source } := by
  rw [State.lineLatched, State.putMeter_same]

theorem State.lineLatched_service :
    ((s.lineLatched l).meter l.channel).classifier = if s.lineService l then .service else .print := by
  rw [State.lineLatched_meter, State.lineDebited_meter]
  rfl

/-- R43: a service line's volume enters the waste account. -/
theorem State.meterLine_eq :
    s.meterLine l =
      if s.lineService l then (s.lineLatched l).addWaste (s.lineVolume l) else s.lineLatched l := by
  have shape : s.meterLine l =
      if ((s.lineLatched l).meter l.channel).classifier = .service then (s.lineLatched l).addWaste (s.lineVolume l)
      else s.lineLatched l := rfl
  rw [shape, State.lineLatched_service]
  cases s.lineService l <;> rfl

theorem State.lineDebited_debits :
    Debits (List.replicate (s.lineDebits l) (l.channel, l.source)) (s.lineComputed l) (s.lineDebited l) :=
  State.emitDebits_debits _ _ _ _

/-- R43 to R45: what the waste account takes of the line, and what that raises and queues. -/
theorem State.meterLine_does :
    let t := s.meterLine l
    let counted := { s.lineDebited l with waste := t.waste }
    let near := if t.wasteNear = s.wasteNear then counted else counted.raiseWaste .near t.wasteNear
    let full := if t.wasteFull = s.wasteFull then near else near.raiseWaste .full t.wasteFull
    keepsBut [.waste, .notices, .nvm] (s.lineLatched l) t ∧
      t.waste = (if s.lineService l then s.waste.add (s.lineVolume l) else s.waste) ∧ t.notices = full.notices ∧
      t.nvm =
        if s.waste.counter / 1000 < t.waste.counter / 1000 then (s.lineDebited l).nvm.enqueue (.waste t.waste)
        else (s.lineDebited l).nvm := by
  intro t counted near full
  have debited := (s.lineDebited_debits l).kept
  have waste : (s.lineDebited l).waste = s.waste := debited.2.2 .waste (by decide)
  have settings : (s.lineDebited l).settings = s.settings := debited.2.2 .settings (by decide)
  have shape := s.meterLine_eq l
  cases service : s.lineService l with
  | false =>
    rw [service, if_neg (by simp)] at shape
    have isLatched : t = s.lineLatched l := shape
    have kept : t.waste = s.waste := by rw [isLatched]; exact waste
    obtain ⟨sameNear, sameFull⟩ := State.wasteFlags_congr kept (by rw [isLatched]; exact settings)
    have noticed : full = counted := by simp only [full, near, sameNear, sameFull, if_true]
    refine ⟨isLatched ▸ keepsBut_refl _ _, kept, ?_, ?_⟩
    · rw [noticed, isLatched]
      rfl
    · rw [kept, if_neg (Nat.lt_irrefl _), isLatched]
      rfl
  | true =>
    rw [service, if_pos rfl] at shape
    obtain ⟨kept, added, notices, nvm⟩ := (s.lineLatched l).addWaste_does (s.lineVolume l)
    rw [← shape] at kept added notices nvm
    have before : (s.lineLatched l).waste = s.waste := waste
    have entered : t.waste = s.waste.add (s.lineVolume l) := by rw [← before]; exact added
    obtain ⟨beforeNear, beforeFull⟩ := State.wasteFlags_congr (u := s.lineLatched l) before settings
    obtain ⟨nowNear, nowFull⟩ := State.wasteFlags_congr (s := counted) (u := t) rfl (kept.2.2 .settings (by decide))
    refine ⟨kept, entered, ?_, ?_⟩
    · have same : ({ s.lineLatched l with waste := t.waste } : State) =
          { counted with meters := (s.lineLatched l).meters } := rfl
      rw [notices, beforeNear, beforeFull, ← added, same, State.judgeWaste_meters]
      simp only [full, near, nowNear, nowFull]
      rfl
    · rw [nvm, ← added, before]
      rfl

end

end Sys2Proof.Machine

/-!
PROOFS. LINE_END as a whole (R143, R31, R37 to R45).
-/

namespace Sys2Proof.Machine

open Sys2Proof

section
variable (s : State) (l : Flight)

/-- R37 to R41: the channel's record after its line. -/
theorem State.meterLine_meter :
    (s.meterLine l).meter l.channel =
      { ((s.meter l.channel).afterLine l (s.routeCfg l.channel) (s.lineMultiplier l) (s.lineBand l)).debited
          (s.lineDebits l) (if (s.chargeable l.source).isSome then 0 else s.lineDebits l) with
        lastCharge := l.source } := by
  obtain ⟨kept, -⟩ := s.meterLine_does l
  have meters : (s.meterLine l).meters = (s.lineLatched l).meters := kept.2.2 .meters (by decide)
  have meter : (s.meterLine l).meter l.channel = (s.lineLatched l).meter l.channel :=
    congrArg (fun meters : Vector Meter 12 => meters[l.channel]) meters
  rw [meter, State.lineLatched_meter, State.lineDebited_meter]

theorem State.meterLine_otherMeters : otherMeters l.channel s (s.meterLine l) := fun d other => by
  obtain ⟨kept, -⟩ := s.meterLine_does l
  have meters : (s.meterLine l).meters = (s.lineLatched l).meters := kept.2.2 .meters (by decide)
  have meter : (s.meterLine l).meter d = (s.lineLatched l).meter d :=
    congrArg (fun meters : Vector Meter 12 => meters[d]) meters
  rw [meter, State.lineLatched, State.putMeter_other _ _ other, State.lineDebited,
    State.emitDebits_otherMeters _ _ _ _ d other, State.lineComputed, State.putMeter_other _ _ other]

theorem State.meterLine_slot (i : SlotNo) : (s.meterLine l).slot i = (s.lineDebited l).slot i := by
  obtain ⟨kept, -⟩ := s.meterLine_does l
  exact State.slot_of_slots (kept.2.2 .slots (by decide)) i

/-- R40, R13 to R17: the slots after the line's debits. -/
theorem State.meterLine_slots :
    (s.chargeable l.source = none ∨ s.lineDebits l = 0 → (s.meterLine l).slots = s.slots) ∧
      ∀ i : SlotNo,
        (s.chargeable l.source = some i →
          ((s.meterLine l).slot i).counts = (s.slot i).countsAfter (s.lineDebits l) s.policy.overdrawLimit ∧
            ((s.meterLine l).slot i).tenure = (s.slot i).tenure ∧ ((s.meterLine l).slot i).serial = (s.slot i).serial ∧
            ((s.meterLine l).slot i).present = (s.slot i).present) ∧
          (s.chargeable l.source ≠ some i →
            (s.meterLine l).slot i = s.slot i ∨ (s.meterLine l).slot i = { s.slot i with historyIndex := none }) := by
  obtain ⟨-, -, -, -, identity, counts, uncharged, unslotted⟩ := s.lineDebited_debits l
  have same (source : Option (SlotNo × Tenure)) : (s.lineComputed l).chargeable source = s.chargeable source := rfl
  refine ⟨fun nobody => ?_, fun i => ⟨fun charged => ?_, fun uncharged' => ?_⟩⟩
  · obtain ⟨kept, -⟩ := s.meterLine_does l
    refine (kept.2.2 .slots (by decide)).trans (unslotted fun d mem => ?_)
    obtain ⟨some, rfl⟩ := List.mem_replicate.mp mem
    exact nobody.resolve_right some
  · have own := counts i
    rw [State.charges_line, same, if_pos charged, List.length_replicate] at own
    rw [State.meterLine_slot]
    exact ⟨own, identity i⟩
  · rw [State.meterLine_slot]
    exact (uncharged i (by rw [State.charges_line, same, if_neg uncharged'])).2

theorem State.meterLine_keeps' :
    keepsBut [.meters, .slots, .lines, .digest, .routes, .trace, .history, .pins, .nvm, .notices, .waste] s
      (s.meterLine l) := by
  simp

end

/-- A line that is not metered leaves the record alone (R31, R143). -/
theorem State.lineEnds_zero (s : State) {l : Flight} (zero : l.blanked = true ∨ l.upstream ≠ .good) : s.lineEnds l = s := by
  refine if_neg ?_
  rcases zero with blanked | notGood
  · simp [blanked]
  · simp [notGood]

theorem State.lineEnds_metered (s : State) {l : Flight} (opened : l.blanked = false) (good : l.upstream = .good) :
    s.lineEnds l = s.meterLine l := if_pos (by simp [opened, good])

/-- Settles O43: the packet and the record, then the metering of an open good line. -/
theorem lineEndMetersTheLine : Obligations.LineEndMetersTheLine := by
  refine ⟨fun f later => ⟨fun ahead p behind buffer live sent => ?_, rfl, f.endLine_symbols later⟩, ?_⟩
  · change sentThroughLine f.buffer = behind
    rw [buffer, sentThroughLine_live live sent]
  · intro s l later on flights forward
    refine ⟨fun zero => ?_, fun opened good => ?_⟩
    · have arrived : l.upstream ≠ .arriving := by
        rcases zero with ⟨-, arrived⟩ | failed
        · exact arrived
        · simp [failed]
      have unmetered : l.blanked = true ∨ l.upstream ≠ .good := by
        rcases zero with ⟨blanked, -⟩ | failed
        · exact .inl blanked
        · exact .inr (by simp [failed])
      rw [exec_lineEnd on flights arrived, State.lineEnds_zero _ unmetered]
    · obtain ⟨w, isEnded⟩ : ∃ w, w = { s with forward := forward } := ⟨_, rfl⟩
      have ends := exec_lineEnd on flights (by simp [good])
      rw [State.lineEnds_metered _ opened good, ← isEnded] at ends
      intro m cfg table band raw scaled fine debits full run service charged
      have isService : w.lineService l = service := by rw [isEnded]; rfl
      have isDebits : w.lineDebits l = debits := by rw [isEnded]; rfl
      have isCharged : w.chargeable l.source = charged := by
        rw [isEnded]
        simp only [charged]
        cases l.source <;> rfl
      have computed : w.lineComputed l = State.putMeter { s with forward := forward } l.channel
          { m with
            fine := fine % 100000000, remainder := scaled % 1024, run := run
            classifier := if service then .service else .print, linesMetered := m.linesMetered + 1
            lastBand := some band } := by rw [isEnded]; rfl
      have volume : w.waste.add (w.lineVolume l) =
          { fine := (s.waste.fine + scaled / 1024) % 100000000
            counter := min u32Max (s.waste.counter + (s.waste.fine + scaled / 1024) / 100000000) } := by
        rw [isEnded]
        rfl
      have waste_w : w.waste = s.waste := by rw [isEnded]
      obtain ⟨near_w, full_w⟩ := State.wasteFlags_congr (s := s) (u := w) waste_w (by rw [isEnded])
      have kept : keepsBut [.forward, .meters, .slots, .lines, .digest, .routes, .trace, .history, .pins, .nvm,
          .notices, .waste] s (w.meterLine l) :=
        keepsBut.trans (t := w) (by rw [isEnded]; simp) ((w.meterLine_keeps' l).mono (by simp))
      have ahead : (w.meterLine l).forward = forward := by
        rw [← (show w.forward = forward by rw [isEnded])]
        exact (w.meterLine_keeps' l).2.2 .forward (by decide)
      have meter := w.meterLine_meter l
      have others := w.meterLine_otherMeters l
      obtain ⟨unslotted, slots⟩ := w.meterLine_slots l
      obtain ⟨latched, waste, notices, nvm⟩ := w.meterLine_does l
      have after : (w.meter l.channel).afterLine l (w.routeCfg l.channel) (w.lineMultiplier l) (w.lineBand l) =
          { m with
            fine := fine % 100000000, remainder := scaled % 1024, run := run
            classifier := if service then .service else .print, linesMetered := m.linesMetered + 1
            lastBand := some band } := by rw [isEnded]; rfl
      have ofService : ((if service then Classifier.service else .print) = .service) = (service = true) := by
        cases service <;> simp
      have sameSlots : w.slots = s.slots := by rw [isEnded]
      have policy : w.policy = s.policy := by
        rw [isEnded]
        rfl
      have meterOthers (d : Channel) : w.meter d = s.meter d := by
        rw [isEnded]
        rfl
      rw [isCharged, isDebits] at meter unslotted slots
      rw [isService] at waste
      refine ⟨w.meterLine l, ⟨ends, kept⟩, ahead, fun d other => (others d other).trans (meterOthers d), ?_, ?_, ?_, ?_, ?_⟩
      · have orphan : orphanAfter (if charged.isSome then 0 else debits) m.orphan =
            if charged.isSome then m.orphan else orphanAfter debits m.orphan := by
          split <;> rfl
        rw [meter, after]
        simp only [Meter.debited, ofService, orphan]
      · rw [waste, volume, waste_w]
      · rw [State.lineDebited, computed, isDebits] at notices nvm
        rw [near_w, full_w] at notices
        rw [waste_w] at nvm
        have kept (b : Block) (same : b ∉ [Block.waste, .notices, .nvm, .meters]) :
            sameBlock (w.lineDebited l) (w.meterLine l) b := by
          have latch : keepsBut [.meters] (w.lineDebited l) (w.lineLatched l) := by simp [State.lineLatched]
          exact ((latch.mono (by simp)).trans (latched.mono (by simp)) : keepsBut [.waste, .notices, .nvm, .meters]
            (w.lineDebited l) (w.meterLine l)).2.2 b same
        rw [State.lineDebited, computed, isDebits] at kept
        exact ⟨kept .slots (by decide), kept .lines (by decide), kept .digest (by decide), kept .routes (by decide),
          kept .trace (by decide), kept .pins (by decide), kept .history (by decide), notices, nvm⟩
      · exact fun nobody => (unslotted nobody).trans sameSlots
      · intro i
        obtain ⟨charged_i, uncharged_i⟩ := slots i
        rw [State.slot_of_slots sameSlots, policy] at charged_i
        rw [State.slot_of_slots sameSlots] at uncharged_i
        exact ⟨charged_i, uncharged_i⟩

end Sys2Proof.Machine

/-!
PROOFS. The charges of a save (R47, R189): POWER_SAVE on every channel, 3 debits for each line in flight, 1 for each
channel with a residue.
-/

namespace Sys2Proof.Machine

open Sys2Proof

/-! ### POWER_SAVE -/

theorem State.gateForSave_route (s : State) (c d : Channel) :
    (s.gateForSave c).route d =
      if d = c then { s.route c with gate := { (s.route c).gate with powerSave := true } } else s.route d := by
  by_cases same : d = c
  · subst same
    rw [if_pos rfl, State.gateForSave, State.setGate_route]
  · rw [if_neg same]
    exact (otherRoutes_setGate c s s _).mpr (otherRoutes.refl c s) d same

/-- R189, step 1. -/
theorem State.gatesForSave (s : State) (c : Channel) :
    ((channels.foldl State.gateForSave s).route c).gate.powerSave = true := by
  have kept (cs : List Channel) (u : State) (gated : (u.route c).gate.powerSave = true ∨ c ∈ cs) :
      ((cs.foldl State.gateForSave u).route c).gate.powerSave = true := by
    induction cs generalizing u with
    | nil => simpa using gated
    | cons d cs ih =>
      refine ih (u.gateForSave d) ?_
      rw [State.gateForSave_route]
      by_cases same : c = d
      · rw [if_pos same]
        exact .inl rfl
      · rw [if_neg same]
        simpa [same] using gated
  exact kept channels s (.inr (List.mem_finRange c))

/-! ### The lines in flight -/

/-- R47: the debits of the lines in flight. -/
def lineCharges (flights : List Flight) : List (Channel × Option (SlotNo × Tenure)) :=
  flights.flatMap fun l => List.replicate 3 (l.channel, l.source)

theorem State.chargeLines_debits (flights : List Flight) (s : State) :
    Debits (lineCharges flights) s (flights.foldl State.chargeAbandoned s) := by
  induction flights generalizing s with
  | nil => exact .none s
  | cons l flights ih =>
    exact (s.emitDebits_debits l.channel l.source 3).trans (ih (s.chargeAbandoned l))

theorem State.chargeLines_residue (flights : List Flight) (s : State) (c : Channel) :
    ((flights.foldl State.chargeAbandoned s).meter c).fine = (s.meter c).fine ∧
      ((flights.foldl State.chargeAbandoned s).meter c).remainder = (s.meter c).remainder := by
  induction flights generalizing s with
  | nil => exact ⟨rfl, rfl⟩
  | cons l flights ih =>
    obtain ⟨fine, remainder⟩ := ih (s.chargeAbandoned l)
    obtain ⟨fine', remainder'⟩ := s.emitDebits_residue l.channel l.source 3 c
    exact ⟨fine.trans fine', remainder.trans remainder'⟩

/-! ### The residues -/

/-- R47: the debit of a channel with a residue. -/
def residueCharge (c : Channel) (m : Meter) : List (Channel × Option (SlotNo × Tenure)) :=
  if 0 < m.fine ∨ 0 < m.remainder then [(c, m.lastCharge)] else []

theorem Debits.lastCharge {ds : List (Channel × Option (SlotNo × Tenure))} {s t : State} (h : Debits ds s t) (c : Channel) :
    (t.meter c).lastCharge = (s.meter c).lastCharge :=
  (congrArg Meter.lastCharge (h.meter c) :)

theorem Debits.residueCharge {ds : List (Channel × Option (SlotNo × Tenure))} {s t : State} (h : Debits ds s t)
    {c : Channel} (fine : (t.meter c).fine = (s.meter c).fine) (remainder : (t.meter c).remainder = (s.meter c).remainder) :
    residueCharge c (t.meter c) = residueCharge c (s.meter c) := by
  rw [Machine.residueCharge, Machine.residueCharge, fine, remainder, h.lastCharge c]

/-- A meter that gives up its residue is otherwise as it was. -/
theorem Debits.clear (s : State) (c : Channel) :
    Debits [] s (s.putMeter c { s.meter c with fine := 0, remainder := 0 }) where
  kept := by simp
  writes := .refl _
  gates _ := rfl
  meter d := by
    by_cases same : d = c
    · rw [same, State.putMeter_same]
      exact (congrArg Meter.settled (Meter.debited_none (s.meter c)).symm :)
    · rw [State.putMeter_other s _ same]
      exact congrArg Meter.settled (Meter.debited_none _).symm
  identity _ := ⟨rfl, rfl, rfl⟩
  counts _ := rfl
  uncharged _ _ := ⟨rfl, .inl rfl⟩
  unslotted _ := rfl

section
variable (s : State) (c : Channel)

theorem State.chargeResidue_debits : Debits (residueCharge c (s.meter c)) s (s.chargeResidue c) := by
  unfold State.chargeResidue residueCharge
  dsimp only
  split
  · exact (s.emitDebit_debits c (s.meter c).lastCharge).trans (Debits.clear _ c)
  · exact .none s

/-- R47: the residue of the channel becomes 0, and no other changes. -/
theorem State.chargeResidue_residue (d : Channel) :
    ((s.chargeResidue c).meter d).fine = (if d = c then 0 else (s.meter d).fine) ∧
      ((s.chargeResidue c).meter d).remainder = (if d = c then 0 else (s.meter d).remainder) := by
  unfold State.chargeResidue
  dsimp only
  split
  · by_cases same : d = c
    · rw [same, State.putMeter_same, if_pos rfl, if_pos rfl]
      exact ⟨rfl, rfl⟩
    · rw [State.putMeter_other _ _ same, if_neg same, if_neg same]
      exact s.emitDebit_residue c _ d
  next settled =>
    obtain ⟨fine, remainder⟩ := not_or.mp settled
    by_cases same : d = c
    · rw [same, if_pos rfl, if_pos rfl]
      exact ⟨Nat.eq_zero_of_not_pos fine, Nat.eq_zero_of_not_pos remainder⟩
    · rw [if_neg same, if_neg same]
      exact ⟨rfl, rfl⟩

end

/-- R47: the residues charged in that order are those that stand before. -/
theorem State.chargeResidues_debits {cs : List Channel} (once : cs.Nodup) (s : State) :
    Debits (cs.flatMap fun c => residueCharge c (s.meter c)) s (cs.foldl State.chargeResidue s) := by
  induction cs generalizing s with
  | nil => exact .none s
  | cons c cs ih =>
    obtain ⟨fresh, once⟩ := List.nodup_cons.mp once
    have first := s.chargeResidue_debits c
    have later : (cs.flatMap fun d => residueCharge d ((s.chargeResidue c).meter d)) =
        cs.flatMap fun d => residueCharge d (s.meter d) := by
      refine List.flatMap_congr fun d mem => ?_
      have other : d ≠ c := fun same => fresh (same ▸ mem)
      obtain ⟨fine, remainder⟩ := s.chargeResidue_residue c d
      rw [if_neg other] at fine remainder
      exact first.residueCharge fine remainder
    have rest := ih once (s.chargeResidue c)
    rw [later] at rest
    exact first.trans rest

theorem State.chargeResidues_residue {cs : List Channel} (s : State) (c : Channel)
    (cleared : c ∈ cs ∨ (s.meter c).fine = 0 ∧ (s.meter c).remainder = 0) :
    ((cs.foldl State.chargeResidue s).meter c).fine = 0 ∧ ((cs.foldl State.chargeResidue s).meter c).remainder = 0 := by
  induction cs generalizing s with
  | nil => simpa using cleared
  | cons d cs ih =>
    refine ih (s.chargeResidue d) ?_
    obtain ⟨fine, remainder⟩ := s.chargeResidue_residue d c
    rw [fine, remainder]
    by_cases same : c = d
    · simp [same]
    · simpa [same] using cleared

/-! ### All charges -/

theorem filter_map_eq_flatMap {α β : Type} (p : α → Bool) (f : α → β) (l : List α) :
    (l.filter p).map f = l.flatMap fun a => if p a = true then [f a] else [] := by
  induction l with
  | nil => rfl
  | cons a l ih =>
    rw [List.filter_cons, List.flatMap_cons, ← ih]
    split <;> rfl

theorem State.saveDebits_eq (s : State) :
    s.saveDebits = lineCharges s.forward.flights ++ channels.flatMap fun c => residueCharge c (s.meter c) := by
  rw [State.saveDebits, filter_map_eq_flatMap]
  simp only [decide_eq_true_eq]
  rfl

/-- R40, R47: a debit that no slot takes. -/
theorem State.orphans_eq (s : State) (ds : List (Channel × Option (SlotNo × Tenure))) :
    (ds.filter fun d => (List.finRange 16).all fun i => !s.chargesSlot i d.2) = s.orphans ds := by
  refine List.filter_congr fun d _ => ?_
  cases charged : s.chargeable d.2 with
  | some i =>
    have own := (s.chargeable_iff d.2 i).mp charged
    simp only [Option.isNone_some, List.all_eq_false]
    exact ⟨i, List.mem_finRange i, by simp [own]⟩
  | none =>
    simp only [Option.isNone_none, List.all_eq_true]
    intro i _
    rw [Bool.not_eq_true', Bool.eq_false_iff, ne_eq, ← State.chargeable_iff, charged]
    exact nofun

/-- R47, R144: the lines in flight are abandoned and charged, and then the residues. -/
def State.saveCharged (s : State) : State := channels.foldl State.chargeResidue s.chargeLines

theorem State.saveCharged_does (s : State) :
    Debits s.saveDebits s.abandonLines s.saveCharged ∧
      ∀ c : Channel, (s.saveCharged.meter c).fine = 0 ∧ (s.saveCharged.meter c).remainder = 0 := by
  have lines := State.chargeLines_debits s.forward.flights s.abandonLines
  have residues := State.chargeResidues_debits (List.nodup_finRange 12) s.chargeLines
  refine ⟨?_, fun c => State.chargeResidues_residue s.chargeLines c (.inl (List.mem_finRange c))⟩
  have same : (channels.flatMap fun c => residueCharge c (s.chargeLines.meter c)) =
      channels.flatMap fun c => residueCharge c (s.meter c) := by
    refine List.flatMap_congr fun c _ => ?_
    obtain ⟨fine, remainder⟩ := State.chargeLines_residue s.forward.flights s.abandonLines c
    exact lines.residueCharge fine remainder
  rw [State.saveDebits_eq, ← same]
  exact lines.trans residues

end Sys2Proof.Machine

/-!
PROOFS. The entries that a save writes (R128, R189, step 4): each slot in GENUINE or DEPLETED gives its drawn since
checkpoint to the entry of its serial, and what later slots do to it.
-/

namespace Sys2Proof.Machine

open Sys2Proof

/-! ### Writes that stay queued (R185) -/

theorem Nvm.enqueue_busy (m : Nvm) (w : RecordWrite) : (m.enqueue w).inProgress ≠ none := by
  unfold Nvm.enqueue Nvm.begin
  split
  · exact nofun
  next stays =>
    intro free
    generalize isQueue : (if m.queue.any (fun p => decide (p.record = w.record)) then replaceWrite w m.queue
      else m.queue ++ [w]) = queue at stays free
    cases queue with
    | cons v ws => exact stays v ws free rfl
    | nil =>
      split at isQueue
      next pending =>
        have waits := replaceWrite_mem w pending
        rw [isQueue] at waits
        cases waits
      · simp at isQueue

theorem replaceWrite_keeps {w v : RecordWrite} (other : v.record ≠ w.record) {queue : List RecordWrite} (waits : w ∈ queue) :
    w ∈ replaceWrite v queue := by
  induction queue with
  | nil => cases waits
  | cons p ps ih =>
    rw [replaceWrite]
    rcases List.mem_cons.mp waits with rfl | behind
    · rw [if_neg (Ne.symm other)]
      exact .head _
    · split
      · exact .tail v behind
      · exact .tail p (ih behind)

/-- R185: a write stays queued, or goes on, while writes of other records are queued. -/
theorem Nvm.enqueue_keepsQueued {m before : Nvm} {w v : RecordWrite} (busy : m.inProgress ≠ none)
    (other : v.record ≠ w.record) (queued : m.queuedSince before w) : (m.enqueue v).queuedSince before w := by
  have shape : m.enqueue v =
      { m with
        queue := if m.queue.any (fun p => decide (p.record = v.record)) then replaceWrite v m.queue else m.queue ++ [v] } :=
    Nvm.begin_inProgress busy
  rw [shape]
  rcases queued with waits | begun
  · refine .inl ?_
    dsimp only
    split
    · exact replaceWrite_keeps other waits
    · exact List.mem_append_left _ waits
  · exact .inr begun

/-! ### A queued entry -/

/-- R115: a write of every valid entry is queued. -/
def State.queueValid (s : State) (ms : List EntryNo) : State :=
  ms.foldl (fun t m => if (t.entry m).isSome then t.queueEntry m else t) s

theorem State.queueValid_cons (s : State) (m : EntryNo) (ms : List EntryNo) :
    s.queueValid (m :: ms) = (if (s.entry m).isSome then s.queueEntry m else s).queueValid ms := rfl

theorem State.renumberIfFull_eq (s : State) :
    s.renumberIfFull =
      if s.history.nextStamp ≤ largestStamp then s
      else State.queueValid { s with history := s.history.renumber } entryNos := rfl

/-- Entry n is e, and its write was queued since that state of the Non-Volatile Memory. -/
structure EntryQueued (before : Nvm) (n : EntryNo) (e : HistoryEntry) (s : State) : Prop where
  entry : s.entry n = some e
  queued : s.nvm.queuedSince before (.history n (some e))
  writes : s.nvm.queuesOn before
  busy : s.nvm.inProgress ≠ none

namespace EntryQueued

variable {before : Nvm} {n m : EntryNo} {e : HistoryEntry} {s t : State}

/-- A change of what a queued entry does not turn on. -/
theorem of_same (h : EntryQueued before n e s) (entry : t.entry n = s.entry n) (nvm : t.nvm = s.nvm) :
    EntryQueued before n e t :=
  ⟨entry.trans h.entry, nvm ▸ h.queued, nvm ▸ h.writes, nvm ▸ h.busy⟩

/-- R119: any entry is queued again, this one among them. -/
theorem queueEntry (h : EntryQueued before n e s) (m : EntryNo) : EntryQueued before n e (s.queueEntry m) where
  entry := h.entry
  queued := by
    by_cases same : m = n
    · subst same
      have queued := Nvm.enqueue_queuedSince h.writes (.history m (s.entry m))
      rw [h.entry] at queued
      exact h.entry ▸ queued
    · exact Nvm.enqueue_keepsQueued h.busy (fun record => same (RecordName.history.inj record)) h.queued
  writes := h.writes.trans (Nvm.enqueue_queuesOn _ _)
  busy := Nvm.enqueue_busy _ _

/-- R115: all valid entries are queued, in their order. -/
theorem queueAll (h : EntryQueued before n e s) (ms : List EntryNo) :
    EntryQueued before n e (s.queueValid ms) := by
  induction ms generalizing s with
  | nil => exact h
  | cons m ms ih =>
    rw [State.queueValid_cons]
    refine ih ?_
    split
    · exact h.queueEntry m
    · exact h

/-- A state in which writes alone were queued since, and the entry is to be queued in its turn. -/
theorem queueAll_first (entry : s.entry n = some e) (writes : s.nvm.queuesOn before) (ms : List EntryNo) (mem : n ∈ ms) :
    EntryQueued before n e (s.queueValid ms) := by
  induction ms generalizing s with
  | nil => cases mem
  | cons m ms ih =>
    rw [State.queueValid_cons]
    by_cases same : n = m
    · subst same
      refine queueAll ?_ ms
      rw [if_pos (by rw [entry]; rfl)]
      have queued := Nvm.enqueue_queuedSince writes (.history n (s.entry n))
      exact ⟨entry, entry ▸ queued, writes.trans (Nvm.enqueue_queuesOn _ _), Nvm.enqueue_busy _ _⟩
    · refine ih ?_ ?_ ((List.mem_cons.mp mem).resolve_left same)
      · split <;> exact entry
      · split
        · exact writes.trans (Nvm.enqueue_queuesOn _ _)
        · exact writes

/-- R115: a renumbering gives the entry a new stamp and queues it again. -/
theorem renumberIfFull (h : EntryQueued before n e s) : ∃ k, EntryQueued before n { e with stamp := k } s.renumberIfFull := by
  rw [State.renumberIfFull_eq]
  split
  · exact ⟨e.stamp, h⟩
  · have entry : ({ s with history := s.history.renumber } : State).entry n =
        (s.entry n).map fun e => { e with stamp := s.history.placeOf n } := by
      simp [State.entry, History.renumber]
    rw [h.entry] at entry
    have writes : ({ s with history := s.history.renumber } : State).nvm.queuesOn before := h.writes
    have mem : n ∈ entryNos := List.mem_finRange n
    generalize ({ s with history := s.history.renumber } : State) = t at entry writes ⊢
    exact ⟨_, queueAll_first entry writes entryNos mem⟩

/-- R115: another entry becomes the most recent. -/
theorem moveEntry (h : EntryQueued before n e s) (other : n ≠ m) :
    ∃ k, EntryQueued before n { e with stamp := k } (s.moveEntry m) := by
  obtain ⟨k, renumbered⟩ := h.renumberIfFull
  refine ⟨k, ?_⟩
  unfold State.moveEntry
  generalize s.renumberIfFull = t at renumbered
  dsimp only
  split
  · exact renumbered
  · exact renumbered.of_same (State.putEntry_other t _ other) rfl

/-- R116: another serial takes another entry. -/
theorem insertEntry (h : EntryQueued before n e s) (f : HistoryEntry) (other : n ≠ s.history.vacancy) :
    ∃ k, EntryQueued before n { e with stamp := k } (s.insertEntry f).1 := by
  have shape : (s.insertEntry f).1 =
      ((s.forgetIndex s.history.vacancy).putEntry s.history.vacancy (some f)).moveEntry s.history.vacancy := rfl
  have forgot : EntryQueued before n e (s.forgetIndex s.history.vacancy) := h.of_same rfl rfl
  have placed : EntryQueued before n e ((s.forgetIndex s.history.vacancy).putEntry s.history.vacancy (some f)) :=
    forgot.of_same (State.putEntry_other _ _ other) rfl
  rw [shape]
  exact placed.moveEntry other

/-- R118: the update of another entry is closed. -/
theorem closeUpdate (h : EntryQueued before n e s) (i : SlotNo) (other : m ≠ n) :
    EntryQueued before n e (s.closeUpdate i m) where
  entry := (s.closeUpdate_entry i m n).trans h.entry
  queued := by
    rw [State.closeUpdate_nvm]
    exact Nvm.enqueue_keepsQueued h.busy (fun record => other (RecordName.history.inj record)) h.queued
  writes := h.writes.trans (Nvm.enqueue_queuesOn _ _)
  busy := Nvm.enqueue_busy _ _

end EntryQueued

/-! ### The vacancy (R116) -/

/-- R116: an insertion takes a valid entry only when every entry is valid. -/
theorem State.vacancy_full {s : State} {e : HistoryEntry} (valid : s.entry s.history.vacancy = some e) (n : EntryNo) :
    s.entry n ≠ none := by
  intro invalid
  cases found : entryNos.find? fun n => (s.history.entries[n]).isNone with
  | some m =>
    have vacancy : s.history.vacancy = m := by simp only [History.vacancy, found]
    have none : (s.entry m).isNone = true := List.find?_some (p := fun n : EntryNo => (s.entry n).isNone) found
    rw [vacancy] at valid
    rw [valid] at none
    cases none
  | none =>
    have all : ¬(s.entry n).isNone = true := List.find?_eq_none.mp found n (List.mem_finRange n)
    rw [invalid] at all
    exact all rfl

/-! ### One slot of the save -/

/-- R128: what a save does for a slot with a serial, once the entry is found or inserted. -/
theorem State.writeDrawnSince_eq {s : State} {j : SlotNo} {serial : Serial} (own : (s.slot j).serial = some serial) :
    ∃ u n e, (s.findOrInsert serial ((s.slot j).historyEntry serial)) = (u, n) ∧ u.entry n = some e ∧
      s.entryFor serial ((s.slot j).historyEntry serial) n e ∧
      s.writeDrawnSince j = (u.putEntry n (some { e with drawnSince := (s.slot j).drawn })).closeUpdate j n := by
  obtain ⟨e, held, found⟩ := s.findOrInsert_finds serial ((s.slot j).historyEntry serial)
  have shape : s.writeDrawnSince j =
      match (s.findOrInsert serial ((s.slot j).historyEntry serial)).1.entry
        (s.findOrInsert serial ((s.slot j).historyEntry serial)).2 with
      | none => (s.findOrInsert serial ((s.slot j).historyEntry serial)).1
      | some e =>
        ((s.findOrInsert serial ((s.slot j).historyEntry serial)).1.putEntry
          (s.findOrInsert serial ((s.slot j).historyEntry serial)).2
            (some { e with drawnSince := (s.slot j).drawn })).closeUpdate j
              (s.findOrInsert serial ((s.slot j).historyEntry serial)).2 := by
    rw [State.writeDrawnSince, own] <;> rfl
  rw [held] at shape
  exact ⟨_, _, e, rfl, held, found, shape⟩

end Sys2Proof.Machine

/-!
PROOFS. The step of a save in which the slots give their drawn since checkpoint to the History Table (R128, R189).
-/

namespace Sys2Proof.Machine

open Sys2Proof

/-! ### Valid entries stay valid -/

/-- No valid entry becomes invalid. -/
def keepsValid (s t : State) : Prop := ∀ n : EntryNo, s.entry n ≠ none → t.entry n ≠ none

theorem keepsValid.trans {s t u : State} (h : keepsValid s t) (k : keepsValid t u) : keepsValid s u :=
  fun n valid => k n (h n valid)

theorem State.putEntry_keepsValid (s : State) (n : EntryNo) (e : HistoryEntry) : keepsValid s (s.putEntry n (some e)) := by
  intro m valid
  by_cases same : m = n
  · rw [same, State.putEntry_same]
    exact nofun
  · rw [State.putEntry_other s _ same]
    exact valid

theorem State.moveEntry_keepsValid (s : State) (n : EntryNo) : keepsValid s (s.moveEntry n) := by
  intro m valid
  obtain ⟨e, held⟩ := Option.ne_none_iff_exists'.mp valid
  obtain ⟨k, stays⟩ := s.moveEntry_entryStays n m e held
  rw [stays]
  exact nofun

theorem State.insertEntry_eq (s : State) (f : HistoryEntry) :
    s.insertEntry f =
      (((s.forgetIndex s.history.vacancy).putEntry s.history.vacancy (some f)).moveEntry s.history.vacancy,
        s.history.vacancy) := rfl

theorem State.findOrInsert_keepsValid (s : State) (serial : Serial) (fresh : HistoryEntry) :
    keepsValid s (s.findOrInsert serial fresh).1 := by
  unfold State.findOrInsert
  split
  · exact fun _ valid => valid
  · rw [State.insertEntry_eq]
    have forgot : keepsValid s (s.forgetIndex s.history.vacancy) := fun _ valid => valid
    exact (forgot.trans (State.putEntry_keepsValid _ _ _)).trans (State.moveEntry_keepsValid _ _)

theorem State.closeUpdate_keepsValid (s : State) (i : SlotNo) (n : EntryNo) : keepsValid s (s.closeUpdate i n) :=
  fun m valid => by rwa [State.closeUpdate_entry]

/-! ### One slot's turn -/

/-- R128: the slot's entry holds its drawn since checkpoint, with its write queued; or a later insertion replaced it. -/
def SlotSaved (before : Nvm) (i : SlotNo) (serial : Serial) (drawn : Nat) (later : Prop) (u : State) : Prop :=
  (∃ n e, (u.slot i).historyIndex = some n ∧ e.serial = serial ∧ e.drawnSince = drawn ∧ EntryQueued before n e u) ∨
    ((u.slot i).historyIndex = none ∧ (∀ n : EntryNo, u.entry n ≠ none) ∧ later)

theorem State.entryFor_serial {s : State} {serial : Serial} {fresh e : HistoryEntry} {n : EntryNo}
    (found : s.entryFor serial fresh n e) (own : fresh.serial = serial) : e.serial = serial := by
  rcases found with ⟨hit, held⟩ | ⟨-, k, rfl⟩
  · obtain ⟨f, held', serialOf⟩ := History.lookup_serial hit
    cases held.symm.trans held'
    exact serialOf
  · exact own

section
variable {u : State} {j : SlotNo}

theorem State.writeDrawnSince_none (none : (u.slot j).serial = none) : u.writeDrawnSince j = u := by
  rw [State.writeDrawnSince, none]

/-- R128: what a slot's turn leaves of the slots, the entries and the queue. -/
theorem State.writeDrawnSince_leaves (u : State) (j : SlotNo) :
    (∀ i : SlotNo, ((u.writeDrawnSince j).slot i).forgotten = (u.slot i).forgotten) ∧
      (∀ i : SlotNo, i ≠ j → (u.slot i).historyIndex = none → ((u.writeDrawnSince j).slot i).historyIndex = none) ∧
      (u.writeDrawnSince j).nvm.queuesOn u.nvm ∧ keepsValid u (u.writeDrawnSince j) := by
  cases own : (u.slot j).serial with
  | none =>
    rw [State.writeDrawnSince_none own]
    exact ⟨fun _ => rfl, fun _ _ none => none, .refl _, fun _ valid => valid⟩
  | some serial =>
    obtain ⟨v, n, e, pair, held, found, shape⟩ := State.writeDrawnSince_eq own
    have work := u.findOrInsert_work serial ((u.slot j).historyEntry serial)
    have valid := u.findOrInsert_keepsValid serial ((u.slot j).historyEntry serial)
    rw [pair] at work valid
    have placed := v.putEntry_work n (some { e with drawnSince := (u.slot j).drawn })
    have stays := v.putEntry_keepsValid n { e with drawnSince := (u.slot j).drawn }
    rw [shape]
    generalize v.putEntry n (some { e with drawnSince := (u.slot j).drawn }) = w at placed stays
    have both := work.trans placed
    refine ⟨fun i => ?_, fun i other none => ?_, both.writes.trans (Nvm.enqueue_queuesOn _ _), (valid.trans stays).trans (w.closeUpdate_keepsValid j n)⟩
    · have slot := Slot.with_index_forgotten (both.slots i)
      by_cases same : i = j
      · subst same
        rw [State.closeUpdate_slot]
        exact slot
      · rw [w.closeUpdate_otherSlots j n i same]
        exact slot
    · rw [w.closeUpdate_otherSlots j n i other]
      rcases both.slots i with slot | slot <;> rw [slot]
      exact none

/-- R128: a slot's own turn. -/
theorem State.writeDrawnSince_saves {before : Nvm} (later : Prop) (writes : u.nvm.queuesOn before) {serial : Serial}
    (own : (u.slot j).serial = some serial) : SlotSaved before j serial (u.slot j).drawn later (u.writeDrawnSince j) := by
  obtain ⟨v, n, e, pair, held, found, shape⟩ := State.writeDrawnSince_eq own
  have work := u.findOrInsert_work serial ((u.slot j).historyEntry serial)
  rw [pair] at work
  have serialOf : e.serial = serial := State.entryFor_serial found rfl
  have entry := State.putEntry_same v n (some { e with drawnSince := (u.slot j).drawn })
  have nvm : (v.putEntry n (some { e with drawnSince := (u.slot j).drawn })).nvm = v.nvm := rfl
  rw [shape]
  generalize v.putEntry n (some { e with drawnSince := (u.slot j).drawn }) = w at entry nvm
  have onto : w.nvm.queuesOn before := by
    rw [nvm]
    exact writes.trans work.writes
  refine .inl ⟨n, { e with drawnSince := (u.slot j).drawn }, by rw [State.closeUpdate_slot], serialOf, rfl,
    (w.closeUpdate_entry j n n).trans entry, ?_, onto.trans (Nvm.enqueue_queuesOn _ _), Nvm.enqueue_busy _ _⟩
  rw [State.closeUpdate_nvm, entry]
  exact Nvm.enqueue_queuedSince onto _

/-- R116, R128: another slot's turn, with another serial. -/
theorem SlotSaved.otherTurn {before : Nvm} {i : SlotNo} {serial : Serial} {drawn : Nat} {later : Prop}
    (saved : SlotSaved before i serial drawn later u) (other : i ≠ j) (differs : (u.slot j).serial ≠ some serial)
    (after : later) : SlotSaved before i serial drawn later (u.writeDrawnSince j) := by
  obtain ⟨-, indexes, -, valid⟩ := u.writeDrawnSince_leaves j
  cases own : (u.slot j).serial with
  | none =>
    rw [State.writeDrawnSince_none own]
    exact saved
  | some serial' =>
    obtain ⟨v, m, f, pair, held, found, shape⟩ := State.writeDrawnSince_eq own
    have index (w : State) : ((w.closeUpdate j m).slot i).historyIndex = (w.slot i).historyIndex := by
      rw [w.closeUpdate_otherSlots j m i other]
    rcases saved with ⟨n, e, names, serialOf, drawnOf, queued⟩ | ⟨none, full, -⟩
    · have distinct (same : f = e) : False := by
        refine differs ?_
        rw [own, ← State.entryFor_serial found rfl, same, serialOf]
      have closes {k : Nat} (kept : EntryQueued before n { e with stamp := k } v) (elsewhere : m ≠ n)
          (still : (v.slot i).historyIndex = some n) : SlotSaved before i serial drawn later (u.writeDrawnSince j) := by
        have placed := kept.of_same (t := v.putEntry m (some { f with drawnSince := (u.slot j).drawn }))
          (State.putEntry_other v _ (Ne.symm elsewhere)) rfl
        rw [shape]
        exact .inl ⟨n, { e with stamp := k }, (index _).trans still, serialOf, drawnOf, placed.closeUpdate j elsewhere⟩
      rw [State.findOrInsert] at pair
      rcases found with ⟨hit, entry⟩ | ⟨miss, -⟩
      · rw [hit] at pair
        cases pair
        refine closes (k := e.stamp) queued (fun same => ?_) names
        subst same
        exact distinct (Option.some.inj (entry.symm.trans queued.entry))
      · rw [miss, State.insertEntry_eq] at pair
        obtain ⟨isV, rfl⟩ := Prod.mk.inj pair
        have slotsV : v.slots = (u.forgetIndex u.history.vacancy).slots := by
          rw [← isV]
          exact State.moveEntry_slots _ _
        have forgot : (v.slot i).historyIndex = if n = u.history.vacancy then none else some n := by
          rw [State.slot_of_slots slotsV, State.forgetIndex_slot, names]
          by_cases same : n = u.history.vacancy
          · rw [if_pos same, if_pos (congrArg some same)]
          · rw [if_neg same, if_neg fun eq => same (Option.some.inj eq)]
            exact names
        by_cases taken : n = u.history.vacancy
        · refine .inr ⟨?_, fun k => valid k (State.vacancy_full (taken ▸ queued.entry) k), after⟩
          rw [shape, index]
          exact forgot.trans (if_pos taken)
        · obtain ⟨k, kept⟩ := queued.insertEntry ((u.slot j).historyEntry serial') taken
          rw [State.insertEntry_eq, isV] at kept
          exact closes kept (Ne.symm taken) (forgot.trans (if_neg taken))
    · exact .inr ⟨indexes i other none, fun k => valid k (full k), after⟩

end

/-! ### All slots, in their order -/

/-- What the turns of a save leave: all of the slots but history indexes, and the Non-Volatile Memory but for writes
that are queued. -/
theorem State.saveDrawnSinces_leave (r : State) (js : List SlotNo) :
    (∀ i : SlotNo, ((js.foldl State.saveDrawnSince r).slot i).forgotten = (r.slot i).forgotten) ∧
      (js.foldl State.saveDrawnSince r).nvm.queuesOn r.nvm := by
  induction js generalizing r with
  | nil => exact ⟨fun _ => rfl, .refl _⟩
  | cons j js ih =>
    obtain ⟨slots, writes⟩ := ih (r.saveDrawnSince j)
    obtain ⟨slots', -, writes', -⟩ := r.writeDrawnSince_leaves j
    by_cases supplies : (r.slot j).state.supplies = true
    · have turn : r.saveDrawnSince j = r.writeDrawnSince j := if_pos supplies
      rw [turn] at slots writes
      rw [List.foldl_cons, turn]
      exact ⟨fun i => (slots i).trans (slots' i), writes'.trans writes⟩
    · have turn : r.saveDrawnSince j = r := if_neg supplies
      rw [turn] at slots writes
      rw [List.foldl_cons, turn]
      exact ⟨slots, writes⟩

theorem Slot.state_of_forgotten {x y : Slot} (h : x.forgotten = y.forgotten) :
    x.state = y.state ∧ x.serial = y.serial ∧ x.drawn = y.drawn := by
  rw [Slot.eq_of_forgotten h]
  exact ⟨rfl, rfl, rfl⟩

theorem SlotSaved.otherTurns {before : Nvm} {i : SlotNo} {serial : Serial} {drawn : Nat} {later : Prop} {js : List SlotNo}
    {r u : State} (slots : ∀ j : SlotNo, (u.slot j).forgotten = (r.slot j).forgotten)
    (saved : SlotSaved before i serial drawn later u)
    (differ : ∀ j ∈ js, i ≠ j ∧ ((r.slot j).state.supplies = true → (r.slot j).serial ≠ some serial ∧ later)) :
    SlotSaved before i serial drawn later (js.foldl State.saveDrawnSince u) := by
  induction js generalizing u with
  | nil => exact saved
  | cons j js ih =>
    rw [List.foldl_cons]
    obtain ⟨other, own⟩ := differ j (.head js)
    obtain ⟨state, serialOf, -⟩ := Slot.state_of_forgotten (slots j)
    by_cases supplies : (u.slot j).state.supplies = true
    · have turn : u.saveDrawnSince j = u.writeDrawnSince j := if_pos supplies
      obtain ⟨distinct, after⟩ := own (state ▸ supplies)
      obtain ⟨slots', -⟩ := u.writeDrawnSince_leaves j
      rw [turn]
      exact ih (fun k => (slots' k).trans (slots k)) (saved.otherTurn other (serialOf ▸ distinct) after)
        fun k mem => differ k (.tail j mem)
    · have turn : u.saveDrawnSince j = u := if_neg supplies
      rw [turn]
      exact ih slots saved fun k mem => differ k (.tail j mem)

/-- R128, R189, step 4: the entry of a slot in GENUINE or DEPLETED, no later one of which has its serial. -/
theorem State.saveDrawnSinces_save (r : State) {i : SlotNo} {serial : Serial} (supplies : (r.slot i).state.supplies = true)
    (own : (r.slot i).serial = some serial)
    (last : ∀ j : SlotNo, i < j → (r.slot j).state.supplies = true → (r.slot j).serial ≠ some serial) :
    SlotSaved r.nvm i serial (r.slot i).drawn (∃ j : SlotNo, i < j ∧ (r.slot j).state.supplies = true)
      (slotNos.foldl State.saveDrawnSince r) := by
  obtain ⟨a, b, split⟩ := List.append_of_mem (List.mem_finRange i)
  have ordered := List.pairwise_lt_finRange 16
  rw [split] at ordered
  have behind (j : SlotNo) (mem : j ∈ b) : i < j :=
    List.rel_of_pairwise_cons (List.pairwise_append.mp ordered).2.1 mem
  have all : slotNos = a ++ i :: b := split
  obtain ⟨slots, writes⟩ := r.saveDrawnSinces_leave a
  rw [all, List.foldl_append, List.foldl_cons]
  generalize a.foldl State.saveDrawnSince r = u at slots writes ⊢
  obtain ⟨state, serialOf, drawn⟩ := Slot.state_of_forgotten (slots i)
  have turn : u.saveDrawnSince i = u.writeDrawnSince i := if_pos (state ▸ supplies)
  obtain ⟨slots', -⟩ := u.writeDrawnSince_leaves i
  rw [turn, ← drawn]
  refine SlotSaved.otherTurns (fun k => (slots' k).trans (slots k))
    (State.writeDrawnSince_saves _ writes (serialOf.trans own)) fun j mem => ?_
  have after := behind j mem
  exact ⟨ne_of_lt after, fun supplied => ⟨last j after supplied, j, after, supplied⟩⟩

end Sys2Proof.Machine

/-!
PROOFS. A save begins (R188, R189, R190).
-/

namespace Sys2Proof.Machine

open Sys2Proof

/-! ### The writer's queue -/

theorem Nvm.queuedSince.earlier {m n before : Nvm} {w : RecordWrite} (queued : m.queuedSince n w)
    (free : n.inProgress = none → before.inProgress = none) : m.queuedSince before w := by
  rcases queued with waits | ⟨none, begun⟩
  · exact .inl waits
  · exact .inr ⟨free none, begun⟩

/-- R190: behind a write in progress the clean mark stands last, and every write of another record stays queued. -/
theorem Nvm.enqueueLast_busy {m : Nvm} (busy : m.inProgress ≠ none) (w : RecordWrite) :
    m.enqueueLast w = { m with queue := (m.queue.filter fun p => decide (p.record ≠ w.record)) ++ [w] } :=
  Nvm.begin_inProgress busy

theorem Nvm.enqueueLast_keepsQueued {m before : Nvm} {w v : RecordWrite} (busy : m.inProgress ≠ none)
    (other : w.record ≠ v.record) (queued : m.queuedSince before w) : (m.enqueueLast v).queuedSince before w := by
  rw [Nvm.enqueueLast_busy busy]
  rcases queued with waits | begun
  · exact .inl (List.mem_append_left _ (List.mem_filter.mpr ⟨waits, decide_eq_true other⟩))
  · exact .inr begun

/-! ### The lines whose levels arrive with the command -/

theorem lineCharges_congr {a b : List Flight}
    (same : a.map (fun l => (l.channel, l.source)) = b.map fun l => (l.channel, l.source)) : lineCharges a = lineCharges b := by
  have pairs (flights : List Flight) : lineCharges flights =
      (flights.map fun l => (l.channel, l.source)).flatMap fun p => List.replicate 3 p := by
    rw [List.flatMap_map]
    rfl
  rw [pairs a, pairs b, same]

theorem State.placeLevels_charges (s : State) (arrived : List Byte) :
    lineCharges (s.placeLevels arrived).forward.flights = lineCharges s.forward.flights := by
  unfold State.placeLevels
  split
  · rfl
  · exact lineCharges_congr
      (onNewestFlight_map (f := fun l => l.count _) (g := fun l => (l.channel, l.source)) (fun _ => rfl) _)

/-- R141: the level bytes that arrived change no line's channel and no line's source. -/
theorem State.levelsArrive_charges (s : State) (arrived : List Byte) :
    lineCharges (s.levelsArrive arrived).forward.flights = lineCharges s.forward.flights := by
  have brought : lineCharges (s.bytesArrive arrived).forward.flights = lineCharges s.forward.flights := by
    unfold State.bytesArrive
    split
    · exact s.placeLevels_charges arrived
    · rfl
  unfold State.levelsArrive
  split
  · split
    · rfl
    · have same : ((s.bytesArrive arrived).symbolReceived).forward = (s.bytesArrive arrived).forward := by
        unfold State.symbolReceived
        split <;> rfl
      rw [same]
      exact brought
  · rfl

/-! ### What a save reads of the state it begins in -/

/-- The state in which a request is answered, or a timer expires, has what a save reads of the state before it. -/
theorem SaveBegun.before {s u t : State} {cause : SaveCause} {forward : Forward} (begun : SaveBegun u t cause forward)
    (nvm : u.nvm = s.nvm) (slots : u.slots = s.slots) (meters : u.meters = s.meters) (settings : u.settings = s.settings)
    (flights : lineCharges u.forward.flights = lineCharges s.forward.flights) : SaveBegun s t cause forward := by
  have slot (i : SlotNo) : u.slot i = s.slot i := State.slot_of_slots slots i
  have meter (c : Channel) : u.meter c = s.meter c := congrArg (fun meters : Vector Meter 12 => meters[c]) meters
  have policy : u.policy = s.policy := congrArg Settings.policy settings
  have charges (i : SlotNo) (source : Option (SlotNo × Tenure)) : u.chargesSlot i source = s.chargesSlot i source := by
    rw [State.chargesSlot, State.chargesSlot, slot]
  have debits : u.saveDebits = s.saveDebits := by
    simp only [State.saveDebits_eq, flights, meter]
  unfold SaveBegun at begun ⊢
  simpa only [nvm, slot, meter, policy, charges, debits] using begun

/-! ### The steps of a save -/

/-- R189, step 1: the state in which the lines are abandoned. -/
def State.saveGated (s : State) (cause : SaveCause) (arrived : List Byte) : State :=
  channels.foldl State.gateForSave ((s.levelsArrive arrived).enterSaving cause)

/-- R189, step 4: the slots' entries written. -/
def State.saveWritten (s : State) (cause : SaveCause) (arrived : List Byte) : State :=
  slotNos.foldl State.saveDrawnSince (s.saveGated cause arrived).saveCharged

theorem State.beginSave_eq (s : State) (cause : SaveCause) (arrived : List Byte) :
    s.beginSave cause arrived =
      { s.saveWritten cause arrived with
        nvm := ((s.saveWritten cause arrived).nvm.enqueue (.waste (s.saveWritten cause arrived).waste)).enqueueLast
          (.cleanMark true) } := by
  simp only [State.beginSave, State.saveWritten, State.saveGated, State.saveCharged, State.queueWrite]

/-- R47, R189: the state after the charges, against the one in which the save begins. -/
theorem State.saveCharged_from {s g : State} (kept : keepsBut [.forward, .link, .nvm, .routes, .notices] s g)
    (same : g.saveDebits = s.saveDebits) :
    g.saveCharged.nvm.queuesOn g.nvm ∧ g.saveCharged.forward = g.forward.abandoned ∧
      (∀ c : Channel, (g.saveCharged.route c).gate.powerSave = (g.route c).gate.powerSave) ∧
      (∀ c : Channel,
        g.saveCharged.meter c =
          ((s.meter c).debited (debitsOf c s.saveDebits).length (s.orphans (debitsOf c s.saveDebits)).length).settled) ∧
      ∀ i : SlotNo,
        (g.saveCharged.slot i).tenure = (s.slot i).tenure ∧
          (g.saveCharged.slot i).counts =
            (s.slot i).countsAfter (s.charges i s.saveDebits).length s.policy.overdrawLimit := by
  obtain ⟨debits, zero⟩ := g.saveCharged_does
  rw [same] at debits
  have slots : g.slots = s.slots := kept.2.2 .slots (by decide)
  have meters : g.meters = s.meters := kept.2.2 .meters (by decide)
  have slot (i : SlotNo) : g.abandonLines.slot i = s.slot i := State.slot_of_slots slots i
  have meter (c : Channel) : g.abandonLines.meter c = s.meter c := congrArg (fun meters : Vector Meter 12 => meters[c]) meters
  have policy : g.abandonLines.policy = s.policy := congrArg Settings.policy (kept.2.2 .settings (by decide))
  have tenures : sameTenures s g.abandonLines := fun i => by rw [slot i]
  have abandoned : g.abandonLines.forward = g.forward.abandoned := rfl
  have nvm : g.abandonLines.nvm = g.nvm := rfl
  have routes (c : Channel) : g.abandonLines.route c = g.route c := rfl
  generalize g.saveCharged = r at debits zero ⊢
  generalize g.abandonLines = q at debits slot meter policy tenures abandoned nvm routes
  refine ⟨nvm ▸ debits.writes, abandoned ▸ debits.kept.2.2 .forward (by decide),
    fun c => routes c ▸ debits.gates c, fun c => ?_, fun i => ?_⟩
  · obtain ⟨fine, remainder⟩ := zero c
    have own := debits.meter c
    rw [meter c, tenures.orphans] at own
    exact Meter.eq_of_settled own fine remainder
  · obtain ⟨tenure, -⟩ := debits.identity i
    have counts := debits.counts i
    rw [slot i] at tenure
    rw [slot i, policy, tenures.charges] at counts
    exact ⟨tenure, counts⟩

section
variable (s : State) (cause : SaveCause) (arrived : List Byte)

theorem State.saveGated_keeps :
    keepsBut [.routes, .notices] ((s.levelsArrive arrived).enterSaving cause) (s.saveGated cause arrived) := by
  simp [State.saveGated, State.gateForSave]

theorem State.saveGated_powerSave (c : Channel) : ((s.saveGated cause arrived).route c).gate.powerSave = true := by
  rw [State.saveGated]
  exact State.gatesForSave ((s.levelsArrive arrived).enterSaving cause) c

theorem State.saveGated_from :
    keepsBut [.forward, .link, .nvm, .routes, .notices] s (s.saveGated cause arrived) := by
  refine keepsBut.trans (t := (s.levelsArrive arrived).enterSaving cause) ?_
    ((s.saveGated_keeps cause arrived).mono (by simp))
  simp [State.enterSaving]

theorem State.saveGated_debits : (s.saveGated cause arrived).saveDebits = s.saveDebits := by
  have gated := s.saveGated_keeps cause arrived
  have levels : keepsBut [.forward, .link] s (s.levelsArrive arrived) := by simp
  have forward : (s.saveGated cause arrived).forward = (s.levelsArrive arrived).forward := gated.2.2 .forward (by decide)
  have meters : (s.saveGated cause arrived).meters = s.meters :=
    (gated.2.2 .meters (by decide)).trans (levels.2.2 .meters (by decide))
  have meter (c : Channel) : (s.saveGated cause arrived).meter c = s.meter c :=
    congrArg (fun meters : Vector Meter 12 => meters[c]) meters
  simp only [State.saveDebits_eq, forward, s.levelsArrive_charges arrived, meter]

theorem SlotState.supplies_iff (x : SlotState) : x.supplies = true ↔ x = .genuine ∨ x = .depleted := by
  cases x <;> simp [SlotState.supplies]

theorem Slot.counts_of_forgotten {x y : Slot} (h : x.forgotten = y.forgotten) :
    x.counts = y.counts ∧ x.tenure = y.tenure := by
  rw [Slot.eq_of_forgotten h]
  exact ⟨rfl, rfl⟩

/-- R188 to R190: all that the beginning of a save is. -/
theorem State.beginSave_begins :
    SaveBegun s (s.beginSave cause arrived) cause (s.levelsArrive arrived).forward := by
  obtain ⟨r, isCharged⟩ : ∃ r, r = (s.saveGated cause arrived).saveCharged := ⟨_, rfl⟩
  obtain ⟨h, isWritten⟩ : ∃ h, h = s.saveWritten cause arrived := ⟨_, rfl⟩
  have shape := s.beginSave_eq cause arrived
  obtain ⟨writes, forward, gates, meters, slots⟩ := State.saveCharged_from (s.saveGated_from cause arrived)
    (s.saveGated_debits cause arrived)
  have wrote : h = slotNos.foldl State.saveDrawnSince r := by rw [isWritten, isCharged]; rfl
  have kept : keepsBut [.slots, .history, .nvm] r h := by
    rw [wrote]
    simp [State.saveDrawnSince]
  obtain ⟨forgotten, queues⟩ := r.saveDrawnSinces_leave slotNos
  have saves (i : SlotNo) (serial : Serial) := State.saveDrawnSinces_save r (i := i) (serial := serial)
  rw [← wrote] at forgotten queues
  simp only [← wrote] at saves
  rw [← isCharged] at writes forward gates meters slots
  rw [← isWritten] at shape
  have gated := s.saveGated_keeps cause arrived
  have ahead : (s.saveGated cause arrived).forward = (s.levelsArrive arrived).forward := gated.2.2 .forward (by decide)
  have saving : (s.saveGated cause arrived).nvm =
      { s.nvm with saveState := .saving, saveCause := some cause, timing := .save } := by
    have levels : keepsBut [.forward, .link] s (s.levelsArrive arrived) := by simp
    have nvm : (s.levelsArrive arrived).nvm = s.nvm := levels.2.2 .nvm (by decide)
    rw [← nvm]
    exact gated.2.2 .nvm (by decide)
  have powerSave := s.saveGated_powerSave cause arrived
  rw [saving] at writes
  rw [ahead] at forward
  obtain ⟨n, isQueued⟩ : ∃ n, n = h.nvm.enqueue (.waste h.waste) := ⟨_, rfl⟩
  rw [← isQueued] at shape
  have busy : n.inProgress ≠ none := isQueued ▸ Nvm.enqueue_busy _ _
  have onto : n.queuesOn h.nvm := isQueued ▸ Nvm.enqueue_queuesOn _ _
  have free : r.nvm.inProgress = none → s.nvm.inProgress = none := by
    obtain ⟨p, q, isR, free⟩ := writes
    rw [isR]
    exact free
  have waste : (n.enqueueLast (.cleanMark true)).queuedSince s.nvm (.waste h.waste) := by
    refine Nvm.enqueueLast_keepsQueued busy (by simp [RecordWrite.record]) ?_
    rw [isQueued]
    exact (Nvm.enqueue_queuedSince queues _).earlier free
  have fields : (n.enqueueLast (.cleanMark true)).saveState = .saving ∧
      (n.enqueueLast (.cleanMark true)).saveCause = some cause ∧ (n.enqueueLast (.cleanMark true)).timing = .save ∧
      (n.enqueueLast (.cleanMark true)).store = s.nvm.store ∧
      (n.enqueueLast (.cleanMark true)).queue.getLast? = some (.cleanMark true) := by
    obtain ⟨p, q, isN, -⟩ := (writes.trans queues).trans onto
    rw [Nvm.enqueueLast_busy busy, isN]
    exact ⟨rfl, rfl, rfl, rfl, List.getLast?_concat⟩
  obtain ⟨state, hasCause, timing, store, mark⟩ := fields
  have entries {e : HistoryEntry} {k : EntryNo} (queued : EntryQueued r.nvm k e h) :
      (n.enqueueLast (.cleanMark true)).queuedSince s.nvm (.history k (some e)) := by
    refine Nvm.enqueueLast_keepsQueued busy (by simp [RecordWrite.record]) ?_
    rw [isQueued]
    exact (Nvm.enqueue_keepsQueued queued.busy (by simp [RecordWrite.record]) queued.queued).earlier free
  have routes (c : Channel) : h.route c = r.route c :=
    congrArg (fun routes : Vector Route 12 => routes[c]) (kept.2.2 .routes (by decide))
  have meter (c : Channel) : h.meter c = r.meter c :=
    congrArg (fun meters : Vector Meter 12 => meters[c]) (kept.2.2 .meters (by decide))
  rw [shape]
  refine ⟨state, hasCause, timing, store, waste, mark, (kept.2.2 .forward (by decide)).trans forward, fun c => ⟨?_, ?_⟩,
    fun i => ?_, ?_⟩
  · change (h.route c).gate.powerSave = true
    rw [routes c, gates c, powerSave c]
  · change h.meter c = _
    rw [meter c, meters c, State.orphans_eq]
    rfl
  · change (h.slot i).tenure = _ ∧ (h.slot i).counts = _
    obtain ⟨tenure, counts⟩ := slots i
    obtain ⟨counts', tenure'⟩ := Slot.counts_of_forgotten (forgotten i)
    exact ⟨tenure'.trans tenure, counts'.trans counts⟩
  · intro supplies i serial supplied own last
    change (∃ k e, (h.slot i).historyIndex = some k ∧ h.entry k = some e ∧ e.serial = serial ∧
      e.drawnSince = (h.slot i).drawn ∧ (n.enqueueLast (.cleanMark true)).queuedSince s.nvm (.history k (some e))) ∨
      ((h.slot i).historyIndex = none ∧ (∀ k : EntryNo, h.entry k ≠ none) ∧ ∃ j : SlotNo, i < j ∧ supplies j)
    have states (j : SlotNo) := Slot.state_of_forgotten (forgotten j)
    have supplies_iff (j : SlotNo) : supplies j ↔ (r.slot j).state.supplies = true := by
      rw [SlotState.supplies_iff, ← (states j).1]
      exact Iff.rfl
    obtain ⟨-, serialOf, drawn⟩ := states i
    have saved := saves i serial ((supplies_iff i).mp supplied) (serialOf ▸ own) fun j after supplied' same =>
      last j after ((supplies_iff j).mpr supplied') ((states j).2.1.trans same)
    rcases saved with ⟨k, e, index, serialE, drawnE, queued⟩ | ⟨none, full, j, after, supplied'⟩
    · exact .inl ⟨k, e, index, queued.entry, serialE, drawnE.trans drawn.symm, entries queued⟩
    · exact .inr ⟨none, full, j, after, (supplies_iff j).mpr supplied'⟩

end

end Sys2Proof.Machine

/-!
PROOFS. RESTART (R188, R191).
-/

namespace Sys2Proof.Machine

open Sys2Proof

/-- R136: a cut changes no line's channel and no line's source. -/
theorem State.cutPacket_charges (s : State) :
    lineCharges (s.cutPacket []).forward.flights = lineCharges s.forward.flights := by
  have placed : lineCharges (s.placeLevels []).forward.flights = lineCharges s.forward.flights := s.placeLevels_charges []
  have cut : lineCharges (s.cutLine []).forward.flights = lineCharges s.forward.flights := by
    refine Eq.trans ?_ placed
    exact lineCharges_congr
      (onNewestFlight_map (f := fun l => { l with upstream := .failed }) (g := fun l => (l.channel, l.source)) (fun _ => rfl) _)
  unfold State.cutPacket
  split
  · rfl
  · rfl
  · rfl
  · rfl
  · exact cut
  · rfl

/-- R138: a request's packet, with the line that it cuts, changes no line's channel and no line's source. -/
theorem State.requestArrives_charges (s : State) (fields : List Byte) :
    lineCharges (s.requestArrives fields).forward.flights = lineCharges s.forward.flights := by
  have begins (u : State) : u.packetBegins.forward = u.forward := by
    have kept : keepsBut [.link, .notices] u u.packetBegins := by simp
    exact kept.2.2 .forward (by decide)
  have begun : lineCharges s.ensureBegun.forward.flights = lineCharges s.forward.flights := by
    unfold State.ensureBegun
    split
    · rfl
    · exact (congrArg (fun f : Forward => lineCharges f.flights) (begins ((s.cutPacket []).send 1))).trans s.cutPacket_charges
  have received (u : State) : u.symbolReceived.forward = u.forward := by
    have kept : keepsBut [.link] u u.symbolReceived := by simp
    exact kept.2.2 .forward (by decide)
  exact (congrArg (fun f : Forward => lineCharges f.flights)
    (received (s.ensureBegun.send (laneBytes (fields.length + 2))))).trans begun

section
variable (u : State)

theorem restart_running (running : u.nvm.saveState = .running) : restart [] u = done (u.beginSave .restart []) [] := by
  have size : ([] : List Byte).length = 0 := rfl
  rw [restart, sized_eq size, running]

theorem restart_badState (other : u.nvm.saveState ≠ .running) : restart [] u = refuse u .badState := by
  have size : ([] : List Byte).length = 0 := rfl
  rw [restart, sized_eq size]
  split
  · contradiction
  · rfl

theorem State.levelsArrive_nil : u.levelsArrive [] = u := by
  unfold State.levelsArrive
  split <;> rfl

end

/-- Settles O35: by the beginning of a save, in the state in which the request has arrived. -/
theorem restartBeginsTheSave : Obligations.RestartBeginsTheSave := by
  intro tag s takes
  obtain ⟨arrived, isArrived⟩ : ∃ arrived, arrived = s.requestArrives [] := ⟨_, rfl⟩
  have kept : keepsBut [.link, .forward, .notices] s arrived := by
    rw [isArrived]
    simp
  have nvm : arrived.nvm = s.nvm := kept.2.2 .nvm (by decide)
  refine ⟨fun other => ?_, fun running => ?_⟩
  · exact refusedWith takes rfl rfl (isArrived ▸ restart_badState arrived (by rw [nvm]; exact other))
  · have begins := arrived.beginSave_begins .restart []
    rw [State.levelsArrive_nil] at begins
    have flights : lineCharges arrived.forward.flights = lineCharges s.forward.flights :=
      isArrived ▸ s.requestArrives_charges []
    have begun := begins.before nvm (kept.2.2 .slots (by decide)) (kept.2.2 .meters (by decide))
      (kept.2.2 .settings (by decide)) flights
    have answer : restart [] arrived = done (arrived.beginSave .restart []) [] :=
      restart_running arrived (by rw [nvm]; exact running)
    have taken : exec (.restart tag []) s =
        .next ((arrived.beginSave .restart []).addReply ⟨tag, 0x1D#8, .done, []⟩) :=
      takeRequest_done takes tag 0x1D#8 [] [] (isArrived ▸ answer)
    have saved : keepsBut (requestBlocks ++ [.slots, .lines, .meters, .routes, .trace, .digest, .history, .pins, .nvm])
        s (arrived.beginSave .restart []) := by
      rw [State.beginSave_keeps (by simp [requestBlocks])]
      exact kept.mono (by simp [requestBlocks])
    have same : (arrived.beginSave .restart []).requests = s.requests := by
      have own : keepsBut [.forward, .link, .slots, .lines, .meters, .routes, .trace, .digest, .history, .pins, .notices,
          .nvm] arrived (arrived.beginSave .restart []) := by simp
      exact (own.2.2 .requests (by decide)).trans (kept.2.2 .requests (by decide))
    rw [← isArrived]
    generalize arrived.beginSave .restart [] = t at begun taken saved same
    refine ⟨_, ⟨taken, saved.trans ?_⟩, ?_, begun⟩
    · simp [State.addReply, requestBlocks]
    · rw [State.addReply, same]
      rfl

end Sys2Proof.Machine

/-!
PROOFS. An event judged on several channels, whatever the rest of the state is (R53), and notices that follow others.
-/

namespace Sys2Proof.Machine

open Sys2Proof

/-! ### Notices -/

theorem noticesWere.follow {kinds : List NoticeKind} {listed : List (NoticeKind × Subject × Details)} {u : NoticeUnit}
    {t : State} (h : noticesWere kinds listed u t) : noticesFollow u t := by
  obtain ⟨raised, -, notices⟩ := h
  exact ⟨raised, notices⟩

theorem noticesFollow.trans {u : NoticeUnit} {s t : State} (h : noticesFollow u s) (k : noticesFollow s.notices t)
    (settings : t.settings = s.settings) : noticesFollow u t := by
  obtain ⟨first, was⟩ := h
  obtain ⟨second, is⟩ := k
  exact ⟨first ++ second, by rw [is, was, settings, List.foldl_append]⟩

theorem noticesFollow.of_same {s t : State} (h : t.notices = s.notices) : noticesFollow s.notices t := ⟨[], h⟩

/-! ### Several channels -/

theorem State.judgeChannels_reroutes (s : State) (named : Channel → Bool) : Reroutes s fun u => u.judgeChannels named := by
  refine Reroutes.foldl (f := fun u c => if named c = true then u.judgeRoute c else u) (fun s c => ?_) channels s
  exact Reroutes.ite (p := fun _ => named c = true) (fun _ _ => Iff.rfl) (State.judgeRoute_reroutes s c) (Reroutes.id s)

/-- States that agree on what is read, and on the notices, are judged the same. -/
theorem State.judgeChannels_same {s u : State} (named : Channel → Bool) (h : sameRead s u) :
    (u.judgeChannels named).routes = (s.judgeChannels named).routes ∧
      sameRouting (s.judgeChannels named) (u.judgeChannels named) ∧
      (u.notices = s.notices → (u.judgeChannels named).notices = (s.judgeChannels named).notices) := by
  obtain ⟨routes, trace, pins, raised, -, judged⟩ := s.judgeChannels_reroutes named
  have own := judged s (sameRead.refl s)
  have other := judged u h
  beta_reduce at own other
  rw [own, other]
  exact ⟨rfl, ⟨rfl, rfl, rfl⟩, fun notices => by rw [h.2.1, notices]⟩

theorem State.judgeChannels_follows (s : State) (named : Channel → Bool) :
    noticesFollow s.notices (s.judgeChannels named) := by
  obtain ⟨routes, trace, pins, raised, -, judged⟩ := s.judgeChannels_reroutes named
  have own := judged s (sameRead.refl s)
  beta_reduce at own
  rw [own]
  exact ⟨raised, rfl⟩

/-- An event that no channel names. -/
theorem State.judgeChannels_none (s : State) {named : Channel → Bool} (no : ∀ c, named c = false) :
    s.judgeChannels named = s := by
  have kept (cs : List Channel) : cs.foldl (fun u c => if named c = true then u.judgeRoute c else u) s = s := by
    induction cs with
    | nil => rfl
    | cons c cs ih => rw [List.foldl_cons, no c, if_neg (by simp), ih]
  exact kept channels

/-! ### The level-sense finding (R9, R130) -/

/-- R9: the record with the finding among its causes. -/
def Slot.found (x : Slot) : Slot := { x with causes := { x.causes with levelSenseRise := true } }

/-- R5 Note 2, R16: what the policy leaves of a slot that the finding brings to GRACE. -/
theorem Slot.enterGrace_fields (x : Slot) (volume : Nat) :
    (x.enterGrace volume).state = (if volume = 0 then .spent else .grace) ∧ (x.enterGrace volume).grace = volume ∧
      ∃ state grace, x.enterGrace volume = { x with state := state, grace := grace } := by
  unfold Slot.enterGrace
  split
  next none => exact ⟨rfl, none.symm, _, _, rfl⟩
  · exact ⟨rfl, rfl, _, _, rfl⟩

section
variable {x : Slot} {policy : RefillPolicy} (volume : Nat)

theorem Slot.afterFinding_graced (state : x.state ∈ [SlotState.genuine, .depleted, .spent]) :
    x.afterFinding .grace volume = x.enterGrace volume := by
  simp only [List.mem_cons, List.not_mem_nil, or_false] at state
  rcases state with state | state | state <;> simp only [Slot.afterFinding, state]

theorem Slot.afterFinding_rejected (state : x.state ∈ [SlotState.genuine, .depleted, .grace, .spent]) :
    x.afterFinding .reject volume = { x with state := .rejected } := by
  simp only [List.mem_cons, List.not_mem_nil, or_false] at state
  rcases state with state | state | state | state <;> simp only [Slot.afterFinding, state]

theorem Slot.afterFinding_kept (graced : ¬(policy = .grace ∧ x.state ∈ [SlotState.genuine, .depleted, .spent]))
    (rejected : ¬(policy = .reject ∧ x.state ∈ [SlotState.genuine, .depleted, .grace, .spent])) :
    x.afterFinding policy volume = x := by
  unfold Slot.afterFinding
  split <;> simp_all

/-- R9: the policy decides the state. -/
theorem Slot.afterFinding_fields (x : Slot) (policy : RefillPolicy) :
    let graced := policy = .grace ∧ x.state ∈ [SlotState.genuine, .depleted, .spent]
    (x.afterFinding policy volume).state =
        (if graced then (if volume = 0 then .spent else .grace)
        else if policy = .reject ∧ x.state ∈ [SlotState.genuine, .depleted, .grace, .spent] then .rejected
        else x.state) ∧
      (x.afterFinding policy volume).grace = (if graced then volume else x.grace) ∧
      ∃ state grace, x.afterFinding policy volume = { x with state := state, grace := grace } := by
  intro graced
  by_cases isGraced : graced
  · rw [if_pos isGraced, if_pos isGraced]
    obtain ⟨rfl, state⟩ := isGraced
    obtain ⟨entered, holds, shape⟩ := x.enterGrace_fields volume
    rw [Slot.afterFinding_graced volume state]
    exact ⟨entered, holds, shape⟩
  · rw [if_neg isGraced, if_neg isGraced]
    by_cases rejected : policy = .reject ∧ x.state ∈ [SlotState.genuine, .depleted, .grace, .spent]
    · rw [if_pos rejected]
      obtain ⟨rfl, state⟩ := rejected
      rw [Slot.afterFinding_rejected volume state]
      exact ⟨rfl, rfl, _, _, rfl⟩
    · rw [if_neg rejected, Slot.afterFinding_kept volume isGraced rejected]
      exact ⟨rfl, rfl, x.state, x.grace, rfl⟩

end

/-! ### The slot and the notices of a finding -/

section
variable (s : State) (i : SlotNo)

/-- The record that a finding leaves, but for the watches, the challenge and the history index. -/
def State.foundSlot : Slot := (s.slot i).found.afterFinding s.policy.refill s.policy.graceVolume

/-- R9: the finding in the slot's record. -/
theorem State.levelFinding_does :
    (∃ w0 w1 held nonce tag,
        (s.levelFinding i).slot i = { s.foundSlot i with w0 := w0, w1 := w1, held := held, nonce := nonce, tag := tag }) ∧
      otherSlots i s (s.levelFinding i) ∧ noticesFollow s.notices (s.levelFinding i) := by
  have shape : s.levelFinding i =
      if (s.foundSlot i).state = (s.slot i).found.state then s.putSlot i (s.foundSlot i)
      else s.moveSlot i (s.foundSlot i) none := rfl
  rw [shape]
  split
  · refine ⟨⟨_, _, _, _, _, State.putSlot_same s i _⟩, s.putSlot_otherSlots i _, ⟨[], rfl⟩⟩
  · obtain ⟨slot, -, -⟩ := s.moveSlot_handsOn i (s.foundSlot i) none (kinds := [.slot, .watch]) (by decide) (by decide)
      (by decide)
    obtain ⟨w0, w1, held, compared⟩ := (s.foundSlot i).leaveChallenge.bothCompared_shape
    refine ⟨?_, s.moveSlot_otherSlots i _ _, (s.moveSlot_noticesWere i _ _).follow⟩
    rw [slot, compared, Slot.leaveChallenge]
    split <;> exact ⟨_, _, _, _, _, rfl⟩

theorem State.markRefill_follows : noticesFollow s.notices (s.markRefill i) := by
  cases own : (s.slot i).serial with
  | none =>
    rw [State.markRefill, State.historyUpdate_none own]
    exact .of_same rfl
  | some serial =>
    obtain ⟨u, n, e, k, work, closed, -⟩ := State.historyUpdate_work own (Updates.addMarks false true)
      fun t n => t.addMarks_work n false true
    rw [State.markRefill, closed]
    exact (work.told [] (by simp)).follow

end

end Sys2Proof.Machine

/-!
PROOFS. LEVEL and AUX inputs (R129, R130, R177, R178).
-/

namespace Sys2Proof.Machine

open Sys2Proof

/-! ### A level-sense finding (R130) -/

section
variable (s : State) (i : SlotNo)

/-- R130: the REFILL notice, and the slot by the policy. -/
def State.foundAt : State :=
  (s.raise .refill (.slot i) (.levelSense (s.slot i).serial s.policy.refill (s.slot i).state)).levelFinding i

theorem State.levelSenseFinding_eq :
    s.levelSenseFinding i =
      let marked := if ((s.foundAt i).senseOf i).proven then (s.foundAt i).markRefill i else s.foundAt i
      marked.putSense i { marked.senseOf i with lowSeen := false } := rfl

theorem State.foundAt_keeps : keepsBut [.slots, .lines, .routes, .pins, .trace, .notices] s (s.foundAt i) := by
  simp [State.foundAt]

theorem State.foundAt_does :
    (∃ w0 w1 held nonce tag,
        (s.foundAt i).slot i = { s.foundSlot i with w0 := w0, w1 := w1, held := held, nonce := nonce, tag := tag }) ∧
      otherSlots i s (s.foundAt i) ∧
      noticesFollow
        (s.notices.take s.settings.mask[NoticeKind.refill.position] .refill (.slot i)
          (.levelSense (s.slot i).serial s.policy.refill (s.slot i).state)) (s.foundAt i) :=
  State.levelFinding_does (s.raise .refill (.slot i) (.levelSense (s.slot i).serial s.policy.refill (s.slot i).state)) i

/-- R9: what the finding leaves of the slot. -/
def Slot.foundBy (policy : RefillPolicy) (volume : Nat) (x y : Slot) : Prop :=
  let graced := policy = .grace ∧ x.state ∈ [SlotState.genuine, .depleted, .spent]
  y.causes = { x.causes with levelSenseRise := true } ∧
    y.state =
      (if graced then (if volume = 0 then .spent else .grace)
      else if policy = .reject ∧ x.state ∈ [SlotState.genuine, .depleted, .grace, .spent] then .rejected
      else x.state) ∧
    y.grace = (if graced then volume else x.grace) ∧ y.remaining = x.remaining ∧ y.overdraw = x.overdraw ∧
    y.unbacked = x.unbacked ∧ y.serial = x.serial ∧ y.tenure = x.tenure

theorem State.foundAt_slot : Slot.foundBy s.policy.refill s.policy.graceVolume (s.slot i) ((s.foundAt i).slot i) := by
  obtain ⟨⟨w0, w1, held, nonce, tag, slot⟩, -⟩ := s.foundAt_does i
  obtain ⟨state, grace, a, b, shape⟩ := Slot.afterFinding_fields s.policy.graceVolume (s.slot i).found s.policy.refill
  have found : s.foundSlot i = (s.slot i).found.afterFinding s.policy.refill s.policy.graceVolume := rfl
  rw [slot, found]
  refine ⟨?_, state, grace, ?_⟩
  · rw [shape]
    rfl
  · rw [shape]
    exact ⟨rfl, rfl, rfl, rfl, rfl⟩

theorem Slot.foundBy_indexed {policy : RefillPolicy} {volume : Nat} {x y : Slot} (found : Slot.foundBy policy volume x y)
    (h : Option EntryNo) : Slot.foundBy policy volume x { y with historyIndex := h } := found

/-- R130: all that a finding does. -/
theorem State.levelSenseFinding_does :
    let t := s.levelSenseFinding i
    Slot.foundBy s.policy.refill s.policy.graceVolume (s.slot i) (t.slot i) ∧
      (∀ j : SlotNo, j ≠ i → t.slot j = s.slot j ∨ t.slot j = { s.slot j with historyIndex := none }) ∧
      noticesFollow
        (s.notices.take s.settings.mask[NoticeKind.refill.position] .refill (.slot i)
          (.levelSense (s.slot i).serial s.policy.refill (s.slot i).state)) t ∧
      t.senseOf i = { s.senseOf i with lowSeen := false } ∧
      ((s.senseOf i).proven = false → t.history = s.history ∧ t.nvm = s.nvm) ∧
      ∀ serial, (s.senseOf i).proven = true → (s.slot i).serial = some serial →
        ∃ n e, (t.slot i).historyIndex = some n ∧ t.entry n = some e ∧ e.serial = serial ∧ e.refillMark = true := by
  have shape := s.levelSenseFinding_eq i
  have kept := s.foundAt_keeps i
  have found := s.foundAt_slot i
  obtain ⟨-, others, told⟩ := s.foundAt_does i
  have sense : (s.foundAt i).senseOf i = s.senseOf i :=
    congrArg (fun sense : Vector Sense 16 => sense[i]) (kept.2.2 .sense (by decide))
  intro t
  change t = _ at shape
  generalize s.foundAt i = u at shape kept found others told sense
  cases proven : (s.senseOf i).proven with
  | false =>
    rw [sense, proven, if_neg (by simp)] at shape
    dsimp only at shape
    rw [shape]
    refine ⟨found, fun j other => .inl (others j other), told, ?_, fun _ =>
      ⟨kept.2.2 .history (by decide), kept.2.2 .nvm (by decide)⟩, fun _ no => nomatch no⟩
    rw [State.putSense_same, sense]
  | true =>
    rw [sense, proven, if_pos rfl] at shape
    dsimp only at shape
    obtain ⟨own, rest⟩ := State.historyUpdate_slots u i (Updates.addMarks false true)
    have follows := u.markRefill_follows i
    have marked : keepsBut [.slots, .history, .nvm, .notices] u (u.markRefill i) := by simp
    have sense' : (u.markRefill i).senseOf i = s.senseOf i :=
      (congrArg (fun sense : Vector Sense 16 => sense[i]) (marked.2.2 .sense (by decide))).trans sense
    have entered (serial : Serial) (serialOf : (u.slot i).serial = some serial) :
        ∃ (n : EntryNo) (e : HistoryEntry) (k : Nat), ((u.markRefill i).slot i).historyIndex = some n ∧
          (u.markRefill i).entry n = some { e.marked false true with stamp := k } ∧ e.serial = serial :=
      State.historyUpdate_entry serialOf (Updates.addMarks false true)
    change (u.markRefill i).slot i = _ at own
    change ∀ j : SlotNo, j ≠ i → (u.markRefill i).slot j = _ ∨ (u.markRefill i).slot j = _ at rest
    generalize u.markRefill i = v at shape own rest follows marked sense' entered
    rw [shape]
    refine ⟨?_, fun j other => ?_, told.trans follows (marked.2.2 .settings (by decide)), ?_, (fun no => nomatch no),
      fun serial _ serialOf => ?_⟩
    · change Slot.foundBy s.policy.refill s.policy.graceVolume (s.slot i) (v.slot i)
      rw [own]
      exact Slot.foundBy_indexed found _
    · change v.slot j = _ ∨ v.slot j = _
      rw [← others j other]
      exact rest j other
    · rw [State.putSense_same, sense']
    · obtain ⟨-, -, -, -, -, -, serialU, -⟩ := found
      obtain ⟨n, e, k, index, entry, serialE⟩ := entered serial (serialU.trans serialOf)
      exact ⟨n, _, index, entry, serialE, by simp [HistoryEntry.marked]⟩

end

/-! ### A change of a LEVEL input (R177, R129) -/

/-- R177: the channels that a LEVEL input concerns. -/
def State.seesLevel (s : State) (i : SlotNo) (c : Channel) : Bool :=
  decide ((s.routeCfg c).source = .levelLow) && decide ((s.routeCfg c).defaultSlot = some i)

theorem State.judgeLevel_eq {s u : State} (settings : u.settings = s.settings) (i : SlotNo) :
    u.judgeLevel i = u.judgeChannels (s.seesLevel i) := by
  have named : (fun c => decide ((u.routeCfg c).source = .levelLow) && decide ((u.routeCfg c).defaultSlot = some i)) =
      s.seesLevel i := by
    funext c
    rw [State.seesLevel, State.routeCfg, settings, State.routeCfg]
  rw [State.judgeLevel, named]

/-- R129: a change without a finding leaves the sense record alone. -/
theorem State.levelLow_sense (s : State) (i : SlotNo) :
    keepsBut [.sense] s (s.levelLow i) ∧
      (s.levelLow i).senseOf i =
        { s.senseOf i with lowSeen := decide ((s.slot i).state ≠ .empty) || (s.senseOf i).lowSeen } := by
  unfold State.levelLow
  split
  next empty => exact ⟨by simp, by simp [empty]⟩
  next present => exact ⟨by simp, by simp [present]⟩

theorem State.levelWet_quiet {s : State} {i : SlotNo}
    (quiet : ¬((s.senseOf i).lowSeen = true ∧ (s.slot i).state ∉ [SlotState.empty, .probing, .authenticating])) :
    s.levelWet i = s.putSense i { s.senseOf i with lowSeen := false } := by
  refine if_neg fun finds => quiet ?_
  simpa [and_assoc] using finds

theorem State.levelWet_finds {s : State} {i : SlotNo} (seen : (s.senseOf i).lowSeen = true)
    (state : (s.slot i).state ∉ [SlotState.empty, .probing, .authenticating]) : s.levelWet i = s.levelSenseFinding i := by
  refine if_pos ?_
  simpa [seen, and_assoc] using state

end Sys2Proof.Machine

/-!
PROOFS. FILTER_TIMER_EXPIRY of LEVEL, AUX and POWER_FAIL (R174, R177 to R180, R188).
-/

namespace Sys2Proof.Machine

open Sys2Proof

/-! ### Pins while a save begins -/

section
variable {s : State} (p : Pin)

theorem alike.filter {u : State} (h : alike s u) : u.filter p = s.filter p := by
  obtain ⟨-, -, -, -, pins, -⟩ := h
  cases p <;> simp only [State.filter, pins]

theorem State.applyDebit_filter (i : SlotNo) : (s.applyDebit i).filter p = s.filter p := by
  obtain ⟨-, -, -, handed, -⟩ := s.applyDebit_after i
  have step (u : State) (y : Slot) : (u.stepOn i y).filter p = u.filter p := by
    rw [State.stepOn, State.judgeFitness_filter, State.putSlot_filter]
  rw [handed.filter p, State.handedOn_eq, step, step, step]

theorem State.emitDebit_filter (c : Channel) (source : Option (SlotNo × Tenure)) :
    (s.emitDebit c source).filter p = s.filter p := by
  have meter (u : State) (m : Meter) : (u.putMeter c m).filter p = u.filter p := by cases p <;> rfl
  cases charged : s.chargeable source with
  | some i => rw [State.emitDebit_charges charged, meter, State.applyDebit_filter]
  | none => rw [State.emitDebit_orphan charged, meter]

theorem State.emitDebits_filter (n : Nat) (c : Channel) (source : Option (SlotNo × Tenure)) :
    (State.emitDebits n s c source).filter p = s.filter p := by
  induction n generalizing s with
  | zero => rfl
  | succ n ih => exact ih.trans (State.emitDebit_filter p c source)

theorem State.saveCharged_filter : s.saveCharged.filter p = s.filter p := by
  have residue (u : State) (c : Channel) : (u.chargeResidue c).filter p = u.filter p := by
    unfold State.chargeResidue
    dsimp only
    split
    · have cleared (v : State) (m : Meter) : (v.putMeter c m).filter p = v.filter p := by cases p <;> rfl
      rw [cleared, State.emitDebit_filter]
    · rfl
  have lines : s.chargeLines.filter p = s.abandonLines.filter p :=
    foldl_filter (f := State.chargeAbandoned) (fun u l => State.emitDebits_filter p 3 l.channel l.source) s.forward.flights s.abandonLines
  have abandoned : s.abandonLines.filter p = s.filter p := by cases p <;> rfl
  exact ((foldl_filter (f := State.chargeResidue) residue channels s.chargeLines).trans lines).trans abandoned

/-- R188: a save leaves every input. -/
theorem State.beginSave_filter (cause : SaveCause) (arrived : List Byte) :
    (s.beginSave cause arrived).filter p = s.filter p := by
  have gated : (s.saveGated cause arrived).filter p = ((s.levelsArrive arrived).enterSaving cause).filter p :=
    foldl_filter (f := State.gateForSave) (fun u c => u.setGate_filter p c _) channels _
  have levels : keepsBut [.forward, .link, .nvm] s ((s.levelsArrive arrived).enterSaving cause) := by
    simp [State.enterSaving]
  have written : keepsBut [.slots, .history, .nvm] (s.saveGated cause arrived).saveCharged (s.saveWritten cause arrived) := by
    rw [State.saveWritten]
    simp [State.saveDrawnSince]
  have ends : keepsBut [.nvm] (s.saveWritten cause arrived) (s.beginSave cause arrived) := by
    rw [State.beginSave_eq]
    simp
  rw [ends.filter (by decide), written.filter (by decide), State.saveCharged_filter, gated, levels.filter (by decide)]

end

end Sys2Proof.Machine

/-!
PROOFS. FILTER_TIMER_EXPIRY of LEVEL, AUX and POWER_FAIL as a whole (R174, R177 to R180, R188).
-/

namespace Sys2Proof.Machine

open Sys2Proof

section
variable {S : State} {i : SlotNo}

/-! ### LEVEL (R177, R129, R130) -/

theorem State.levelChanges_disabled (disabled : S.settings.pins.levelEnable[i] = false) : S.levelChanges i = S :=
  if_neg (by rw [disabled]; simp)

theorem State.levelChanges_low (enabled : S.settings.pins.levelEnable[i] = true) (raw : (S.filter (.level i)).filtered = true) :
    S.levelChanges i = (S.levelLow i).judgeLevel i := by
  rw [State.levelChanges, if_pos enabled, if_pos raw]

theorem State.levelChanges_wet (enabled : S.settings.pins.levelEnable[i] = true)
    (raw : (S.filter (.level i)).filtered = false) : S.levelChanges i = (S.levelWet i).judgeLevel i := by
  rw [State.levelChanges, if_pos enabled, if_neg (by simp [raw])]

/-- R177: a change without a finding is judged on the channels as it would be alone. -/
theorem State.levelChanges_quiet {v : State} (sense : keepsBut [.sense] S v) :
    let t := v.judgeLevel i
    let judged := S.judgeChannels (S.seesLevel i)
    keepsBut [.sense, .routes, .pins, .trace, .notices] S t ∧ t.sense = v.sense ∧
      (∀ p, t.filter p = S.filter p) ∧ t.routes = judged.routes ∧ t.notices = judged.notices ∧ t.trace = judged.trace ∧
      t.pins = judged.pins := by
  intro t judged
  have shape : t = v.judgeChannels (S.seesLevel i) := State.judgeLevel_eq (sense.2.2 .settings (by decide)) i
  obtain ⟨routes, ⟨-, trace, pins⟩, notices⟩ := State.judgeChannels_same (S.seesLevel i) (sense.sameRead (by decide))
  have kept : keepsBut [.routes, .pins, .trace, .notices] v t := by
    rw [shape]
    simp
  rw [shape] at kept ⊢
  exact ⟨(sense.mono (by simp)).trans (kept.mono (by simp)), kept.2.2 .sense (by decide),
    fun p => (State.judgeChannels_filter ..).trans (sense.filter (by decide) p), routes,
    notices (sense.2.2 .notices (by decide)), trace, pins⟩

end

/-! ### AUX (R178) -/

theorem State.auxChanges_eq {s S : State} (settings : S.settings = s.settings) (n : Fin 4) :
    S.auxChanges n =
      (S.judgeChannels fun c => decide ((s.routeCfg c).source.aux = some n)).raise .pin (.pin (.aux n))
        (.pin (S.filter (.aux n)).filtered S.time) := by
  have named : (fun c => decide ((S.routeCfg c).source.aux = some n)) =
      fun c => decide ((s.routeCfg c).source.aux = some n) := by
    funext c
    rw [State.routeCfg, settings, State.routeCfg]
  rw [State.auxChanges, named]

/-! ### POWER_FAIL (R179, R180, R188) -/

theorem exec_powerFailExpiry {s : State} {e : FilterTimer} (arrived : List Byte) (on : s.powered = true)
    (timer : (s.filter .powerFail).timer = some e) :
    exec (.filterTimerExpiry ⟨.powerFail, arrived⟩) s =
      .next (((s.reach e.expiry).putFilter .powerFail
        (((s.reach e.expiry).filter .powerFail).settle .powerFail)).powerFailChanges arrived) := by
  refine exec_on (f := fun s => s.filterExpires .powerFail arrived) rfl on ?_
  simp only [State.filterExpires, timer]
  rfl

section
variable (S : State) (arrived : List Byte)

theorem State.powerFailChanges_saves (raw : S.pins.powerFail.filtered = true) (running : S.nvm.saveState = .running) :
    S.powerFailChanges arrived = S.beginSave .powerFail arrived := by
  rw [State.powerFailChanges, if_pos raw, running]

theorem State.powerFailChanges_late (raw : S.pins.powerFail.filtered = true) (other : S.nvm.saveState ≠ .running) :
    S.powerFailChanges arrived = S := by
  rw [State.powerFailChanges, if_pos raw]
  split
  · contradiction
  · rfl

theorem State.powerFailChanges_starts (raw : S.pins.powerFail.filtered = false) (saved : S.nvm.saveState = .saved) :
    S.powerFailChanges arrived = S.startUp := by
  rw [State.powerFailChanges, if_neg (by simp [raw]), saved]

theorem State.powerFailChanges_nothing (raw : S.pins.powerFail.filtered = false) (other : S.nvm.saveState ≠ .saved) :
    S.powerFailChanges arrived = S := by
  rw [State.powerFailChanges, if_neg (by simp [raw])]
  split
  · contradiction
  · rfl

/-- Sending goes on while time passes; the lines in flight keep their channels and sources. -/
theorem State.reach_charges (s : State) (e : Time) :
    lineCharges (s.reach e).forward.flights = lineCharges s.forward.flights := by
  unfold State.reach
  split <;> rfl

/-- R141, R144: what is abandoned of the forward buffer when level bytes arrive with the command. -/
theorem State.levelsArrive_abandoned :
    (S.levelsArrive arrived).forward.abandoned =
      (if S.link.rx = .line ∧ arrived ≠ [] then (S.forward.levelsPlaced arrived).send arrived.length
        else S.forward).abandoned := by
  by_cases brings : S.link.rx = .line ∧ arrived ≠ []
  · obtain ⟨line, some⟩ := brings
    obtain ⟨flights, brought⟩ := S.bytesArrive_eq arrived
    rw [if_pos line] at brought
    have received (u : State) : u.symbolReceived.forward = u.forward := by
      have kept : keepsBut [.link] u u.symbolReceived := by simp
      exact kept.2.2 .forward (by decide)
    have shape : S.levelsArrive arrived = (S.bytesArrive arrived).symbolReceived := by
      simp only [State.levelsArrive, line, some, if_false]
    rw [shape, received, brought, if_pos ⟨line, some⟩]
    rfl
  · rw [if_neg brings]
    have same : S.levelsArrive arrived = S := by
      unfold State.levelsArrive
      split
      next line =>
        have none : arrived = [] := Decidable.of_not_not fun some => brings ⟨line, some⟩
        rw [if_pos none]
      · rfl
    rw [same]

end

theorem SaveBegun.abandons {s t : State} {cause : SaveCause} {f g : Forward} (begun : SaveBegun s t cause f)
    (same : f.abandoned = g.abandoned) : SaveBegun s t cause g := by
  unfold SaveBegun at begun ⊢
  rwa [← same]

/-- R174: the expired state with the filtered change taken. -/
theorem State.putFilter_settled {e : State} {p : Pin} {f : Filter} (own : e.filter p = f) (input : p ≠ .powerFail) :
    e.putFilter p ((e.filter p).settle p) = e.putFilter p { f with filtered := f.raw, timer := none, changed := true } := by
  have changed : Pin.hasChanged p = true := by
    cases p with
    | powerFail => exact absurd rfl input
    | _ => rfl
  rw [own, Filter.settle, changed, Bool.or_true]

section
variable {s S : State} {p : Pin} {arrived : List Byte} {f : Filter}
  (kept : keepsBut [.time, .forward, .pins] s S) (raw : (S.filter p).filtered = f.raw)
include kept raw

/-- O55's clause of a LEVEL input, in the state in which its change is taken. -/
theorem State.levelChanges_does {i : SlotNo} (isLevel : p = .level i) :
    let x := s.slot i
    let sees (c : Channel) := (s.routeCfg c).source = .levelLow ∧ (s.routeCfg c).defaultSlot = some i
    let finds := (s.senseOf i).lowSeen = true ∧ x.state ∉ [.empty, .probing, .authenticating]
    let t := S.levelChanges i
    (s.settings.pins.levelEnable[i] = false → t = S) ∧
      (s.settings.pins.levelEnable[i] = true → (f.raw = true ∨ ¬finds) →
        keepsBut [.pins, .sense, .routes, .trace, .notices] S t ∧ t.filter p = S.filter p ∧
          t.senseOf i =
            (if f.raw = true then
              { s.senseOf i with lowSeen := decide (x.state ≠ .empty) || (s.senseOf i).lowSeen }
            else { s.senseOf i with lowSeen := false }) ∧
          (let judged := S.judgeChannels fun c => decide (sees c)
           t.notices = judged.notices ∧ t.trace = judged.trace ∧ t.pins = judged.pins) ∧
          ∀ c : Channel, t.route c = if sees c then (S.judgeRoute c).route c else s.route c) := by
  intro x sees finds t
  have settings : S.settings = s.settings := kept.2.2 .settings (by decide)
  have slot : S.slot i = x := State.slot_of_slots (kept.2.2 .slots (by decide)) i
  have sense : S.senseOf i = s.senseOf i := congrArg (fun sense : Vector Sense 16 => sense[i]) (kept.2.2 .sense (by decide))
  have route (c : Channel) : S.route c = s.route c :=
    congrArg (fun routes : Vector Route 12 => routes[c]) (kept.2.2 .routes (by decide))
  have named : S.seesLevel i = fun c => decide (sees c) := by
    funext c
    rw [State.seesLevel, State.routeCfg, settings, ← Bool.decide_and]
    rfl
  refine ⟨fun disabled => State.levelChanges_disabled (by rw [settings]; exact disabled), fun enabled quiet => ?_⟩
  have on : S.settings.pins.levelEnable[i] = true := by rw [settings]; exact enabled
  obtain ⟨v, changed, shape, senseOf⟩ : ∃ v, keepsBut [.sense] S v ∧ t = v.judgeLevel i ∧ v.senseOf i =
      (if f.raw = true then
        { s.senseOf i with lowSeen := decide (x.state ≠ .empty) || (s.senseOf i).lowSeen }
      else { s.senseOf i with lowSeen := false }) := by
    rw [isLevel] at raw
    by_cases low : f.raw = true
    · obtain ⟨changed, senseOf⟩ := S.levelLow_sense i
      rw [if_pos low, ← sense, ← slot]
      exact ⟨_, changed, State.levelChanges_low on (raw.trans low), senseOf⟩
    · have wet : (S.filter (.level i)).filtered = false := raw.trans (Bool.eq_false_iff.mpr low)
      have nothing : S.levelWet i = S.putSense i { s.senseOf i with lowSeen := false } := by
        rw [← sense]
        refine State.levelWet_quiet ?_
        rw [sense, slot]
        exact quiet.resolve_left low
      rw [if_neg low]
      exact ⟨_, by simp, (State.levelChanges_wet on wet).trans (by rw [nothing]), State.putSense_same S i _⟩
  obtain ⟨kept', senseT, filters, routes, notices, trace, pins⟩ := State.levelChanges_quiet (i := i) changed
  rw [← shape, named] at routes notices trace pins
  rw [← shape] at kept' senseT filters
  refine ⟨kept'.mono (by simp), filters p, ?_, ⟨notices, trace, pins⟩, fun c => ?_⟩
  · exact (congrArg (fun sense : Vector Sense 16 => sense[i]) senseT).trans senseOf
  · have judged : t.route c = (S.judgeChannels fun c => decide (sees c)).route c :=
      congrArg (fun routes : Vector Route 12 => routes[c]) routes
    rw [judged, State.judgeChannels_route, route c]
    simp only [decide_eq_true_eq]

/-- O55's clause of a finding. -/
theorem State.levelChanges_finds {i : SlotNo} (isLevel : p = .level i)
    (enabled : s.settings.pins.levelEnable[i] = true) (wet : f.raw = false) (seen : (s.senseOf i).lowSeen = true)
    (state : (s.slot i).state ∉ [SlotState.empty, .probing, .authenticating]) :
    let sees (c : Channel) := (s.routeCfg c).source = .levelLow ∧ (s.routeCfg c).defaultSlot = some i
    S.levelChanges i = (S.levelSenseFinding i).judgeChannels fun c => decide (sees c) := by
  intro sees
  have settings : S.settings = s.settings := kept.2.2 .settings (by decide)
  have slot : S.slot i = s.slot i := State.slot_of_slots (kept.2.2 .slots (by decide)) i
  have sense : S.senseOf i = s.senseOf i := congrArg (fun sense : Vector Sense 16 => sense[i]) (kept.2.2 .sense (by decide))
  have found : keepsBut [.slots, .lines, .routes, .pins, .trace, .notices, .history, .nvm, .sense] S
      (S.levelSenseFinding i) := by simp
  have named : s.seesLevel i = fun c => decide (sees c) := by
    funext c
    rw [State.seesLevel, ← Bool.decide_and]
  rw [isLevel] at raw
  rw [State.levelChanges_wet (by rw [settings]; exact enabled) (raw.trans wet),
    State.levelWet_finds (by rw [sense]; exact seen) (by rw [slot]; exact state),
    State.judgeLevel_eq (s := s) ((found.2.2 .settings (by decide)).trans settings) i, named]

/-- R130: what the finding does, of the slots, the notices and the history. -/
theorem State.levelChanges_finding {i : SlotNo} (isLevel : p = .level i)
    (enabled : s.settings.pins.levelEnable[i] = true) (wet : f.raw = false) (seen : (s.senseOf i).lowSeen = true)
    (state : (s.slot i).state ∉ [SlotState.empty, .probing, .authenticating]) :
    let x := s.slot i
    let t := S.levelChanges i
    keepsBut [.pins, .sense, .slots, .lines, .routes, .trace, .notices, .history, .nvm] S t ∧
      t.filter p = S.filter p ∧ t.senseOf i = { s.senseOf i with lowSeen := false } ∧
      noticesFollow
        (s.notices.take s.settings.mask[NoticeKind.refill.position] .refill (.slot i)
          (.levelSense x.serial s.policy.refill x.state)) t ∧
      Slot.foundBy s.policy.refill s.policy.graceVolume x (t.slot i) ∧
      (∀ j : SlotNo, j ≠ i → t.slot j = s.slot j ∨ t.slot j = { s.slot j with historyIndex := none }) ∧
      ((s.senseOf i).proven = false → t.history = s.history ∧ t.nvm = s.nvm) ∧
      ∀ serial, (s.senseOf i).proven = true → x.serial = some serial →
        ∃ n e, (t.slot i).historyIndex = some n ∧ t.entry n = some e ∧ e.serial = serial ∧ e.refillMark = true := by
  intro x t
  have settings : S.settings = s.settings := kept.2.2 .settings (by decide)
  have slot (j : SlotNo) : S.slot j = s.slot j := State.slot_of_slots (kept.2.2 .slots (by decide)) j
  have sense : S.senseOf i = s.senseOf i := congrArg (fun sense : Vector Sense 16 => sense[i]) (kept.2.2 .sense (by decide))
  have policy : S.policy = s.policy := congrArg Settings.policy settings
  have shape : t = (S.levelSenseFinding i).judgeChannels fun c =>
      decide ((s.routeCfg c).source = .levelLow ∧ (s.routeCfg c).defaultSlot = some i) :=
    State.levelChanges_finds kept raw isLevel enabled wet seen state
  obtain ⟨found, others, told, senseF, unproven, entered⟩ := S.levelSenseFinding_does (i := i)
  have finding : keepsBut [.slots, .lines, .routes, .pins, .trace, .notices, .history, .nvm, .sense] S
      (S.levelSenseFinding i) := by simp
  have filter := State.levelSenseFinding_filter (s := S) (p := p) i
  generalize S.levelSenseFinding i = v at shape found others told senseF unproven entered finding filter
  have judged : keepsBut [.routes, .pins, .trace, .notices] v t := by
    rw [shape]
    simp
  have slotT (j : SlotNo) : t.slot j = v.slot j := State.slot_of_slots (judged.2.2 .slots (by decide)) j
  have history : t.history = v.history := judged.2.2 .history (by decide)
  have nvm : t.nvm = v.nvm := judged.2.2 .nvm (by decide)
  have follows := v.judgeChannels_follows fun c =>
    decide ((s.routeCfg c).source = .levelLow ∧ (s.routeCfg c).defaultSlot = some i)
  rw [← shape] at follows
  rw [settings, slot, policy, show S.notices = s.notices from kept.2.2 .notices (by decide)] at told
  rw [slot, policy] at found
  rw [sense] at senseF unproven entered
  rw [slot] at entered
  refine ⟨(finding.mono (by simp)).trans (judged.mono (by simp)), ?_, ?_, ?_, ?_, fun j other => ?_, fun no => ?_,
    fun serial proven own => ?_⟩
  · rw [shape, State.judgeChannels_filter, filter]
  · exact (congrArg (fun sense : Vector Sense 16 => sense[i]) (judged.2.2 .sense (by decide))).trans senseF
  · exact told.trans follows (judged.2.2 .settings (by decide))
  · rwa [slotT]
  · rw [slotT, ← slot j]
    exact others j other
  · obtain ⟨historyV, nvmV⟩ := unproven no
    exact ⟨history.trans (historyV.trans (kept.2.2 .history (by decide))),
      nvm.trans (nvmV.trans (kept.2.2 .nvm (by decide)))⟩
  · obtain ⟨n, e, index, entry, rest⟩ := entered serial proven own
    rw [slotT]
    exact ⟨n, e, index, (State.entry_of_history history n).trans entry, rest⟩

/-- O55's clause of an AUX input. -/
theorem State.auxChanges_does {n : Fin 4} (isAux : p = .aux n) :
    let t := S.auxChanges n
    let notice (u : NoticeUnit) :=
      u.take s.settings.mask[NoticeKind.pin.position] .pin (.pin p) (.pin f.raw S.time)
    keepsBut [.pins, .routes, .trace, .notices] S t ∧ t.filter p = S.filter p ∧
      (∀ c : Channel,
        t.route c = if (s.routeCfg c).source.aux = some n then (S.judgeRoute c).route c else s.route c) ∧
      (let judged := S.judgeChannels fun c => decide ((s.routeCfg c).source.aux = some n)
       t.trace = judged.trace ∧ t.pins = judged.pins ∧ t.notices = notice judged.notices) ∧
      ((∀ c : Channel, (s.routeCfg c).source.aux ≠ some n) →
        t.trace = s.trace ∧ t.pins = S.pins ∧ t.notices = notice s.notices) := by
  intro t notice
  have settings : S.settings = s.settings := kept.2.2 .settings (by decide)
  have shape : t = _ := State.auxChanges_eq settings n
  rw [isAux] at raw
  rw [raw, ← isAux] at shape
  have judged : keepsBut [.routes, .pins, .trace, .notices] S
      (S.judgeChannels fun c => decide ((s.routeCfg c).source.aux = some n)) := by simp
  have route (c : Channel) : S.route c = s.route c :=
    congrArg (fun routes : Vector Route 12 => routes[c]) (kept.2.2 .routes (by decide))
  have raised {v : State} (same : v.settings = s.settings) :
      (v.raise .pin (.pin p) (.pin f.raw S.time)).notices = notice v.notices := by
    rw [State.raise, same]
  refine ⟨?_, ?_, fun c => ?_, ?_, fun unnamed => ?_⟩
  · rw [shape]
    simp
  · rw [shape, State.raise_filter, State.judgeChannels_filter]
  · have judges : t.route c = (S.judgeChannels fun c => decide ((s.routeCfg c).source.aux = some n)).route c := by
      rw [shape]
      rfl
    rw [judges, ← route c, State.judgeChannels_route]
    simp only [decide_eq_true_eq]
  · rw [shape]
    exact ⟨rfl, rfl, raised ((judged.2.2 .settings (by decide)).trans settings)⟩
  · rw [State.judgeChannels_none S fun c => decide_eq_false (unnamed c)] at shape
    rw [shape]
    refine ⟨kept.2.2 .trace (by decide), rfl, ?_⟩
    rw [raised settings, show S.notices = s.notices from kept.2.2 .notices (by decide)]

end

/-- Settles O55: by the input's group. -/
theorem filtersHandOnTheirChanges : Obligations.FiltersHandOnTheirChanges := by
  intro s p arrived ft on timer f expired settled command
  have own : expired.filter p = f := (by cases p <;> simp [expired, f, State.filter])
  have reached : keepsBut [.time, .forward] s expired := by simp [expired]
  have taken : keepsBut [.pins] expired settled := by simp [settled]
  have kept : keepsBut [.time, .forward, .pins] s settled := (reached.mono (by simp)).trans (taken.mono (by simp))
  have filter : settled.filter p = { f with filtered := f.raw, timer := none, changed := true } :=
    State.putFilter_same expired p _
  have raw : (settled.filter p).filtered = f.raw := by rw [filter]
  have expires (input : p ≠ .powerFail) : exec command s = .next (settled.handOnInput p) := by
    rw [exec_filterExpiry arrived on timer input, State.inputChanges, State.putFilter_settled own input]
  refine ⟨fun input => exec_filterExpiry arrived on timer input, fun i level => ?_, fun n aux => ?_, fun isPowerFail => ?_⟩
  · intro x sees finds
    have ends : exec command s = .next (settled.levelChanges i) := by
      rw [expires (by simp [level]), level]
      rfl
    obtain ⟨disabled, quiet⟩ := State.levelChanges_does kept raw level
    refine ⟨fun off => by rw [ends, disabled off], fun enabled nothing => ?_, fun enabled wet found => ?_⟩
    · obtain ⟨changes, rest⟩ := quiet enabled nothing
      exact ⟨_, ⟨ends, changes⟩, rest⟩
    · intro policy volume graced
      have judges := State.levelChanges_finds kept raw level enabled wet found.1 found.2
      obtain ⟨changes, filters, sense, told, slot, others, history⟩ :=
        State.levelChanges_finding kept raw level enabled wet found.1 found.2
      refine ⟨_, ⟨ends, changes⟩, filters, sense, told, slot, others, ?_, fun c => ?_, history⟩
      · rw [judges]
        exact ⟨rfl, rfl, rfl⟩
      · rw [judges, State.judgeChannels_route]
        simp only [sees, decide_eq_true_eq]
  · have ends : exec command s = .next (settled.auxChanges n) := by
      rw [expires (by simp [aux]), aux]
      rfl
    rw [← show settled.time = expired.time from taken.2.2 .time (by decide)]
    obtain ⟨changes, rest⟩ := State.auxChanges_does kept raw aux
    exact ⟨_, ⟨ends, changes⟩, rest⟩
  · intro settled
    have taken : keepsBut [.pins] expired settled := by simp [settled]
    have kept : keepsBut [.time, .forward, .pins] s settled := (reached.mono (by simp)).trans (taken.mono (by simp))
    have filtered : settled.pins.powerFail.filtered = f.raw := by
      have filter : settled.filter p = { f with filtered := f.raw, timer := none } := State.putFilter_same expired p _
      rw [isPowerFail] at filter
      exact congrArg Filter.filtered filter
    have saveState : settled.nvm.saveState = s.nvm.saveState := congrArg Nvm.saveState (kept.2.2 .nvm (by decide))
    have ends : exec command s = .next (settled.powerFailChanges arrived) := by
      have settles : (expired.filter .powerFail).settle .powerFail = { f with filtered := f.raw, timer := none } := by
        rw [← isPowerFail, own, isPowerFail, Filter.settle, show Pin.hasChanged .powerFail = false from rfl, Bool.or_false]
      have expires := exec_powerFailExpiry arrived on (isPowerFail ▸ timer)
      rw [settles] at expires
      simp only [command, settled, isPowerFail]
      exact expires
    refine ⟨fun low running => ?_, fun low other => ?_, fun high saved => ?_, fun high other => ?_⟩
    · intro forward
      have begins := State.powerFailChanges_saves settled arrived (filtered.trans low) (saveState.trans running)
      refine ⟨settled.beginSave .powerFail arrived, ⟨by rw [ends, begins], by simp⟩, ?_, ?_⟩
      · exact State.beginSave_filter (s := settled) .powerFail .powerFail arrived
      · refine ((State.beginSave_begins (s := settled) (cause := .powerFail) (arrived := arrived)).before
          (kept.2.2 .nvm (by decide)) (kept.2.2 .slots (by decide)) (kept.2.2 .meters (by decide))
          (kept.2.2 .settings (by decide)) ?_).abandons ?_
        · rw [show settled.forward = expired.forward from taken.2.2 .forward (by decide), State.reach_charges]
        · rw [State.levelsArrive_abandoned, show settled.link = s.link from kept.2.2 .link (by decide),
            show settled.forward = expired.forward from taken.2.2 .forward (by decide)]
    · rw [ends, State.powerFailChanges_late settled arrived (filtered.trans low) (by rwa [saveState])]
    · rw [ends, State.powerFailChanges_starts settled arrived (filtered.trans high) (saveState.trans saved)]
    · rw [ends, State.powerFailChanges_nothing settled arrived (filtered.trans high) (by rwa [saveState])]

end Sys2Proof.Machine

/-!
PROOFS. The fields of Set Pins (R181, R182).
-/

namespace Sys2Proof.Machine

open Sys2Proof

/-! ### Lamp sources -/

theorem lampFieldOf_outside {source slot : Nat} : lampFieldOf source slot = .outside ↔ 9 < source := by
  match source with
  | 0 | 1 | 2 | 3 | 4 | 5 | 6 | 7 | 8 => simp [lampFieldOf]
  | 9 =>
    rw [lampFieldOf]
    split <;> simp
  | n + 10 => exact iff_of_true rfl (by omega)

theorem lampFieldOf_slotOutOfRange {source slot : Nat} :
    lampFieldOf source slot = .slotOutOfRange ↔ source = 9 ∧ 15 < slot := by
  match source with
  | 0 | 1 | 2 | 3 | 4 | 5 | 6 | 7 | 8 => simp [lampFieldOf]
  | 9 =>
    rw [lampFieldOf]
    split
    next n given =>
      have inside : ¬16 ≤ slot := fun out => by simp [numberOf_isNone.mpr out] at given
      simp
      omega
    next none =>
      have out : 16 ≤ slot := numberOf_isNone.mp none
      simp
      omega
  | n + 10 => exact iff_of_false (by simp [lampFieldOf]) (by omega)

/-- The source that a lamp field stores. -/
def LampField.stored : LampField → LampSource
  | .source x => x
  | _ => .off

theorem lampFieldOf_stored {source : Nat} (below : source < 9) (slot : Nat) :
    [LampSource.off, .on, .anySlotUnfit, .anyChannelGated, .refillSeen, .wasteNear, .wasteFull, .linkMinor,
      .linkMajor][source]? = some (lampFieldOf source slot).stored := by
  match source with
  | 0 | 1 | 2 | 3 | 4 | 5 | 6 | 7 | 8 => rfl

theorem lampFieldOf_slotUnfit (i : SlotNo) : (lampFieldOf 9 i.val).stored = .slotUnfit i := by
  rw [lampFieldOf, numberOf_of_lt i.isLt]
  rfl

/-- An on/off byte that reads is the byte of what it reads as. -/
theorem onOff_boolOf {b : Byte} (reads : ¬1 < b.toNat) : onOff ((boolOf b.toNat).getD false) = b := by
  have zeroOrOne : b = 0#8 ∨ b = 1#8 := by bv_omega
  rcases zeroOrOne with rfl | rfl <;> rfl

/-! ### The whole operand -/

/-- R182: the settings that the fields give. -/
def pinFields (f : List Byte) : PinCfg :=
  { presenceAssert := pinDelay f 0, presenceRelease := pinDelay f 2, levelAssert := pinDelay f 4,
    levelRelease := pinDelay f 6, auxAssert := pinDelay f 8, auxRelease := pinDelay f 10,
    levelEnable := Vector.ofFn fun n : SlotNo => (levelEnableField f n).getD false,
    lamps := Vector.ofFn fun n : Fin 4 =>
      { source := (lampSourceField f n).stored, invert := (lampInvertField f n).getD false } }

/-- R182: an enable, an invert or a lamp source outside its list. -/
def badPinValue (fields : List Byte) : Prop :=
  (∃ n : SlotNo, 1 < (byteAt fields (12 + n.val)).toNat) ∨
    ∃ n : Fin 4, 9 < (byteAt fields (28 + 3 * n.val)).toNat ∨ 1 < (byteAt fields (30 + 3 * n.val)).toNat

/-- R182: a lamp's slot above 15. -/
def badPinSubject (fields : List Byte) : Prop :=
  ∃ n : Fin 4, byteAt fields (28 + 3 * n.val) = 9#8 ∧ 15 < (byteAt fields (29 + 3 * n.val)).toNat

section
variable {f : List Byte} (size : f.length = 40)
include size

theorem levelEnableField_eq (n : SlotNo) : levelEnableField f n = boolOf (byteAt f (12 + n.val)).toNat := by
  rw [levelEnableField, fieldAt_one_byteAt f (12 + n.val) (by omega)]

theorem lampInvertField_eq (n : Fin 4) : lampInvertField f n = boolOf (byteAt f (30 + 3 * n.val)).toNat := by
  rw [lampInvertField, fieldAt_one_byteAt f (30 + 3 * n.val) (by omega)]

theorem lampSourceField_eq (n : Fin 4) :
    lampSourceField f n = lampFieldOf (byteAt f (28 + 3 * n.val)).toNat (byteAt f (29 + 3 * n.val)).toNat := by
  rw [lampSourceField, fieldAt_one_byteAt f (28 + 3 * n.val) (by omega), fieldAt_one_byteAt f (29 + 3 * n.val) (by omega)]

theorem badPinValue_iff :
    (slotNos.any (fun n => (levelEnableField f n).isNone) ||
      auxNos.any (fun n => (lampInvertField f n).isNone || decide (lampSourceField f n = .outside))) = true ↔
      badPinValue f := by
  have enable (n : SlotNo) : (levelEnableField f n).isNone = true ↔ 1 < (byteAt f (12 + n.val)).toNat := by
    rw [levelEnableField_eq size, Option.isNone_iff_eq_none, boolOf_isNone]
  have invert (n : Fin 4) : (lampInvertField f n).isNone = true ↔ 1 < (byteAt f (30 + 3 * n.val)).toNat := by
    rw [lampInvertField_eq size, Option.isNone_iff_eq_none, boolOf_isNone]
  have source (n : Fin 4) : lampSourceField f n = .outside ↔ 9 < (byteAt f (28 + 3 * n.val)).toNat := by
    rw [lampSourceField_eq size, lampFieldOf_outside]
  simp only [badPinValue, Bool.or_eq_true, List.any_eq_true, slotNos, auxNos, List.mem_finRange, true_and,
    decide_eq_true_eq, enable, invert, source, or_comm]

theorem badPinSubject_iff :
    auxNos.any (fun n => decide (lampSourceField f n = .slotOutOfRange)) = true ↔ badPinSubject f := by
  have source (n : Fin 4) : lampSourceField f n = .slotOutOfRange ↔
      byteAt f (28 + 3 * n.val) = 9#8 ∧ 15 < (byteAt f (29 + 3 * n.val)).toNat := by
    rw [lampSourceField_eq size, lampFieldOf_slotOutOfRange, ← BitVec.toNat_inj]
    rfl
  simp only [badPinSubject, List.any_eq_true, auxNos, List.mem_finRange, true_and, decide_eq_true_eq, source]

theorem setPinsOperand_eq :
    (badPinValue f → setPinsOperand f = .error .badValue) ∧
      (¬badPinValue f → badPinSubject f → setPinsOperand f = .error .badSubject) ∧
      (¬badPinValue f → ¬badPinSubject f → setPinsOperand f = .ok (pinFields f)) := by
  rw [← badPinValue_iff size, ← badPinSubject_iff size]
  refine ⟨fun value => if_pos value, fun values subject => ?_, fun values subjects => ?_⟩
  · rw [setPinsOperand, if_neg values, if_pos subject]
  · rw [setPinsOperand, if_neg values, if_neg subjects]
    rfl

/-- R182: the settings of an accepted Set Pins, from its bytes. -/
theorem setPinsOperand_ok {cfg : PinCfg} (read : setPinsOperand f = .ok cfg) : cfg = pinFields f ∧ ¬badPinValue f := by
  obtain ⟨value, subject, good⟩ := setPinsOperand_eq size
  have values : ¬badPinValue f := fun bad => by simp [value bad] at read
  have subjects : ¬badPinSubject f := fun bad => by simp [subject values bad] at read
  rw [good values subjects] at read
  exact ⟨(Except.ok.inj read).symm, values⟩

theorem pinFields_levelEnable (values : ¬badPinValue f) (n : SlotNo) :
    onOff (pinFields f).levelEnable[n] = byteAt f (12 + n.val) := by
  have reads : ¬1 < (byteAt f (12 + n.val)).toNat := fun bad => values (.inl ⟨n, bad⟩)
  have stored : (pinFields f).levelEnable[n] = (levelEnableField f n).getD false := by simp [pinFields]
  rw [stored, levelEnableField_eq size, onOff_boolOf reads]

theorem pinFields_lamp (values : ¬badPinValue f) (n : Fin 4) :
    let lamp := (pinFields f).lamps[n]
    onOff lamp.invert = byteAt f (30 + 3 * n.val) ∧
      ((byteAt f (28 + 3 * n.val)).toNat < 9 →
        [LampSource.off, .on, .anySlotUnfit, .anyChannelGated, .refillSeen, .wasteNear, .wasteFull, .linkMinor,
          .linkMajor][(byteAt f (28 + 3 * n.val)).toNat]? = some lamp.source) ∧
      ∀ i : SlotNo, byteAt f (28 + 3 * n.val) = 9#8 → byteAt f (29 + 3 * n.val) = BitVec.ofNat 8 i.val →
        lamp.source = .slotUnfit i := by
  have stored : (pinFields f).lamps[n] =
      { source := (lampSourceField f n).stored, invert := (lampInvertField f n).getD false } := by simp [pinFields]
  have reads : ¬1 < (byteAt f (30 + 3 * n.val)).toNat := fun bad => values (.inr ⟨n, .inr bad⟩)
  simp only [stored, lampSourceField_eq size, lampInvertField_eq size]
  refine ⟨onOff_boolOf reads, fun below => lampFieldOf_stored below _, fun i nine slot => ?_⟩
  have number : (BitVec.ofNat 8 i.val).toNat = i.val := by
    rw [BitVec.toNat_ofNat]
    omega
  rw [nine, slot, number]
  exact lampFieldOf_slotUnfit i

end

end Sys2Proof.Machine

/-!
PROOFS. The running filter timers under new delays (R175), and the enables that turn (R177).
-/

namespace Sys2Proof.Machine

open Sys2Proof

/-! ### The timers that run (R175) -/

theorem inputs_nodup : inputs.Nodup := by decide

theorem powerFail_notMem_inputs : Pin.powerFail ∉ inputs := by decide

/-- R175: one input of a Set Pins in s, under the new delays. -/
def State.shiftFilter (s : State) (cfg : PinCfg) (u : State) (p : Pin) : State :=
  match (s.filter p).timer with
  | none => u
  | some ft =>
    if cfg.groupDelays p = s.settings.pins.groupDelays p then u
    else if cfg.delay p (s.filter p).raw < (s.time - ft.started).toNat then u.inputChanges p
    else
      u.putFilter p
        { s.filter p with
          timer := some { ft with expiry := ft.started + BitVec.ofNat 32 (cfg.delay p (s.filter p).raw) } }

/-- R175: what Set Pins leaves of that input. -/
def State.shiftedFilter (s : State) (cfg : PinCfg) (p : Pin) : Filter :=
  match (s.filter p).timer with
  | none => s.filter p
  | some ft =>
    if cfg.groupDelays p = s.settings.pins.groupDelays p then s.filter p
    else if cfg.delay p (s.filter p).raw < (s.time - ft.started).toNat then
      { s.filter p with filtered := (s.filter p).raw, timer := none, changed := true }
    else
      { s.filter p with
        timer := some { ft with expiry := ft.started + BitVec.ofNat 32 (cfg.delay p (s.filter p).raw) } }

theorem State.inputChanges_filter_other (s : State) {p q : Pin} (other : q ≠ p) :
    (s.inputChanges p).filter q = s.filter q :=
  (State.handOnInput_filter _ q p).trans (State.putFilter_other s _ other)

section
variable {s : State} {cfg : PinCfg} {u : State} {p : Pin}

theorem State.rejudgeFilter_eq (filter : u.filter p = s.filter p) (time : u.time = s.time)
    (delays : u.settings.pins.groupDelays = cfg.groupDelays) :
    State.rejudgeFilter s.settings.pins u p = s.shiftFilter cfg u p := by
  have delay (asserted : Bool) : u.settings.pins.delay p asserted = cfg.delay p asserted := by
    rw [PinCfg.delay, PinCfg.delay, delays]
  cases timer : (s.filter p).timer with
  | none => simp only [State.rejudgeFilter, State.shiftFilter, filter, timer]
  | some ft => simp only [State.rejudgeFilter, State.shiftFilter, filter, timer, State.since, time, delays, delay]

theorem State.shiftFilter_keeps (s : State) (cfg : PinCfg) (u : State) (p : Pin) :
    keepsBut [.slots, .lines, .routes, .pins, .trace, .notices, .history, .nvm, .sense, .digest] u
      (s.shiftFilter cfg u p) := by
  unfold State.shiftFilter
  split
  · simp
  · split
    · simp
    · split <;> simp

theorem State.shiftFilter_other {q : Pin} (other : q ≠ p) : (s.shiftFilter cfg u p).filter q = u.filter q := by
  unfold State.shiftFilter
  split
  · rfl
  · split
    · rfl
    · split
      · exact State.inputChanges_filter_other u other
      · exact State.putFilter_other u _ other

theorem State.shiftFilter_filter (filter : u.filter p = s.filter p) (input : p ≠ .powerFail) :
    (s.shiftFilter cfg u p).filter p = s.shiftedFilter cfg p := by
  have changed : Pin.hasChanged p = true := by
    cases p with
    | powerFail => exact absurd rfl input
    | _ => rfl
  cases timer : (s.filter p).timer with
  | none => simp only [State.shiftFilter, State.shiftedFilter, timer, filter]
  | some ft =>
    simp only [State.shiftFilter, State.shiftedFilter, timer]
    split
    · exact filter
    · split
      · rw [State.inputChanges_filter, filter, Filter.settle, changed, Bool.or_true]
      · exact State.putFilter_same u p _

theorem State.shiftFilter_nothing
    (nothing : (s.filter p).timer = none ∨ cfg.groupDelays p = s.settings.pins.groupDelays p) :
    s.shiftFilter cfg u p = u := by
  unfold State.shiftFilter
  split
  · rfl
  next timer => exact if_pos (nothing.resolve_left (by simp [timer]))

theorem State.shiftedFilter_nothing
    (nothing : (s.filter p).timer = none ∨ cfg.groupDelays p = s.settings.pins.groupDelays p) :
    s.shiftedFilter cfg p = s.filter p := by
  unfold State.shiftedFilter
  split
  · rfl
  next timer => exact if_pos (nothing.resolve_left (by simp [timer]))

end

section
variable {s : State} {cfg : PinCfg} {ps : List Pin} (once : ps.Nodup)

theorem State.shiftFilters_keeps (s : State) (cfg : PinCfg) (ps : List Pin) (u : State) :
    keepsBut [.slots, .lines, .routes, .pins, .trace, .notices, .history, .nvm, .sense, .digest] u
      (ps.foldl (s.shiftFilter cfg) u) := by
  induction ps generalizing u with
  | nil => exact keepsBut_refl _ u
  | cons p ps ih => exact (s.shiftFilter_keeps cfg u p).trans (ih _)

theorem State.shiftFilters_nothing (u : State)
    (nothing : ∀ p ∈ ps, (s.filter p).timer = none ∨ cfg.groupDelays p = s.settings.pins.groupDelays p) :
    ps.foldl (s.shiftFilter cfg) u = u := by
  induction ps with
  | nil => rfl
  | cons p ps ih =>
    rw [List.foldl_cons, State.shiftFilter_nothing (nothing p (by simp))]
    exact ih fun q mem => nothing q (by simp [mem])

include once

/-- R175: each timer is judged once, so it is judged as it stood. -/
theorem State.rejudgeFilters_eq {u : State} (filters : ∀ p ∈ ps, u.filter p = s.filter p) (time : u.time = s.time)
    (delays : u.settings.pins.groupDelays = cfg.groupDelays) :
    ps.foldl (State.rejudgeFilter s.settings.pins) u = ps.foldl (s.shiftFilter cfg) u := by
  induction ps generalizing u with
  | nil => rfl
  | cons p ps ih =>
    obtain ⟨first, rest⟩ := List.nodup_cons.mp once
    have kept := s.shiftFilter_keeps cfg u p
    rw [List.foldl_cons, List.foldl_cons, State.rejudgeFilter_eq (filters p (by simp)) time delays]
    refine ih rest (fun q mem => ?_) ((kept.2.2 .time (by decide)).trans time) ?_
    · have other : q ≠ p := fun same => first (same ▸ mem)
      rw [State.shiftFilter_other other, filters q (by simp [mem])]
    · rw [show (s.shiftFilter cfg u p).settings = u.settings from kept.2.2 .settings (by decide), delays]

theorem State.shiftFilters_filter {u : State} (filters : ∀ p ∈ ps, u.filter p = s.filter p) (inputs : .powerFail ∉ ps)
    (q : Pin) : (ps.foldl (s.shiftFilter cfg) u).filter q = if q ∈ ps then s.shiftedFilter cfg q else u.filter q := by
  induction ps generalizing u with
  | nil => rfl
  | cons p ps ih =>
    obtain ⟨first, rest⟩ := List.nodup_cons.mp once
    obtain ⟨own, others⟩ := not_or.mp (mt List.mem_cons.mpr inputs)
    have unshifted : ∀ r ∈ ps, (s.shiftFilter cfg u p).filter r = s.filter r := fun r mem => by
      have other : r ≠ p := fun same => first (same ▸ mem)
      rw [State.shiftFilter_other other, filters r (by simp [mem])]
    rw [List.foldl_cons, ih rest unshifted others]
    by_cases same : q = p
    · subst same
      rw [if_neg first, if_pos (by simp), State.shiftFilter_filter (filters q (by simp)) (Ne.symm own)]
    · rw [State.shiftFilter_other same]
      simp [same]

end

/-! ### The enables that turn (R177) -/

/-- The state with other sense records. -/
def State.onSense (s : State) (sense : Vector Sense 16) : State := { s with sense := sense }

@[simp] theorem State.onSense_keeps {bs : List Block} (hb : .sense ∈ bs) (s t : State) (sense : Vector Sense 16) :
    keepsBut bs s (t.onSense sense) ↔ keepsBut bs s t := by
  simp [State.onSense, hb]

/-- R177: one slot of the enables that turn. -/
def State.judgeTurned (turned : SlotNo → Bool) (u : State) (i : SlotNo) : State :=
  if turned i then
    u.judgeChannels fun c => decide ((u.routeCfg c).source = .levelLow ∧ (u.routeCfg c).defaultSlot = some i)
  else u

theorem State.judgeLevel_onSense (v : State) (i : SlotNo) (sense : Vector Sense 16) :
    (v.onSense sense).judgeLevel i =
      (v.judgeChannels fun c =>
        decide ((v.routeCfg c).source = .levelLow ∧ (v.routeCfg c).defaultSlot = some i)).onSense sense := by
  have named : v.seesLevel i =
      fun c => decide ((v.routeCfg c).source = .levelLow ∧ (v.routeCfg c).defaultSlot = some i) := by
    funext c
    rw [State.seesLevel, ← Bool.decide_and]
  obtain ⟨routes, trace, pins, raised, -, judged⟩ := v.judgeChannels_reroutes (v.seesLevel i)
  have own := judged v (sameRead.refl v)
  have other := judged (v.onSense sense) ⟨rfl, rfl, rfl, rfl, rfl, rfl⟩
  beta_reduce at own other
  rw [State.judgeLevel_eq (s := v) (u := v.onSense sense) rfl, other, ← named, own]
  rfl

theorem State.judgeTurned_keeps (turned : SlotNo → Bool) (u : State) (i : SlotNo) :
    keepsBut [.routes, .pins, .trace, .notices] u (u.judgeTurned turned i) := by
  unfold State.judgeTurned
  split <;> simp

theorem State.judgeTurned_filter (turned : SlotNo → Bool) (u : State) (i : SlotNo) (p : Pin) :
    (u.judgeTurned turned i).filter p = u.filter p := by
  unfold State.judgeTurned
  split <;> simp

/-- R177: low seen after an enable that turned. -/
def Sense.turned (x : Sense) (enabled present : Bool) : Sense :=
  { x with lowSeen := enabled && (present || x.lowSeen) }

section
variable {v : State} {enabled old : Vector Bool 16} {turned : SlotNo → Bool}

theorem State.enableChanges_eq {i : SlotNo} (enables : v.settings.pins.levelEnable = enabled)
    (turns : turned i = (enabled[i] != old[i] && (v.filter (.level i)).filtered)) (sense : Vector Sense 16) :
    ∃ after : Vector Sense 16,
      State.enableChanges old (v.onSense sense) i = (v.judgeTurned turned i).onSense after ∧
        after[i] =
          (if turned i then (sense[i]).turned enabled[i] (decide ((v.slot i).state ≠ .empty)) else sense[i]) ∧
        ∀ j : SlotNo, j ≠ i → after[j] = sense[j] := by
  have enablesOn : (v.onSense sense).settings.pins.levelEnable[i] = enabled[i] := by rw [← enables]; rfl
  have filter : (v.onSense sense).filter (.level i) = v.filter (.level i) := rfl
  rw [State.enableChanges, enablesOn, filter]
  by_cases same : enabled[i] = old[i]
  · have still : turned i = false := by simp [turns, same]
    exact ⟨sense, by simp [same, State.judgeTurned, still], by simp [still], fun _ _ => rfl⟩
  · by_cases low : (v.filter (.level i)).filtered = true
    · have turnsOn : turned i = true := by
        rw [turns, low, Bool.and_true]
        exact bne_iff_ne.mpr same
      obtain ⟨after, shape, own, others⟩ : ∃ after : Vector Sense 16,
          (if enabled[i] = true then (v.onSense sense).levelLow i else (v.onSense sense).levelDisabled i) =
            v.onSense after ∧
          after[i] = (sense[i]).turned enabled[i] (decide ((v.slot i).state ≠ .empty)) ∧
          ∀ j : SlotNo, j ≠ i → after[j] = sense[j] := by
        have setOther (x : Sense) (j : SlotNo) (other : j ≠ i) : (sense.set i x)[j] = sense[j] :=
          Vector.getElem_set_ne i.isLt j.isLt fun same => other (Fin.ext same.symm)
        have setOwn (x : Sense) : (sense.set i x)[i] = x := Vector.getElem_set_self i.isLt
        by_cases on : enabled[i] = true
        · rw [if_pos on, on]
          by_cases empty : (v.slot i).state = .empty
          · exact ⟨sense, if_pos empty, by simp [Sense.turned, empty], fun _ _ => rfl⟩
          · exact ⟨sense.set i { sense[i] with lowSeen := true }, if_neg empty,
              by simp [setOwn, Sense.turned, empty], setOther _⟩
        · rw [if_neg on, Bool.eq_false_iff.mpr on]
          exact ⟨sense.set i { sense[i] with lowSeen := false }, rfl, by simp [setOwn, Sense.turned], setOther _⟩
      refine ⟨after, ?_, by rw [own, turnsOn, if_pos rfl], others⟩
      rw [if_neg same, low, if_neg (by simp), shape, State.judgeLevel_onSense, State.judgeTurned, turnsOn, if_pos rfl]
    · have still : turned i = false := by simp [turns, low]
      exact ⟨sense, by simp [low, State.judgeTurned, still], by simp [still], fun _ _ => rfl⟩

/-- R177: the enables one after another; the channels are judged as they would be alone. -/
theorem State.enablesChange_eq {is : List SlotNo} (once : is.Nodup) (enables : v.settings.pins.levelEnable = enabled)
    (turns : ∀ i, turned i = (enabled[i] != old[i] && (v.filter (.level i)).filtered)) (sense : Vector Sense 16) :
    ∃ after : Vector Sense 16,
      is.foldl (State.enableChanges old) (v.onSense sense) =
          (is.foldl (State.judgeTurned turned) v).onSense after ∧
        ∀ i : SlotNo,
          after[i] =
            if i ∈ is ∧ turned i = true then (sense[i]).turned enabled[i] (decide ((v.slot i).state ≠ .empty))
            else sense[i] := by
  induction is generalizing v sense with
  | nil => exact ⟨sense, rfl, by simp⟩
  | cons j is ih =>
    obtain ⟨first, rest⟩ := List.nodup_cons.mp once
    obtain ⟨between, shape, own, others⟩ := State.enableChanges_eq enables (turns j) sense
    have kept := v.judgeTurned_keeps turned j
    have settings : (v.judgeTurned turned j).settings = v.settings := kept.2.2 .settings (by decide)
    obtain ⟨after, shapes, each⟩ := ih (v := v.judgeTurned turned j) rest (by rw [settings, enables])
      (fun i => by rw [State.judgeTurned_filter]; exact turns i) between
    refine ⟨after, by rw [List.foldl_cons, List.foldl_cons, shape, shapes], fun i => ?_⟩
    have slot : (v.judgeTurned turned j).slot i = v.slot i := State.slot_of_slots (kept.2.2 .slots (by decide)) i
    rw [each, slot]
    by_cases same : i = j
    · subst same
      simp [first, own]
    · rw [others i same]
      simp [same]

theorem State.judgesTurned_keeps (turned : SlotNo → Bool) (is : List SlotNo) (v : State) :
    keepsBut [.routes, .pins, .trace, .notices] v (is.foldl (State.judgeTurned turned) v) := by
  induction is generalizing v with
  | nil => exact keepsBut_refl _ v
  | cons i is ih => exact (v.judgeTurned_keeps turned i).trans (ih _)

theorem State.judgesTurned_none {turned : SlotNo → Bool} (none : ∀ i, turned i = false) (is : List SlotNo) (v : State) :
    is.foldl (State.judgeTurned turned) v = v :=
  List.foldl_fixed' (fun i => if_neg (by simp [none i])) is

theorem State.judgesTurned_filter (turned : SlotNo → Bool) (is : List SlotNo) (v : State) (p : Pin) :
    (is.foldl (State.judgeTurned turned) v).filter p = v.filter p :=
  foldl_filter (f := State.judgeTurned turned) (fun u i => u.judgeTurned_filter turned i p) is v

end

end Sys2Proof.Machine

/-!
PROOFS. SET_PINS as a whole (R182).
-/

namespace Sys2Proof.Machine

open Sys2Proof

/-- R182, step 1: the state w of a request in s, with the delays replaced and the running timers judged. -/
def State.delaysShifted (s : State) (cfg : PinCfg) (w : State) : State :=
  inputs.foldl (s.shiftFilter cfg)
    (w.putPinCfg { cfg with levelEnable := s.settings.pins.levelEnable, lamps := s.settings.pins.lamps })

/-- R182, step 2: which enables change while their input reads LOW. -/
def State.turns (s : State) (cfg : PinCfg) (shifted : State) (i : SlotNo) : Bool :=
  cfg.levelEnable[i] != s.settings.pins.levelEnable[i] && (shifted.filter (.level i)).filtered

section
variable {s w : State} {cfg : PinCfg} (time : w.time = s.time) (settings : w.settings = s.settings)
  (filters : ∀ p, w.filter p = s.filter p)

theorem State.delaysShifted_keeps (s : State) (cfg : PinCfg) (w : State) :
    keepsBut [.slots, .lines, .routes, .pins, .trace, .notices, .history, .nvm, .sense, .digest, .settings] w
      (s.delaysShifted cfg w) := by
  have shifts := s.shiftFilters_keeps cfg inputs
    (w.putPinCfg { cfg with levelEnable := s.settings.pins.levelEnable, lamps := s.settings.pins.lamps })
  exact keepsBut.trans (by simp) (shifts.mono (by simp))

theorem State.delaysShifted_settings (s : State) (cfg : PinCfg) (w : State) :
    (s.delaysShifted cfg w).settings =
      { w.settings with
        pins := { cfg with levelEnable := s.settings.pins.levelEnable, lamps := s.settings.pins.lamps } } :=
  (s.shiftFilters_keeps cfg inputs _).2.2 .settings (by decide)

include filters in
theorem State.delaysShifted_filter (p : Pin) :
    (s.delaysShifted cfg w).filter p = if p ∈ inputs then s.shiftedFilter cfg p else s.filter p := by
  have unchanged (q : Pin) : (w.putPinCfg
      { cfg with levelEnable := s.settings.pins.levelEnable, lamps := s.settings.pins.lamps }).filter q = s.filter q :=
    filters q
  rw [State.delaysShifted, State.shiftFilters_filter inputs_nodup (fun q _ => unchanged q) powerFail_notMem_inputs,
    unchanged]

include time settings filters

theorem State.replaceDelays_eq : w.replaceDelays cfg = s.delaysShifted cfg w := by
  rw [State.replaceDelays, settings, State.delaysShifted]
  exact State.rejudgeFilters_eq inputs_nodup (fun p _ => filters p) time rfl

/-- R182: all that Set Pins hands on. -/
theorem State.replacePins_eq :
    let shifted := s.delaysShifted cfg w
    let judged := slotNos.foldl (State.judgeTurned (s.turns cfg shifted))
      (shifted.putPinCfg { cfg with lamps := s.settings.pins.lamps })
    ∃ sense : Vector Sense 16,
      w.replacePins cfg = (judged.onSense sense).putPinCfg cfg ∧
        ∀ i : SlotNo,
          sense[i] =
            if s.turns cfg shifted i = true then
              (shifted.senseOf i).turned cfg.levelEnable[i] (decide ((shifted.slot i).state ≠ .empty))
            else shifted.senseOf i := by
  intro shifted judged
  have pins : shifted.settings.pins =
      { cfg with levelEnable := s.settings.pins.levelEnable, lamps := s.settings.pins.lamps } :=
    congrArg Settings.pins (s.delaysShifted_settings cfg w)
  obtain ⟨sense, shape, each⟩ := State.enablesChange_eq (is := slotNos)
    (v := shifted.putPinCfg { cfg with lamps := s.settings.pins.lamps }) (old := s.settings.pins.levelEnable)
    (turned := s.turns cfg shifted) (List.nodup_finRange 16) rfl (fun _ => rfl) shifted.sense
  refine ⟨sense, ?_, fun i => ?_⟩
  · rw [State.replacePins, State.replaceDelays_eq time settings filters, State.replaceEnables]
    change (slotNos.foldl (State.enableChanges shifted.settings.pins.levelEnable)
      (shifted.putPinCfg { shifted.settings.pins with levelEnable := cfg.levelEnable })).putPinCfg cfg = _
    rw [pins]
    exact congrArg (fun v => State.putPinCfg v cfg) shape
  · rw [each i]
    simp only [slotNos, List.mem_finRange, true_and]
    rfl

end

/-- Settles O27: the fields read, the running timers shifted, and then the enables that turn. -/
theorem pinSettingsAreReplaced : Obligations.PinSettingsAreReplaced := by
  intro tag fields s h size
  obtain ⟨value, subject, good⟩ := setPinsOperand_eq size
  refine ⟨fun o refused => ?_, ⟨value, subject, fun values subjects => ⟨_, good values subjects⟩⟩, fun cfg read => ?_⟩
  · refine refusedWith (k := setPins fields) h rfl rfl ?_
    rw [setPins, sized_eq size, refused]
  · intro old pinned delay shift shifted turned judged
    obtain ⟨isFields, values⟩ := setPinsOperand_ok size read
    have meaning (u : State) : setPins fields u = done (u.replacePins cfg) cfg.bytes := by
      rw [setPins, sized_eq size, read]
    have kept (u : State) : keepsBut
        [.notices, .settings, .slots, .lines, .sense, .routes, .trace, .digest, .history, .pins, .nvm] u
        (u.replacePins cfg) := by simp
    have settings : (s.requestArrives fields).settings = s.settings := by simp
    have time : (s.requestArrives fields).time = s.time := by simp
    have arrives : keepsBut requestBlocks s (s.requestArrives fields) := by simp [requestBlocks]
    have filters (p : Pin) : (s.requestArrives fields).filter p = s.filter p := arrives.filter (by decide) p
    have isShifted : shifted = s.delaysShifted cfg (s.requestArrives fields) := rfl
    obtain ⟨sense, shape, each⟩ := State.replacePins_eq (cfg := cfg) time settings filters
    rw [← isShifted] at shape each
    have shiftedSettings := s.delaysShifted_settings cfg (s.requestArrives fields)
    have shiftedKept := s.delaysShifted_keeps cfg (s.requestArrives fields)
    have shiftedFilter := State.delaysShifted_filter (cfg := cfg) filters
    rw [← isShifted] at shiftedSettings shiftedKept shiftedFilter
    have isJudged : judged = slotNos.foldl (State.judgeTurned (s.turns cfg shifted))
      (shifted.putPinCfg { cfg with lamps := s.settings.pins.lamps }) := rfl
    have judgedKept := State.judgesTurned_keeps (s.turns cfg shifted) slotNos
      (shifted.putPinCfg { cfg with lamps := s.settings.pins.lamps })
    have judgedFilter := State.judgesTurned_filter (s.turns cfg shifted) slotNos
      (shifted.putPinCfg { cfg with lamps := s.settings.pins.lamps })
    rw [← isJudged] at shape judgedKept judgedFilter
    clear_value judged shifted
    refine ⟨_, doneWith h rfl rfl (meaning _) (kept _) (by simp), ?_⟩
    rw [shape]
    have filter (p : Pin) : judged.filter p = if p ∈ inputs then s.shiftedFilter cfg p else s.filter p :=
      (judgedFilter p).trans (shiftedFilter p)
    have judgedSettings : judged.settings = (shifted.putPinCfg { cfg with lamps := s.settings.pins.lamps }).settings :=
      judgedKept.2.2 .settings (by decide)
    have presenceAssert : cfg.presenceAssert = min 10000 (fieldAt fields 0 2) := congrArg PinCfg.presenceAssert isFields
    have presenceRelease : cfg.presenceRelease = min 10000 (fieldAt fields 2 2) := congrArg PinCfg.presenceRelease isFields
    have levelAssert : cfg.levelAssert = min 10000 (fieldAt fields 4 2) := congrArg PinCfg.levelAssert isFields
    have levelRelease : cfg.levelRelease = min 10000 (fieldAt fields 6 2) := congrArg PinCfg.levelRelease isFields
    have auxAssert : cfg.auxAssert = min 10000 (fieldAt fields 8 2) := congrArg PinCfg.auxAssert isFields
    have auxRelease : cfg.auxRelease = min 10000 (fieldAt fields 10 2) := congrArg PinCfg.auxRelease isFields
    have enables := pinFields_levelEnable size values
    have lamps := pinFields_lamp size values
    rw [← isFields] at enables lamps
    refine ⟨?_, presenceAssert, presenceRelease, levelAssert, levelRelease, auxAssert, auxRelease, enables, lamps, ?_, ?_,
      each, rfl, rfl, rfl, rfl,
      judgedKept.2.2 .slots (by decide), judgedKept.2.2 .lines (by decide), judgedKept.2.2 .digest (by decide),
      judgedKept.2.2 .history (by decide), judgedKept.2.2 .nvm (by decide), ?_⟩
    · change { judged.settings with pins := cfg } = _
      rw [judgedSettings, State.putPinCfg, shiftedSettings, settings]
    · intro p input f
      have own : judged.filter p = s.shiftedFilter cfg p := by rw [filter, if_pos input]
      refine ⟨fun nothing => ?_, fun ft timer changed => ?_⟩
      · exact own.trans (State.shiftedFilter_nothing nothing)
      · refine own.trans ?_
        have running : (s.filter p).timer = some ft := timer
        have delaysChanged : ¬cfg.groupDelays p = s.settings.pins.groupDelays p := changed
        simp only [State.shiftedFilter, running, if_neg delaysChanged]
        rfl
    · have own := filter .powerFail
      rwa [if_neg powerFail_notMem_inputs] at own
    · intro nothing
      have unshifted : shifted = _ := isShifted.trans (State.shiftFilters_nothing _ nothing)
      have keeps : keepsBut (requestBlocks ++ [.settings]) s shifted := by
        rw [unshifted]
        simp [requestBlocks]
      refine ⟨?_, fun same => ?_⟩
      · have judgesKeep : keepsBut (requestBlocks ++ [.settings, .sense, .routes, .trace, .pins]) shifted judged :=
          keepsBut.trans (by simp) (judgedKept.mono (by simp [requestBlocks]))
        have toJudged := (keeps.mono (by simp [requestBlocks])).trans judgesKeep
        exact (State.addReply_keeps (by simp [requestBlocks]) s _ _).mpr
          ((State.putPinCfg_keeps (by simp) s _ cfg).mpr ((State.onSense_keeps (by simp) s judged sense).mpr toJudged))
      · have none (i : SlotNo) : s.turns cfg shifted i = false := by simp [State.turns, same, old]
        have unjudged := isJudged.trans (State.judgesTurned_none none slotNos _)
        have sameSense : sense = judged.sense := by
          refine Vector.ext fun i bound => ?_
          have own := each ⟨i, bound⟩
          rw [none, if_neg (by simp)] at own
          rw [unjudged]
          exact own
        have senseless : judged.onSense sense = judged := by rw [sameSense]; rfl
        rw [senseless, unjudged, unshifted]
        exact ⟨by simp [requestBlocks], rfl⟩

end Sys2Proof.Machine

/-!
PROOFS. A tag match: the record it makes (R5, R80, R81, R124) and the work on the entry of its serial (R121, R125).
-/

namespace Sys2Proof.Machine

open Sys2Proof

/-! ### The record -/

/-- R80 row 3: the state that a match with those causes enters. -/
def enteredState (causes : Causes) (effective : Nat) (policy : RefillPolicy) (volume : Nat) : SlotState :=
  if causes ≠ Causes.none ∧ policy = .grace then (if volume = 0 then .spent else .grace)
  else if causes ≠ Causes.none ∧ policy = .reject then .rejected
  else if 0 < effective then .genuine else .depleted

/-- R5, R80: the record of the slot after a match. -/
def Slot.matchedAs (x : Slot) (causes : Causes) (effective : Nat) (policy : RefillPolicy) (volume : Nat) : Slot :=
  { x with
    state := enteredState causes effective policy volume, remaining := some effective, causes := causes
    grace := if causes ≠ Causes.none ∧ policy = .grace then volume else x.grace, nonce := none, tag := none }

theorem enteredState_ne (causes : Causes) (effective : Nat) (policy : RefillPolicy) (volume : Nat) :
    enteredState causes effective policy volume ≠ .authenticating := by
  unfold enteredState
  repeat' split
  all_goals exact nofun

/-- R81, R5 Note 1: the effective remaining is no more than what the slot stores beside it. -/
theorem Slot.storeRemaining_effective (x : Slot) (fill : Fill) (entry : Option HistoryEntry) :
    x.storeRemaining (effectiveRemaining x fill entry) =
      { x with remaining := some (effectiveRemaining x fill entry) } := by
  have least : minOpt (minOpt (effectiveRemaining x fill entry) x.nominal) x.remaining =
      effectiveRemaining x fill entry := by
    unfold effectiveRemaining
    cases x.nominal <;> cases entry <;> cases x.remaining <;> simp only [minOpt, Option.map_none, Option.map_some] <;> omega
  rw [Slot.storeRemaining, least]

theorem effectiveRemaining_eq (x : Slot) (fill : Fill) (entry : Option HistoryEntry) :
    effectiveRemaining x fill entry =
      min (min fill.remaining (x.nominal.getD fill.remaining))
        (min ((entry.map fun e => e.confirmed - e.drawnSince).getD fill.remaining) (x.remaining.getD fill.remaining)) := by
  unfold effectiveRemaining
  cases x.nominal <;> cases entry <;> cases x.remaining <;>
    simp only [minOpt, Option.map_none, Option.map_some, Option.getD_none, Option.getD_some] <;> omega

theorem Slot.enterGrace_eq (x : Slot) (volume : Nat) :
    x.enterGrace volume = { x with state := if volume = 0 then .spent else .grace, grace := volume } := by
  unfold Slot.enterGrace
  split
  next none => rw [none]
  · rfl

theorem Slot.matched_eq (x : Slot) (causes : Causes) (fill : Fill) (entry : Option HistoryEntry) (policy : RefillPolicy)
    (volume : Nat) :
    Slot.matched { x with causes := causes } (effectiveRemaining x fill entry) policy volume =
      { x with
        state := enteredState causes (effectiveRemaining x fill entry) policy volume
        remaining := some (effectiveRemaining x fill entry), causes := causes
        grace := if causes ≠ Causes.none ∧ policy = .grace then volume else x.grace } := by
  have stored : Slot.storeRemaining { x with causes := causes } (effectiveRemaining x fill entry) =
      { x with causes := causes, remaining := some (effectiveRemaining x fill entry) } :=
    Slot.storeRemaining_effective { x with causes := causes } fill entry
  generalize effectiveRemaining x fill entry = effective at stored ⊢
  unfold Slot.matched
  rw [stored]
  dsimp only
  by_cases none : causes = Causes.none
  · simp [Causes.isEmpty, enteredState, none]
  · have some : Causes.isEmpty causes = false := decide_eq_false none
    rw [some, if_neg (by simp)]
    cases policy with
    | acceptLow => simp [enteredState]
    | grace => simp [enteredState, none, Slot.enterGrace_eq]
    | reject => simp [enteredState, none]

theorem Slot.matched_leaves (x : Slot) (causes : Causes) (fill : Fill) (entry : Option HistoryEntry)
    (policy : RefillPolicy) (volume : Nat) :
    (Slot.matched { x with causes := causes } (effectiveRemaining x fill entry) policy volume).leaveChallenge =
      x.matchedAs causes (effectiveRemaining x fill entry) policy volume := by
  rw [Slot.matched_eq, Slot.leaveChallenge]
  exact if_neg (enteredState_ne causes _ policy volume)

theorem Slot.matchedAs_details {x : Slot} (causes : Causes) (effective : Nat) (policy : RefillPolicy) (volume : Nat)
    (state : x.state = .authenticating) :
    let entered := enteredState causes effective policy volume
    slotDetails x (x.matchedAs causes effective policy volume) none =
      .slot entered .authenticating x.tenure (if entered = .grace ∨ entered = .rejected then some causes else none) none := by
  rw [slotDetails, state]
  rfl

/-! ### The lookup (R114, R120) -/

theorem History.lookup_eq (h : History) (serial : Serial) :
    h.lookup serial = entryNos.find? fun m => decide ((h.entries[m]).map HistoryEntry.serial = some serial) := by
  unfold History.lookup
  congr 1
  funext m
  cases h.entries[m] <;> simp

/-- R115: the entry that moves keeps its serial, and so do the others. -/
theorem State.moveEntry_lookup {s : State} {n : EntryNo} {e : HistoryEntry} (held : s.entry n = some e) (serial : Serial) :
    (s.moveEntry n).history.lookup serial = s.history.lookup serial := by
  have serials (m : EntryNo) :
      ((s.moveEntry n).entry m).map HistoryEntry.serial = (s.entry m).map HistoryEntry.serial := by
    cases was : s.entry m with
    | some f =>
      obtain ⟨k, stays⟩ := s.moveEntry_entryStays n m f was
      rw [stays]
      rfl
    | none =>
      cases after : (s.moveEntry n).entry m with
      | none => rfl
      | some f =>
        have other : m ≠ n := fun same => by simp [← same, was] at held
        obtain ⟨before, some, -⟩ := (s.moveEntry_work n).others m f other after
        cases was.symm.trans some
  rw [History.lookup_eq, History.lookup_eq]
  congr 1
  funext m
  exact congrArg (fun x => decide (x = some serial)) (serials m)

theorem State.entryOf_eq (s : State) (serial : Serial) :
    s.entryOf serial = (s.history.lookup serial).bind s.entry := by
  unfold State.entryOf
  cases s.history.lookup serial <;> rfl

/-- R120: the lookup moves its hit, and leaves the table otherwise. -/
theorem State.lookupMoves_does (s : State) (serial : Serial) :
    let t := s.lookupMoves serial
    keepsBut [.history, .nvm] s t ∧ t.nvm.queuesOn s.nvm ∧
      ((∃ n e k, s.history.lookup serial = some n ∧ s.entry n = some e ∧ t.history.lookup serial = some n ∧
          t.entry n = some { e with stamp := k }) ∨
        s.history.lookup serial = none ∧ t.history.lookup serial = none) := by
  unfold State.lookupMoves
  split
  next miss => exact ⟨by simp, .refl _, .inr ⟨miss, miss⟩⟩
  next n hit =>
    obtain ⟨e, held, -⟩ := History.lookup_serial hit
    obtain ⟨k, moved, -⟩ := State.moveEntry_entry (s := s) held
    exact ⟨by simp, (s.moveEntry_work n).writes,
      .inl ⟨n, e, k, hit, held, (State.moveEntry_lookup held serial).trans hit, moved⟩⟩

/-! ### The outcome (R125) -/

/-- R125: the entry after the outcome update. -/
def HistoryEntry.outcome (e : HistoryEntry) (fill : Fill) (ink : Nat) (refill depleted clears : Bool) : HistoryEntry :=
  { e with
    confirmed := min e.confirmed fill.remaining, writeCount := max e.writeCount fill.writeCount, ink := ink
    depletedMark := e.depletedMark || depleted, refillMark := e.refillMark || refill
    drawnSince := if clears then 0 else e.drawnSince }

theorem State.outcomeUpdate_does (s : State) (i : SlotNo) (serial : Serial) (fill : Fill) (findings : Causes)
    (effective : Nat) :
    let ink := (s.slot i).ink.getD 0
    ∃ u n e k saved, TableWork n s u ∧ s.entryFor serial (reportedEntry serial fill ink) n e ∧
      saved = (decide (0 < e.drawnSince) && (s.slot i).state.supplies) ∧
      s.outcomeUpdate i serial fill findings effective =
        ((u.closeUpdate i n).putSense i { (u.closeUpdate i n).senseOf i with proven := true }, saved) ∧
      u.entry n =
        some { e.outcome fill ink (!findings.isEmpty) (decide (effective = 0)) saved with stamp := k } := by
  intro ink
  obtain ⟨e, held, found⟩ := s.findOrInsert_finds serial (reportedEntry serial fill ink)
  have work := s.findOrInsert_work serial (reportedEntry serial fill ink)
  obtain ⟨p, isFound⟩ : ∃ p, p = s.findOrInsert serial (reportedEntry serial fill ink) := ⟨_, rfl⟩
  rw [← isFound] at held found work
  obtain ⟨t, n⟩ := p
  dsimp only at held found work
  obtain ⟨a, isAbsorbed⟩ : ∃ a, a = t.putEntry n (some (e.absorb fill ink)) := ⟨_, rfl⟩
  obtain ⟨r, isRefill⟩ : ∃ r, r = a.addMarks n false (!findings.isEmpty) := ⟨_, rfl⟩
  obtain ⟨d, isDepleted⟩ : ∃ d, d = r.addMarks n (decide (effective = 0)) false := ⟨_, rfl⟩
  have absorbed : a.entry n = some (e.absorb fill ink) := isAbsorbed ▸ State.putEntry_same t n _
  have refilled := isRefill ▸ State.addMarks_entry absorbed false (!findings.isEmpty)
  have marked := isDepleted ▸ State.addMarks_entry refilled (decide (effective = 0)) false
  have works : TableWork n s d := by
    rw [isDepleted, isRefill, isAbsorbed]
    exact ((work.trans (t.putEntry_work n _)).trans (State.addMarks_work _ n _ _)).trans (State.addMarks_work _ n _ _)
  have state : (d.slot i).state = (s.slot i).state := by
    rcases works.slots i with same | forgotten
    · rw [same]
    · rw [forgotten]
  obtain ⟨saved, isSaved⟩ : ∃ saved, saved = (decide (0 < e.drawnSince) && (s.slot i).state.supplies) := ⟨_, rfl⟩
  have cleared : ∃ c, c = (if saved = true then d.clearDrawnSince n else d) ∧ TableWork n d c ∧
      ∃ k, c.entry n = some { e.outcome fill ink (!findings.isEmpty) (decide (effective = 0)) saved with stamp := k } := by
    cases saved with
    | false =>
      refine ⟨d, rfl, .refl n d, e.stamp, marked.trans ?_⟩
      simp [HistoryEntry.marked, HistoryEntry.absorb, HistoryEntry.outcome]
    | true =>
      have clears : d.clearDrawnSince n = d.putEntry n (some
          { ((e.absorb fill ink).marked false (!findings.isEmpty)).marked (decide (effective = 0)) false with
            drawnSince := 0 }) := by
        simp only [State.clearDrawnSince, marked]
      rw [if_pos rfl, clears]
      refine ⟨_, rfl, State.putEntry_work d n _, e.stamp, (State.putEntry_same d n _).trans ?_⟩
      simp [HistoryEntry.marked, HistoryEntry.absorb, HistoryEntry.outcome]
  obtain ⟨c, isCleared, clears, k, entry⟩ := cleared
  obtain ⟨k', moved, -⟩ := State.moveEntry_entry entry
  refine ⟨c.moveEntry n, n, e, k', saved, (works.trans clears).trans (State.moveEntry_work c n), found, isSaved, ?_, moved⟩
  have isSaved' : ((d.entry n).any (fun e => decide (0 < e.drawnSince)) && (d.slot i).state.supplies) = saved := by
    rw [marked, state, isSaved]
    rfl
  unfold State.outcomeUpdate
  dsimp only
  rw [← isFound]
  dsimp only
  rw [held]
  dsimp only
  have isInk : (s.slot i).ink.getD 0 = ink := rfl
  simp only [isInk, ← isAbsorbed, ← isRefill, ← isDepleted, isSaved', ← isCleared]

end Sys2Proof.Machine

/-!
PROOFS. A tag match as a whole (R80 row 3, R82): the notices, the move, the outcome and the checkpoint.
-/

namespace Sys2Proof.Machine

open Sys2Proof

theorem alike.handedOn {s u : State} (h : alike s u) (i : SlotNo) (z : Slot) : alike (s.handedOn i z) (u.handedOn i z) := by
  rw [State.handedOn_eq, State.handedOn_eq]
  exact ((h.stepOn i rfl).stepOn i rfl).stepOn i rfl

section
variable (s : State) (i : SlotNo) (serial : Serial) (fill : Fill)

/-- R121, R122: the findings of the match. -/
def State.matchFindings : Causes := findingsOf fill ((s.slot i).nominal.getD 0) (s.entryOf serial)

/-- R81: its effective remaining. -/
def State.matchEffective : Nat := effectiveRemaining (s.slot i) fill (s.entryOf serial)

/-- R9, R122: the causes the slot then holds. -/
def State.matchCauses : Causes := (s.slot i).causes.union (s.matchFindings i serial fill)

/-- R80 row 3: its record. -/
def State.matchRecord : Slot :=
  (s.slot i).matchedAs (s.matchCauses i serial fill) (s.matchEffective i serial fill) s.policy.refill s.policy.graceVolume

/-- R5: the record as it goes into the move. -/
def State.matchedRecord : Slot :=
  Slot.matched { s.slot i with causes := s.matchCauses i serial fill } (s.matchEffective i serial fill) s.policy.refill
    s.policy.graceVolume

theorem State.matchedRecord_leaves :
    (s.matchedRecord i serial fill).leaveChallenge = s.matchRecord i serial fill :=
  Slot.matched_leaves ..

theorem State.matchedRecord_state : (s.matchedRecord i serial fill).state = (s.matchRecord i serial fill).state := by
  rw [State.matchedRecord, State.matchEffective, Slot.matched_eq]
  rfl

/-- R122: the notices after the REFILL notice, if there is one. -/
def State.matchFound : NoticeUnit :=
  if s.matchFindings i serial fill = Causes.none then s.notices
  else
    s.notices.take s.settings.mask[NoticeKind.refill.position] .refill (.slot i)
      (.refill serial (s.matchFindings i serial fill) s.policy.refill (s.matchRecord i serial fill).state fill.remaining
        fill.writeCount ((s.entryOf serial).map fun e => (e.confirmed, e.writeCount)))

/-- R82, steps 1 to 3: the lookup moves, the REFILL notice is raised. -/
def State.matchRaises : State :=
  let t := s.lookupMoves serial
  if (s.matchFindings i serial fill).isEmpty then t
  else
    t.raise .refill (.slot i)
      (.refill serial (s.matchFindings i serial fill) s.policy.refill (s.matchedRecord i serial fill).state fill.remaining
        fill.writeCount ((s.entryOf serial).map fun e => (e.confirmed, e.writeCount)))

/-- R82: the slot moves. -/
def State.matchMoves : State :=
  (s.matchRaises i serial fill).moveSlot i (s.matchedRecord i serial fill) none

/-- R125: the outcome update, and whether drawn-since is handed to a checkpoint. -/
def State.matchUpdates : State × Bool :=
  (s.matchMoves i serial fill).outcomeUpdate i serial fill (s.matchFindings i serial fill) (s.matchEffective i serial fill)

theorem State.tagMatched_eq :
    s.tagMatched i serial fill =
      if ((s.matchUpdates i serial fill).2 ||
          (decide ((s.matchRecord i serial fill).state = .depleted) &&
            ((s.matchUpdates i serial fill).1.slot i).depletionCounts)) = true then
        (s.matchUpdates i serial fill).1.placeCheckpoint i
      else (s.matchUpdates i serial fill).1 := by
  rw [← s.matchedRecord_state]
  simp only [State.tagMatched, State.matchUpdates, State.matchMoves, State.matchRaises, State.matchedRecord,
    State.matchCauses, State.matchEffective, State.matchFindings]
  congr

/-! ### The lookup and the REFILL notice -/

theorem State.matchRaises_does :
    let u := s.matchRaises i serial fill
    keepsBut [.history, .nvm, .notices] s u ∧ u.history = (s.lookupMoves serial).history ∧ u.nvm.queuesOn s.nvm ∧
      u.notices = s.matchFound i serial fill := by
  intro u
  obtain ⟨moves, writes, -⟩ := s.lookupMoves_does serial
  have settings : (s.lookupMoves serial).settings = s.settings := moves.2.2 .settings (by decide)
  have notices : (s.lookupMoves serial).notices = s.notices := moves.2.2 .notices (by decide)
  have shape : u = s.matchRaises i serial fill := rfl
  unfold State.matchRaises at shape
  dsimp only at shape
  rw [s.matchedRecord_state] at shape
  unfold State.matchFound
  generalize s.lookupMoves serial = t at shape moves writes settings notices ⊢
  by_cases none : s.matchFindings i serial fill = Causes.none
  · rw [if_pos (by simpa [Causes.isEmpty] using none)] at shape
    rw [shape, if_pos none]
    exact ⟨moves.mono (by simp), rfl, writes, notices⟩
  · rw [if_neg (by simpa [Causes.isEmpty] using none)] at shape
    rw [shape, if_neg none]
    refine ⟨by simpa using moves.mono (by simp), rfl, writes, ?_⟩
    rw [State.raise, settings, notices]

/-! ### The move -/

theorem State.matchMoves_does (state : (s.slot i).state = .authenticating) :
    let z := s.matchRecord i serial fill
    let u := s.matchMoves i serial fill
    keepsBut [.history, .nvm, .notices, .slots, .routes, .trace, .pins] s u ∧
      u.history = (s.lookupMoves serial).history ∧ u.nvm.queuesOn s.nvm ∧
      u.slot i = (z.compared .w0).compared .w1 ∧ otherSlots i s u ∧ sameRouting (s.handedOn i z) u ∧
      noticesWere [.refill, .slot, .watch] (z.firings i)
        ((s.matchFound i serial fill).take s.settings.mask[NoticeKind.slot.position] .slot (.slot i)
          (.slot z.state .authenticating (s.slot i).tenure
            (if z.state = .grace ∨ z.state = .rejected then some (s.matchCauses i serial fill) else none) none)) u := by
  intro z u
  obtain ⟨raises, history, writes, notices⟩ := s.matchRaises_does i serial fill
  have shape : u = (s.matchRaises i serial fill).moveSlot i (s.matchedRecord i serial fill) none := rfl
  have leaves : (s.matchedRecord i serial fill).leaveChallenge = z := s.matchedRecord_leaves i serial fill
  generalize s.matchedRecord i serial fill = y at shape leaves
  generalize s.matchRaises i serial fill = r at raises history writes notices shape
  have slot : r.slot i = s.slot i := State.slot_of_slots (raises.2.2 .slots (by decide)) i
  obtain ⟨own, routing, told⟩ := r.moveSlot_handsOn i y none (kinds := [.refill, .slot, .watch]) (by decide) (by decide)
    (by decide)
  have supplies : ((r.slot i).state.supplies && !y.leaveChallenge.state.supplies) = false := by rw [slot, state]; rfl
  have moved : keepsBut [.slots, .routes, .pins, .trace, .notices] r u :=
    shape ▸ r.moveSlot_keepsLines (by simp) i y none supplies
  have others : otherSlots i r u := shape ▸ r.moveSlot_otherSlots i y none
  rw [leaves, ← shape] at own routing told
  have details : slotDetails (r.slot i) z none = .slot z.state .authenticating (s.slot i).tenure
      (if z.state = .grace ∨ z.state = .rejected then some (s.matchCauses i serial fill) else none) none := by
    rw [slot]
    exact Slot.matchedAs_details _ _ _ _ state
  refine ⟨(raises.mono (by simp)).trans (moved.mono (by simp)), (moved.2.2 .history (by decide)).trans history, ?_, own,
    (otherSlots.of_slots (raises.2.2 .slots (by decide))).trans others, ?_, ?_⟩
  · rwa [show u.nvm = r.nvm from moved.2.2 .nvm (by decide)]
  · obtain ⟨routes, trace, pins⟩ := ((alike.of_sameRead (raises.sameRead (by decide))).handedOn i z).sameRouting
    obtain ⟨routes', trace', pins'⟩ := routing
    exact ⟨routes'.trans routes, trace'.trans trace, pins'.trans pins⟩
  · rw [details] at told
    have raised : (r.raise .slot (.slot i) (.slot z.state .authenticating (s.slot i).tenure
        (if z.state = .grace ∨ z.state = .rejected then some (s.matchCauses i serial fill) else none) none)).notices =
          (s.matchFound i serial fill).take s.settings.mask[NoticeKind.slot.position] .slot (.slot i)
            (.slot z.state .authenticating (s.slot i).tenure
              (if z.state = .grace ∨ z.state = .rejected then some (s.matchCauses i serial fill) else none) none) := by
      rw [State.raise, notices, show r.settings = s.settings from raises.2.2 .settings (by decide)]
    rwa [raised] at told

end

end Sys2Proof.Machine

/-!
PROOFS. A tag match as a whole (R80 row 3, R82, R125): the outcome, the checkpoint, and the pass that ends.
-/

namespace Sys2Proof.Machine

open Sys2Proof

section
variable (s : State) (i : SlotNo) (serial : Serial) (fill : Fill)

/-- R125, step 4: the entry's drawn-since goes to a checkpoint. -/
def State.matchSaves : Bool :=
  ((s.entryOf serial).any fun e => decide (0 < e.drawnSince)) && (s.matchRecord i serial fill).state.supplies

/-- R125: the entry after the match, from the one found, or from what is reported. -/
def State.matchEntry : HistoryEntry :=
  ((s.entryOf serial).getD (reportedEntry serial fill ((s.slot i).ink.getD 0))).outcome fill ((s.slot i).ink.getD 0)
    (!(s.matchFindings i serial fill).isEmpty) (decide (s.matchEffective i serial fill = 0)) (s.matchSaves i serial fill)

/-- R114, R120: the lookup that moved its hit finds it again. -/
theorem State.lookupMoves_entryFor {u : State} (history : u.history = (s.lookupMoves serial).history)
    {fresh : HistoryEntry} {n : EntryNo} {e : HistoryEntry} (found : u.entryFor serial fresh n e) :
    ∃ k, e = { (s.entryOf serial).getD fresh with stamp := k } := by
  obtain ⟨-, -, same⟩ := s.lookupMoves_does serial
  rw [s.entryOf_eq serial]
  rw [State.entryFor, history, State.entry_of_history history] at found
  rcases same with ⟨m, f, k, hit, held, hit', held'⟩ | ⟨miss, miss'⟩
  · have before : (s.history.lookup serial).bind s.entry = some f := by rw [hit]; exact held
    rcases found with ⟨again, entry⟩ | ⟨none, -⟩
    · obtain rfl : m = n := Option.some.inj (hit'.symm.trans again)
      have moved : e = { f with stamp := k } := Option.some.inj (entry.symm.trans held')
      exact ⟨k, by rw [before]; exact moved⟩
    · cases hit'.symm.trans none
  · have before : (s.history.lookup serial).bind s.entry = none := by rw [miss]; rfl
    rcases found with ⟨hit, -⟩ | ⟨-, k, fresh⟩
    · cases miss'.symm.trans hit
    · exact ⟨k, by rw [before]; exact fresh⟩

/-! ### The outcome update -/

theorem State.matchUpdates_does (state : (s.slot i).state = .authenticating) :
    let z := s.matchRecord i serial fill
    let u := (s.matchUpdates i serial fill).1
    (s.matchUpdates i serial fill).2 = s.matchSaves i serial fill ∧
      keepsBut [.history, .nvm, .notices, .slots, .routes, .trace, .pins, .sense] s u ∧ u.nvm.queuesOn s.nvm ∧
      u.slot i = ((z.compared .w0).compared .w1).indexed (u.slot i).historyIndex ∧
      (∀ j : SlotNo, j ≠ i → u.slot j = s.slot j ∨ u.slot j = { s.slot j with historyIndex := none }) ∧
      (u.senseOf i).proven = true ∧ sameRouting (s.handedOn i z) u ∧
      noticesWere [.refill, .slot, .watch] (z.firings i)
        ((s.matchFound i serial fill).take s.settings.mask[NoticeKind.slot.position] .slot (.slot i)
          (.slot z.state .authenticating (s.slot i).tenure
            (if z.state = .grace ∨ z.state = .rejected then some (s.matchCauses i serial fill) else none) none)) u ∧
      ∃ n k, (u.slot i).historyIndex = some n ∧ u.entry n = some { s.matchEntry i serial fill with stamp := k } := by
  intro z u
  obtain ⟨moves, history, writes, own, others, routing, told⟩ := s.matchMoves_does i serial fill state
  have isUpdated : u = (s.matchUpdates i serial fill).1 := rfl
  rw [State.matchUpdates] at isUpdated ⊢
  generalize s.matchMoves i serial fill = m at moves history writes own others routing told isUpdated ⊢
  obtain ⟨w0, w1, held, shape⟩ := z.bothCompared_shape
  have ink : (m.slot i).ink = (s.slot i).ink := by rw [own, shape]; rfl
  have supplies : (m.slot i).state = z.state := by rw [own, shape]
  obtain ⟨v, n, e, k, saved, work, found, isSaved, result, entry⟩ :=
    m.outcomeUpdate_does i serial fill (s.matchFindings i serial fill) (s.matchEffective i serial fill)
  rw [result] at isUpdated ⊢
  rw [ink] at found entry
  obtain ⟨k', isEntry⟩ := s.lookupMoves_entryFor serial history found
  have saves : saved = s.matchSaves i serial fill := by
    rw [isSaved, supplies, isEntry, State.matchSaves]
    cases s.entryOf serial <;> rfl
  obtain ⟨c, isClosed⟩ : ∃ c, c = v.closeUpdate i n := ⟨_, rfl⟩
  rw [← isClosed] at isUpdated
  have closes : keepsBut [.slots, .nvm] v c := by rw [isClosed]; simp [State.closeUpdate]
  have after : keepsBut [.sense] c u := by rw [isUpdated]; simp
  have worked : keepsBut [.history, .nvm, .notices, .slots] m c :=
    (work.kept.mono (by simp)).trans (closes.mono (by simp))
  have slots : u.slots = c.slots := after.2.2 .slots (by decide)
  have slot (j : SlotNo) : u.slot j = c.slot j := State.slot_of_slots slots j
  have closed : c.slot i = (v.slot i).indexed (some n) := isClosed ▸ v.closeUpdate_slot i n
  refine ⟨saves, ((moves.mono (by simp)).trans (worked.mono (by simp))).trans (after.mono (by simp)), ?_, ?_,
    fun j other => ?_, ?_, ?_, ?_, n, k, ?_, ?_⟩
  · rw [show u.nvm = c.nvm from after.2.2 .nvm (by decide), isClosed]
    exact writes.trans (work.writes.trans (Nvm.enqueue_queuesOn _ _))
  · rw [slot, closed]
    rcases work.slots i with same | forgotten
    · rw [same, own]
      rfl
    · rw [forgotten, own]
      rfl
  · rw [slot, isClosed, v.closeUpdate_otherSlots i n j other, ← others j other]
    exact work.slots j
  · rw [isUpdated, State.putSense_same]
  · obtain ⟨routes, trace, pins⟩ := routing
    have routed : keepsBut [.history, .nvm, .notices, .slots, .sense] m u := (worked.mono (by simp)).trans (after.mono (by simp))
    exact ⟨(routed.2.2 .routes (by decide)).trans routes, (routed.2.2 .trace (by decide)).trans trace,
      (routed.2.2 .pins (by decide)).trans pins⟩
  · have closing : noticesWere [.refill, .slot, .watch] [] v.notices u := State.noticesWere_nil _
      ((after.2.2 .notices (by decide)).trans (closes.2.2 .notices (by decide)))
    have all := (told.append (work.told _ (by decide)) (work.kept.2.2 .settings (by decide))).append closing
      ((after.2.2 .settings (by decide)).trans (closes.2.2 .settings (by decide)))
    rwa [List.append_nil, List.append_nil] at all
  · rw [slot, closed]
    rfl
  · rw [State.entry_of_history (after.2.2 .history (by decide)), isClosed, v.closeUpdate_entry, entry, isEntry, saves]
    rfl

/-! ### The checkpoint (R23, R82) -/

/-- R82, step 4: the checkpoint that the match makes due. -/
def State.matchMakesDue : Bool :=
  s.matchSaves i serial fill ||
    (decide ((s.matchRecord i serial fill).state = .depleted) && (s.matchRecord i serial fill).depletionCounts)

theorem State.tagMatched_places (state : (s.slot i).state = .authenticating) :
    let z := s.matchRecord i serial fill
    let u := (s.matchUpdates i serial fill).1
    let t := s.tagMatched i serial fill
    keepsBut [.lines, .digest] u t ∧
      CheckpointPlaced (s.matchMakesDue i serial fill) (s.line i) s.digest z (s.digestWithWriteTag s.digest i z) (t.line i)
        t.digest := by
  intro z u t
  obtain ⟨saves, kept, writes, own, -⟩ := s.matchUpdates_does i serial fill state
  have shape : t = _ := s.tagMatched_eq i serial fill
  have isUpdated : u = (s.matchUpdates i serial fill).1 := rfl
  have depletion : (u.slot i).depletionCounts = z.depletionCounts := by
    obtain ⟨w0, w1, held, compared⟩ := z.bothCompared_shape
    rw [own, compared]
    rfl
  rw [saves, ← isUpdated, depletion] at shape
  have placed := u.placeCheckpoint_if i (s.matchMakesDue i serial fill)
  have same : t = if s.matchMakesDue i serial fill = true then u.placeCheckpoint i else u := shape
  have line : u.line i = s.line i := State.line_of_lines (kept.2.2 .lines (by decide)) i
  have digest : u.digest = s.digest := kept.2.2 .digest (by decide)
  rw [← same, line, digest, own, State.digestWithWriteTag_compared writes] at placed
  obtain ⟨notDue, pends, begins, asked, busy⟩ := placed
  refine ⟨?_, notDue, pends, fun takes => ?_, asked, busy⟩
  · rw [same]
    split <;> simp
  · rw [begins takes, LineCtl.checkpointing_compared]

end

end Sys2Proof.Machine

/-!
PROOFS. DIGEST_PASS_COMPLETE of an EXPECT pass whose tag matches (R80 row 3).
-/

namespace Sys2Proof.Machine

open Sys2Proof

theorem Option.any_eq_decide {α : Type} (o : Option α) (test : α → Bool) :
    o.any test = decide (∃ a, a ∈ o ∧ test a = true) := by
  cases o <;> simp

/-- R121, R122: the findings, each by an entry that is found. -/
theorem findingsOf_eq (fill : Fill) (nominal : Nat) (entry : Option HistoryEntry) :
    findingsOf fill nominal entry =
      { rollback := decide (∃ e ∈ entry, fill.writeCount < e.writeCount)
        depletedReturn := decide (∃ e ∈ entry, e.depletedMark = true ∧ 0 < fill.remaining)
        levelRise := decide (∃ e ∈ entry, e.confirmed < fill.remaining)
        markConflict := decide (fill.mark = true ∧ 0 < fill.remaining)
        overNominal := decide (nominal < fill.remaining)
        levelSenseRise := false } := by
  cases entry <;> simp [findingsOf]

theorem State.expectDelivered_matches {s : State} {i : SlotNo} {tag : Tag} {k : DerivedKey} {serial : Serial} {fill : Fill}
    (ink : (s.slot i).ink ≠ some 0) (agrees : (s.slot i).tag = some tag) (key : (s.slot i).derivedKey = some k)
    (good : k.void = false) (serialOf : (s.slot i).serial = some serial) (reported : (s.slot i).reported = some fill) :
    s.expectDelivered i tag = s.tagMatched i serial fill := by
  have accepted : ¬((s.slot i).ink = some 0 ∨ (s.slot i).tag ≠ some tag ∨
      ((s.slot i).derivedKey.map DerivedKey.void).getD true = true) := by
    simp [ink, agrees, key, good]
  refine (if_neg accepted).trans ?_
  rw [serialOf, reported]

/-- R23: depletion is due but for a cartridge that already says so. -/
theorem Slot.depletionCounts_iff {x : Slot} {fill : Fill} (reported : x.reported = some fill) :
    x.depletionCounts = true ↔ ¬(x.writtenRemaining = some 0 ∧ fill.mark = true) := by
  rw [Slot.depletionCounts, reported]
  simp [imp_iff_not_or]

/-- R125: the entry after the match, field by field. -/
theorem State.matchEntry_fields (s : State) (i : SlotNo) (serial : Serial) (fill : Fill) :
    let entry := s.entryOf serial
    let e := s.matchEntry i serial fill
    (∀ f ∈ entry, f.serial = serial) →
    e.serial = serial ∧ e.ink = (s.slot i).ink.getD 0 ∧
      e.confirmed = ((entry.map fun e => min e.confirmed fill.remaining).getD fill.remaining) ∧
      e.writeCount = ((entry.map fun e => max e.writeCount fill.writeCount).getD fill.writeCount) ∧
      e.refillMark =
        (decide (∃ e ∈ entry, e.refillMark = true) || decide (s.matchFindings i serial fill ≠ Causes.none)) ∧
      e.depletedMark = (decide (∃ e ∈ entry, e.depletedMark = true) || decide (s.matchEffective i serial fill = 0)) ∧
      e.drawnSince =
        (if s.matchSaves i serial fill = true then 0 else (entry.map HistoryEntry.drawnSince).getD 0) := by
  intro entry e serials
  have shape : e = (entry.getD (reportedEntry serial fill ((s.slot i).ink.getD 0))).outcome fill ((s.slot i).ink.getD 0)
    (!(s.matchFindings i serial fill).isEmpty) (decide (s.matchEffective i serial fill = 0))
    (s.matchSaves i serial fill) := rfl
  clear_value e entry
  rw [shape]
  cases entry with
  | none => simp [HistoryEntry.outcome, reportedEntry, Causes.isEmpty]
  | some f => simp [HistoryEntry.outcome, Causes.isEmpty, serials f rfl]

/-- Settles O59: by the record the match makes, its outcome and its checkpoint. -/
theorem tagMatchMakesTheSlotGenuine : Obligations.TagMatchMakesTheSlotGenuine := by
  intro s p i k serial fill on flies requester kind stays x l tenure state ink tag key good serialOf reported
    entry findings causes effective graced entered saved due z found
  have isEntry : s.entryOf serial = entry := s.entryOf_eq serial
  have isFindings : s.matchFindings i serial fill = findings := by
    rw [State.matchFindings, isEntry, findingsOf_eq]
  have isEffective : s.matchEffective i serial fill = effective := by
    rw [State.matchEffective, effectiveRemaining_eq, isEntry]
  have isCauses : s.matchCauses i serial fill = causes := by rw [State.matchCauses, isFindings]
  have isRecord : s.matchRecord i serial fill = z := by
    rw [State.matchRecord, isCauses, isEffective]
    rfl
  have isFound : s.matchFound i serial fill = found := by
    rw [State.matchFound, isFindings, isRecord, isEntry]
  have isSaved : s.matchSaves i serial fill = true ↔ saved := by
    rw [State.matchSaves, isEntry, isRecord, Option.any_eq_decide]
    simp [saved, z]
  have isDue : s.matchMakesDue i serial fill = true ↔ due := by
    have counts := Slot.depletionCounts_iff (x := z) reported
    rw [State.matchMakesDue, isRecord, Bool.or_eq_true, isSaved, Bool.and_eq_true, counts, decide_eq_true_eq]
  have delivered : s.deliver p = s.tagMatched i serial fill := by
    rw [State.deliver_expect requester kind, if_pos (State.takesChallenge_iff.mpr ⟨stays, tenure, state⟩),
      State.expectDelivered_matches ink tag key good serialOf reported]
  obtain ⟨-, kept, writes, own, others, proven, routing, told, n, stamp, index, record⟩ :=
    s.matchUpdates_does i serial fill state
  obtain ⟨places, notDue, pends, begins, asked, -⟩ := s.tagMatched_places i serial fill state
  have completes : exec .digestPassComplete s = .next (s.tagMatched i serial fill).passEnds := by
    rw [exec_digestPassComplete on flies, delivered]
  rw [isRecord] at own routing told begins asked
  rw [isFound, isCauses] at told
  have toPlaced : keepsBut [.lines, .digest] (s.matchUpdates i serial fill).1 (s.tagMatched i serial fill).passEnds :=
    places.trans ((State.passEnds_keeps _).mono (by simp))
  have slot (j : SlotNo) := State.slot_of_slots (toPlaced.2.2 .slots (by decide)) j
  have line := State.line_of_lines ((State.passEnds_keeps (s.tagMatched i serial fill)).2.2 .lines (by decide)) i
  have nvm : (s.tagMatched i serial fill).nvm = (s.matchUpdates i serial fill).1.nvm := places.2.2 .nvm (by decide)
  obtain ⟨w0, w1, held, compared⟩ := z.bothCompared_shape
  refine ⟨_, ⟨completes, (kept.mono (by simp)).trans (toPlaced.mono (by simp))⟩, ?_, fun j other => ?_, ?_, ?_, ?_, ?_, ?_,
    fun no => ?_, fun yes busy => ?_, fun yes idle probe challenge => ?_⟩
  · rw [slot]
    exact own
  · rw [slot]
    exact others j other
  · exact (congrArg (fun sense : Vector Sense 16 => (sense[i]).proven) (toPlaced.2.2 .sense (by decide))).trans proven
  · obtain ⟨routes, trace, pins⟩ := routing
    exact ⟨(toPlaced.2.2 .routes (by decide)).trans routes, (toPlaced.2.2 .trace (by decide)).trans trace,
      (toPlaced.2.2 .pins (by decide)).trans pins⟩
  · have ends := told.append (State.noticesWere_nil _ (toPlaced.2.2 .notices (by decide)))
      (toPlaced.2.2 .settings (by decide))
    rwa [List.append_nil] at ends
  · obtain ⟨identity, rootGood⟩ := writes.rootKey
    rw [State.passEnds]
    dsimp only
    have begun : (s.matchMakesDue i serial fill && (s.line i).takesCheckpoint) = true ↔ due ∧ l.takesCheckpoint = true := by
      rw [Bool.and_eq_true, isDue]
    rw [asked, nvm, identity, rootGood, if_congr begun rfl rfl]
  · refine ⟨n, _, by rw [slot]; exact index,
      (State.entry_of_history (toPlaced.2.2 .history (by decide)) n).trans record, ?_⟩
    have serials : ∀ f ∈ s.entryOf serial, f.serial = serial := by
      intro f held
      rw [s.entryOf_eq serial] at held
      obtain ⟨m, hit, held⟩ := Option.bind_eq_some_iff.mp held
      obtain ⟨g, own, serialG⟩ := History.lookup_serial hit
      cases held.symm.trans own
      exact serialG
    have fields := s.matchEntry_fields i serial fill serials
    rw [isEntry, isFindings, isEffective, if_congr isSaved rfl rfl] at fields
    exact fields
  · rw [line]
    exact notDue (Bool.eq_false_iff.mpr (mt isDue.mp no))
  · rw [line]
    exact pends (isDue.mpr yes) busy
  · have takes : (s.matchMakesDue i serial fill && (s.line i).takesCheckpoint) = true := by
      have isIdle : (s.line i).state = .idle := idle
      have noProbe : (s.line i).pendProbe = none := probe
      have noChallenge : (s.line i).pendChallenge = none := challenge
      simp [isDue.mpr yes, LineCtl.takesCheckpoint, isIdle, noProbe, noChallenge]
    rw [line, begins takes, slot, own, compared]
    rfl

end Sys2Proof.Machine

/-!
PROOFS. POWER_LOSS (R183, R185, R192).
-/

namespace Sys2Proof.Machine

open Sys2Proof

/-- R183, R185: what a torn write leaves of its record. -/
theorem Stored.tear_torn {α : Type} (r : Stored α) (x : α) (torn : Torn) : TornTo torn r x (r.tear x torn) := by
  cases torn <;> rfl

/-- R173: every filter at its start-up state, with the pin's level. -/
theorem State.cold_filter {s t : State} (pins : t.pins = s.pins.cold) (p : Pin) :
    t.filter p = Filter.cold (s.filter p).raw := by
  cases p <;> simp [State.filter, pins, Pins.cold, Filter.restart]

/-- R185, R183: the record that a torn write names, and no other. -/
theorem Store.tear_does (m : Store) (torn : Torn) (w : RecordWrite) :
    let new := m.tear torn w
    match w with
    | .identity x => new = { m with identity := new.identity } ∧ TornTo torn m.identity x new.identity
    | .settings x => new = { m with settings := new.settings } ∧ TornTo torn m.settings x new.settings
    | .history n x =>
      new = { m with history := m.history.set n new.history[n] } ∧ TornTo torn m.history[n] x new.history[n]
    | .waste x => new = { m with waste := new.waste } ∧ TornTo torn m.waste x new.waste
    | .cleanMark x => new = { m with cleanMark := new.cleanMark } ∧ TornTo torn m.cleanMark x new.cleanMark := by
  intro new
  cases w with
  | identity x => exact ⟨rfl, m.identity.tear_torn x torn⟩
  | settings x => exact ⟨rfl, m.settings.tear_torn x torn⟩
  | history n x =>
    have own : new.history[n] = m.history[n].tear x torn := Vector.getElem_set_self n.isLt
    dsimp only
    rw [own]
    exact ⟨rfl, m.history[n].tear_torn x torn⟩
  | waste x => exact ⟨rfl, m.waste.tear_torn x torn⟩
  | cleanMark x => exact ⟨rfl, m.cleanMark.tear_torn x torn⟩

/-- R192: the part without power. -/
theorem State.losesPower_keeps (s : State) (torn : Torn) :
    keepsBut [.draws, .pins, .nvm] { State.manufactured with pending := s.pending } (s.losesPower torn) := by
  simp [keepsBut_iff, State.losesPower, State.manufactured]

/-- R183, R185: what a loss of power leaves of the store. -/
theorem Nvm.storeAfterLoss_eq (m : Nvm) (torn : Torn) :
    (m.inProgress = none → m.storeAfterLoss torn = m.store) ∧
      ∀ w timing, m.inProgress = some (w, timing) → m.storeAfterLoss torn = m.store.tear torn w := by
  refine ⟨fun none => ?_, fun w timing begun => ?_⟩
  · rw [Nvm.storeAfterLoss, none]
  · rw [Nvm.storeAfterLoss, begun]

end Sys2Proof.Machine

/-!
PROOFS. The history that a start-up loads (R119): the least recent locked entries go until 56 remain.
-/

namespace Sys2Proof.Machine

open Sys2Proof

/-! ### Recency -/

theorem lessRecent_iff {a b : HistoryEntry} {i j : EntryNo} :
    lessRecent a i b j = true ↔ a.stamp < b.stamp ∨ a.stamp = b.stamp ∧ i < j := by
  simp [lessRecent]

theorem lessRecent_trans {a b c : HistoryEntry} {i j k : EntryNo} (h : lessRecent a i b j = true)
    (l : lessRecent b j c k = true) : lessRecent a i c k = true := by
  simp only [lessRecent_iff, Fin.lt_def] at h l ⊢
  omega

theorem lessRecent_total {a b : HistoryEntry} {i j : EntryNo} (other : i ≠ j) (h : lessRecent a i b j ≠ true) :
    lessRecent b j a i = true := by
  simp only [Ne, lessRecent_iff, Fin.lt_def, Fin.ext_iff] at h other ⊢
  omega

/-- The least recent entry among those seen that pass a test, or that none of them does. -/
structure History.LeastSeen (h : History) (test : HistoryEntry → Bool) (seen : List EntryNo) (best : Option EntryNo) :
    Prop where
  found : ∀ n ∈ best, ∃ e, h.entries[n] = some e ∧ test e = true ∧
    ∀ m ∈ seen, ∀ f, h.entries[m] = some f → test f = true → m = n ∨ lessRecent e n f m = true
  missed : best = none → ∀ m ∈ seen, ∀ f, h.entries[m] = some f → test f = false

theorem History.LeastSeen.older {h : History} {test : HistoryEntry → Bool} {seen : List EntryNo} {best : Option EntryNo}
    (least : h.LeastSeen test seen best) (n : EntryNo) : h.LeastSeen test (seen ++ [n]) (h.older test best n) := by
  obtain ⟨found, missed⟩ := least
  have cases_ {p : EntryNo → Prop} (old : ∀ m ∈ seen, p m) (own : p n) : ∀ m ∈ seen ++ [n], p m := by
    intro m mem
    rcases List.mem_append.mp mem with before | here
    · exact old m before
    · exact List.mem_singleton.mp here ▸ own
  cases held : h.entries[n] with
  | none =>
    have stays : h.older test best n = best := by simp only [History.older, held]
    rw [stays]
    refine ⟨fun b isBest => ?_, fun none => cases_ (missed none) fun f own => by simp [held] at own⟩
    obtain ⟨e, entry, passes, before⟩ := found b isBest
    exact ⟨e, entry, passes, cases_ before fun f own => by simp [held] at own⟩
  | some e =>
    by_cases passes : test e = true
    · have chosen (before : ∀ m ∈ seen, ∀ f, h.entries[m] = some f → test f = true → m = n ∨ lessRecent e n f m = true) :
          h.LeastSeen test (seen ++ [n]) (some n) :=
        ⟨fun b isBest => by
          obtain rfl := Option.some.inj isBest
          exact ⟨e, held, passes, cases_ before fun _ _ _ => .inl rfl⟩, nofun⟩
      cases best with
      | none =>
        have first : h.older test none n = some n := by simp [History.older, held, passes]
        rw [first]
        exact chosen fun m mem f own passed => absurd passed (by simp [missed rfl m mem f own])
      | some b =>
        obtain ⟨be, entry, passesB, before⟩ := found b rfl
        by_cases less : lessRecent e n be b = true
        · have takes : h.older test (some b) n = some n := by simp [History.older, held, passes, entry, less]
          rw [takes]
          refine chosen fun m mem f own passed => ?_
          rcases before m mem f own passed with rfl | later
          · rw [entry] at own
            exact .inr (Option.some.inj own ▸ less)
          · exact .inr (lessRecent_trans less later)
        · have stays : h.older test (some b) n = some b := by simp [History.older, held, passes, entry, less]
          rw [stays]
          refine ⟨fun c isBest => ?_, nofun⟩
          obtain rfl := Option.some.inj isBest
          refine ⟨be, entry, passesB, cases_ before fun f own _ => ?_⟩
          by_cases same : n = b
          · exact .inl same
          · rw [held] at own
            exact .inr (Option.some.inj own ▸ lessRecent_total same less)
    · have stays : h.older test best n = best := by simp [History.older, held, passes]
      have fails : ∀ f, h.entries[n] = some f → test f = false := fun f own => by
        rw [held] at own
        exact Option.some.inj own ▸ Bool.eq_false_iff.mpr passes
      rw [stays]
      refine ⟨fun b isBest => ?_, fun none => cases_ (missed none) fails⟩
      obtain ⟨be, entry, passesB, before⟩ := found b isBest
      exact ⟨be, entry, passesB, cases_ before fun f own passed => absurd passed (by simp [fails f own])⟩

/-- R117, R119: the least recent entry that passes a test. -/
theorem History.leastRecent_least (h : History) (test : HistoryEntry → Bool) :
    h.LeastSeen test entryNos (h.leastRecent test) := by
  have all (ns seen : List EntryNo) (best : Option EntryNo) (least : h.LeastSeen test seen best) :
      h.LeastSeen test (seen ++ ns) (ns.foldl (h.older test) best) := by
    induction ns generalizing seen best with
    | nil => simpa using least
    | cons n ns ih => simpa using ih (seen ++ [n]) _ (least.older n)
  exact all entryNos [] none ⟨nofun, fun _ _ mem => nomatch mem⟩

/-! ### Evictions -/

/-- The table with entry n invalid. -/
def History.without (h : History) (n : EntryNo) : History := { h with entries := h.entries.set n none }

theorem History.without_same (h : History) (n : EntryNo) : (h.without n).entries[n] = none :=
  Vector.getElem_set_self n.isLt

theorem History.without_other (h : History) {n m : EntryNo} (other : m ≠ n) : (h.without n).entries[m] = h.entries[m] :=
  Vector.getElem_set_ne n.isLt m.isLt fun same => other (Fin.ext same.symm)

theorem History.without_count {h : History} {n : EntryNo} {e : HistoryEntry} {test : HistoryEntry → Bool}
    (held : h.entries[n] = some e) (passes : test e = true) : (h.without n).count test + 1 = h.count test := by
  have rest : (entryNos.filter fun m => ((h.without n).entries[m]).any test) =
      (entryNos.filter fun m => (h.entries[m]).any test).erase n := by
    have once : entryNos.Nodup := List.nodup_finRange 64
    rw [List.Nodup.erase_eq_filter (once.filter _), List.filter_filter]
    refine List.filter_congr fun m _ => ?_
    by_cases same : m = n
    · subst same
      simp [h.without_same m]
    · simp [h.without_other same, same]
  have mem : n ∈ entryNos.filter fun m => (h.entries[m]).any test :=
    List.mem_filter.mpr ⟨List.mem_finRange n, by rw [held]; exact passes⟩
  rw [History.count, History.count, rest, List.length_erase_of_mem mem]
  exact Nat.sub_add_cancel (List.length_pos_of_mem mem)

theorem History.count_le (h : History) (test : HistoryEntry → Bool) : h.count test ≤ 64 := by
  have shorter := List.length_filter_le (fun n => (h.entries[n]).any test) entryNos
  have all : entryNos.length = 64 := List.length_finRange
  rw [all] at shorter
  exact shorter

/-- R119: from h to k entries were evicted, the least recent locked ones first. -/
structure History.Trimmed (h k : History) (evicted : List (EntryNo × HistoryEntry)) : Prop where
  stamp : k.nextStamp = h.nextStamp
  kept : ∀ n : EntryNo, n ∉ evicted.map Prod.fst → k.entries[n] = h.entries[n]
  gone : ∀ x ∈ evicted, k.entries[x.1] = none ∧ h.entries[x.1] = some x.2 ∧ x.2.locked = true ∧
    ∀ (m : EntryNo) (f : HistoryEntry), k.entries[m] = some f → f.locked = true → lessRecent x.2 x.1 f m = true

theorem History.Trimmed.refl (h : History) : h.Trimmed h [] := ⟨rfl, fun _ _ => rfl, nofun⟩

/-- An entry that is left stood there before. -/
theorem History.Trimmed.was {h k : History} {evicted : List (EntryNo × HistoryEntry)} (trimmed : h.Trimmed k evicted)
    {m : EntryNo} {f : HistoryEntry} (held : k.entries[m] = some f) : h.entries[m] = some f := by
  by_cases mem : m ∈ evicted.map Prod.fst
  · obtain ⟨x, inList, rfl⟩ := List.mem_map.mp mem
    obtain ⟨none, -⟩ := trimmed.gone x inList
    cases none.symm.trans held
  · rw [← trimmed.kept m mem, held]

theorem History.Trimmed.first {h k : History} {n : EntryNo} {e : HistoryEntry} {evicted : List (EntryNo × HistoryEntry)}
    (held : h.entries[n] = some e) (locked : e.locked = true)
    (least : ∀ (m : EntryNo) (f : HistoryEntry), h.entries[m] = some f → f.locked = true → m = n ∨ lessRecent e n f m = true)
    (rest : (h.without n).Trimmed k evicted) : h.Trimmed k ((n, e) :: evicted) where
  stamp := rest.stamp
  kept m out := by
    obtain ⟨other, out⟩ := not_or.mp (mt List.mem_cons.mpr out)
    rw [rest.kept m out, h.without_other other]
  gone x mem := by
    have before {m : EntryNo} {f : HistoryEntry} (own : k.entries[m] = some f) : m ≠ n ∧ h.entries[m] = some f := by
      have was := rest.was own
      have other : m ≠ n := fun same => by
        rw [same, h.without_same] at was
        cases was
      exact ⟨other, by rwa [h.without_other other] at was⟩
    rcases List.mem_cons.mp mem with rfl | later
    · refine ⟨?_, held, locked, fun m f own isLocked => ?_⟩
      · cases left : k.entries[n] with
        | none => rfl
        | some f => exact absurd rfl (before left).1
      · obtain ⟨other, was⟩ := before own
        exact (least m f was isLocked).resolve_left other
    · obtain ⟨m, f⟩ := x
      obtain ⟨gone, was, isLocked, lessThan⟩ := rest.gone (m, f) later
      have other : m ≠ n := fun same => by
        subst same
        cases (h.without_same m).symm.trans was
      exact ⟨gone, by rwa [h.without_other other] at was, isLocked, lessThan⟩

theorem History.trim_few {k : Nat} {h : History} (few : h.count HistoryEntry.locked ≤ 56) : h.trim k = (h, []) := by
  cases k with
  | zero => rfl
  | succ k => exact if_pos few

/-- R119: one eviction. -/
theorem History.trim_many {k : Nat} {h : History} (many : 56 < h.count HistoryEntry.locked) :
    ∃ n e, h.entries[n] = some e ∧ e.locked = true ∧
      (∀ (m : EntryNo) (f : HistoryEntry), h.entries[m] = some f → f.locked = true → m = n ∨ lessRecent e n f m = true) ∧
      h.trim (k + 1) = (((h.without n).trim k).1, (n, e) :: ((h.without n).trim k).2) := by
  obtain ⟨found, missed⟩ := h.leastRecent_least HistoryEntry.locked
  cases least : h.leastRecent HistoryEntry.locked with
  | none =>
    exfalso
    have no : entryNos.filter (fun n => (h.entries[n]).any HistoryEntry.locked) = [] := by
      refine List.filter_eq_nil_iff.mpr fun m mem isLocked => ?_
      obtain ⟨f, held, passes⟩ := (Option.any_eq_true _ _).mp isLocked
      simp [missed least m mem f held] at passes
    rw [History.count, no] at many
    simp at many
  | some n =>
    obtain ⟨e, held, passes, before⟩ := found n least
    refine ⟨n, e, held, passes, fun m f => before m (List.mem_finRange m) f, ?_⟩
    have more : ¬h.count HistoryEntry.locked ≤ mostLocked := Nat.not_le.mpr many
    rw [History.trim, if_neg more]
    simp only [least, held]
    rfl

theorem History.trim_trimmed (k : Nat) (h : History) : h.Trimmed (h.trim k).1 (h.trim k).2 := by
  induction k generalizing h with
  | zero => exact .refl h
  | succ k ih =>
    by_cases few : h.count HistoryEntry.locked ≤ 56
    · rw [History.trim_few few]
      exact .refl h
    · obtain ⟨n, e, held, locked, least, step⟩ := History.trim_many (k := k) (Nat.not_le.mp few)
      rw [step]
      exact .first held locked least (ih (h.without n))

/-- R119: 56 remain of more than 56. -/
theorem History.trim_count {k : Nat} {h : History} (many : 56 ≤ h.count HistoryEntry.locked)
    (bound : h.count HistoryEntry.locked ≤ 56 + k) : (h.trim k).1.count HistoryEntry.locked = 56 := by
  induction k generalizing h with
  | zero => exact Nat.le_antisymm bound many
  | succ k ih =>
    by_cases few : h.count HistoryEntry.locked ≤ 56
    · rw [History.trim_few few]
      exact Nat.le_antisymm few many
    · obtain ⟨n, e, held, locked, -, step⟩ := History.trim_many (k := k) (Nat.not_le.mp few)
      have fewer := History.without_count held locked
      rw [step]
      exact ih (by omega) (by omega)

end Sys2Proof.Machine

/-!
PROOFS. What a start-up loads of the History Table, and the writes it queues (R119, R184, R185).
-/

namespace Sys2Proof.Machine

open Sys2Proof

section
variable (m : Store)

/-! ### The entries loaded (R119) -/

theorem Store.entry_eq (n : EntryNo) : m.entry n = (m.history[n].loaded).getD none := by
  unfold Store.entry
  cases m.history[n].loaded <;> rfl

theorem Store.superseded_iff (n : EntryNo) :
    m.superseded n = true ↔
      ∃ e ∈ m.entry n, ∃ k : EntryNo, ∃ f ∈ m.entry k, f.serial = e.serial ∧ lessRecent e n f k = true := by
  unfold Store.superseded
  cases m.entry n with
  | none => simp
  | some e =>
    simp only [List.any_eq_true, entryNos, List.mem_finRange, true_and, Option.mem_some_iff, exists_eq_left']
    refine exists_congr fun k => ?_
    cases m.entry k <;> simp

/-- R119: an entry as it is loaded, a duplicate being invalid. -/
def Store.keptEntry (n : EntryNo) : Option HistoryEntry := if m.superseded n then none else m.entry n

theorem Store.loadedHistory_entry (n : EntryNo) : m.loadedHistory.entries[n] = m.keptEntry n := by
  simp [Store.loadedHistory, Store.keptEntry]

theorem Store.loadedHistory_nextStamp :
    m.loadedHistory.nextStamp =
      ((List.finRange 64).map fun n => ((m.keptEntry n).map HistoryEntry.stamp).getD 0).foldl max 0 + 1 := by
  have entries : m.loadedHistory.entries.toList = (List.finRange 64).map m.keptEntry := by
    simp only [Store.loadedHistory, Vector.toList_ofFn, List.ofFn_eq_map]
    rfl
  have stamps (best : Nat) (o : Option HistoryEntry) : maxStamp best o = max best ((o.map HistoryEntry.stamp).getD 0) := by
    cases o <;> simp [maxStamp]
  have shape : m.loadedHistory.nextStamp = m.loadedHistory.entries.toList.foldl maxStamp 0 + 1 := rfl
  rw [shape, entries, List.foldl_map, List.foldl_map]
  simp only [stamps]

/-- R113: the locked ones among such entries. -/
def lockedOf (h : EntryNo → Option HistoryEntry) : List EntryNo :=
  (List.finRange 64).filter fun n => (h n).any HistoryEntry.locked

theorem History.count_locked (h : History) : h.count HistoryEntry.locked = (lockedOf fun n => h.entries[n]).length := rfl

theorem Store.loadedHistory_count : m.loadedHistory.count HistoryEntry.locked = (lockedOf m.keptEntry).length := by
  rw [History.count_locked]
  exact congrArg (fun h => (lockedOf h).length) (funext m.loadedHistory_entry)

theorem Store.startHistory_trimmed : m.loadedHistory.Trimmed m.startHistory.1 m.startHistory.2 :=
  History.trim_trimmed 8 m.loadedHistory

theorem Store.startHistory_few (few : (lockedOf m.keptEntry).length ≤ 56) : m.startHistory = (m.loadedHistory, []) :=
  History.trim_few (by rw [m.loadedHistory_count]; exact few)

theorem Store.startHistory_many (many : 56 < (lockedOf m.keptEntry).length) :
    (lockedOf fun n => m.startHistory.1.entries[n]).length = 56 := by
  rw [← m.loadedHistory_count] at many
  have bound : m.loadedHistory.count HistoryEntry.locked ≤ 56 + 8 := m.loadedHistory.count_le HistoryEntry.locked
  have remain := History.trim_count (Nat.le_of_lt many) bound
  rw [← Store.startHistory] at remain
  exact (History.count_locked m.startHistory.1).symm.trans remain

/-- R119: an entry is as loaded, or it was evicted. -/
theorem Store.startHistory_entry (n : EntryNo) :
    (n ∉ m.startHistory.2.map Prod.fst ∧ m.startHistory.1.entries[n] = m.keptEntry n) ∨
      (n ∈ m.startHistory.2.map Prod.fst ∧ m.startHistory.1.entries[n] = none ∧
        ∃ e ∈ m.keptEntry n, e.locked = true ∧
          ∀ (k : EntryNo) (f : HistoryEntry), m.startHistory.1.entries[k] = some f → f.locked = true →
            lessRecent e n f k = true) := by
  obtain ⟨-, kept, gone⟩ := m.startHistory_trimmed
  by_cases mem : n ∈ m.startHistory.2.map Prod.fst
  · obtain ⟨⟨k, e⟩, inList, rfl⟩ := List.mem_map.mp mem
    obtain ⟨none, was, locked, least⟩ := gone (k, e) inList
    exact .inr ⟨mem, none, e, (m.loadedHistory_entry k).symm.trans was, locked, least⟩
  · exact .inl ⟨mem, (kept n mem).trans (m.loadedHistory_entry n)⟩

/-! ### The writes (R119, R184) -/

theorem Stored.corrected_iff {α : Type} (r : Stored α) (x : α) :
    (r.result = .corrected ∧ r.loaded = some x) ↔ r = { contents := some x, condition := .corrected } := by
  obtain ⟨contents, condition⟩ := r
  cases contents <;> cases condition <;> simp [Stored.result, Stored.loaded]

/-- R184: the rewrite of one record. -/
def Stored.rewrite {α : Type} (r : Stored α) (w : α → RecordWrite) : List RecordWrite :=
  if r.result = .corrected then (r.loaded.map w).toList else []

theorem Stored.mem_rewrite {α : Type} {r : Stored α} {w : α → RecordWrite} {v : RecordWrite} :
    v ∈ r.rewrite w ↔ ∃ x, r = { contents := some x, condition := .corrected } ∧ v = w x := by
  simp only [← Stored.corrected_iff, Stored.rewrite]
  split
  next corrected => simp [corrected, eq_comm]
  next other => simp [other]

theorem Store.rewrites_eq :
    m.rewrites = m.identity.rewrite .identity ++ m.settings.rewrite .settings ++
      entryNos.flatMap (fun n => m.history[n].rewrite (.history n)) ++ m.waste.rewrite .waste := rfl

/-- R184: the records that are rewritten. -/
theorem Store.mem_rewrites (w : RecordWrite) :
    w ∈ m.rewrites ↔
      match w with
      | .identity x => m.identity = { contents := some x, condition := .corrected }
      | .settings x => m.settings = { contents := some x, condition := .corrected }
      | .history n x => m.history[n] = { contents := some x, condition := .corrected }
      | .waste x => m.waste = { contents := some x, condition := .corrected }
      | .cleanMark _ => False := by
  rw [Store.rewrites_eq]
  simp only [List.mem_append, List.mem_flatMap, Stored.mem_rewrite, entryNos, List.mem_finRange, true_and]
  cases w <;> simp

/-- R119: the entries that are written as invalid. -/
theorem Store.mem_historyWrites (w : RecordWrite) :
    w ∈ m.historyWrites ↔
      ∃ n : EntryNo, w = .history n none ∧ (m.superseded n = true ∨ n ∈ m.startHistory.2.map Prod.fst) := by
  simp only [Store.historyWrites, List.mem_append, List.mem_map, List.mem_filter, entryNos, List.mem_finRange, true_and]
  constructor
  · rintro (⟨n, superseded, rfl⟩ | ⟨x, mem, rfl⟩)
    · exact ⟨n, rfl, .inl superseded⟩
    · exact ⟨x.1, rfl, .inr ⟨x, mem, rfl⟩⟩
  · rintro ⟨n, rfl, superseded | ⟨x, mem, rfl⟩⟩
    · exact .inl ⟨n, superseded, rfl⟩
    · exact .inr ⟨x, mem, rfl⟩

end

end Sys2Proof.Machine

/-!
PROOFS. The writer's queue that a start-up leaves (R184, R185, R192).
-/

namespace Sys2Proof.Machine

open Sys2Proof

/-! ### A queue of writes -/

/-- R185: a queue that a write joins. -/
def queued (q : List RecordWrite) (w : RecordWrite) : List RecordWrite :=
  if q.any (fun p => decide (p.record = w.record)) then replaceWrite w q else q ++ [w]

theorem replaceWrite_iff {w v : RecordWrite} {q : List RecordWrite} (once : (q.map RecordWrite.record).Nodup)
    (pending : q.any (fun p => decide (p.record = w.record)) = true) :
    v ∈ replaceWrite w q ↔ v = w ∨ v ∈ q ∧ v.record ≠ w.record := by
  induction q with
  | nil => cases pending
  | cons p ps ih =>
    obtain ⟨first, rest⟩ := List.nodup_cons.mp once
    rw [replaceWrite]
    by_cases same : p.record = w.record
    · have others : ∀ r ∈ ps, r.record ≠ w.record := fun r mem own =>
        first (List.mem_map.mpr ⟨r, mem, own.trans same.symm⟩)
      rw [if_pos same, List.mem_cons, List.mem_cons]
      refine or_congr Iff.rfl ⟨fun mem => ⟨.inr mem, others v mem⟩, ?_⟩
      rintro ⟨rfl | mem, other⟩
      · exact absurd same other
      · exact mem
    · rw [if_neg same, List.mem_cons, List.mem_cons, ih rest (by simpa [same] using pending)]
      constructor
      · rintro (rfl | rfl | ⟨mem, other⟩)
        · exact .inr ⟨.inl rfl, same⟩
        · exact .inl rfl
        · exact .inr ⟨.inr mem, other⟩
      · rintro (rfl | ⟨rfl | mem, other⟩)
        · exact .inr (.inl rfl)
        · exact .inl rfl
        · exact .inr (.inr ⟨mem, other⟩)

theorem mem_queued {w v : RecordWrite} {q : List RecordWrite} (once : (q.map RecordWrite.record).Nodup) :
    v ∈ queued q w ↔ v = w ∨ v ∈ q ∧ v.record ≠ w.record := by
  unfold queued
  split
  next pending => exact replaceWrite_iff once pending
  next absent =>
    have others : ∀ r ∈ q, r.record ≠ w.record := by simpa using absent
    rw [List.mem_append, List.mem_singleton, or_comm]
    exact or_congr Iff.rfl ⟨fun mem => ⟨mem, others v mem⟩, And.left⟩

theorem queued_once {w : RecordWrite} {q : List RecordWrite} (once : (q.map RecordWrite.record).Nodup) :
    ((queued q w).map RecordWrite.record).Nodup := by
  unfold queued
  split
  · rw [replaceWrite_records]
    exact once
  next absent =>
    have others : ∀ r ∈ q, r.record ≠ w.record := by simpa using absent
    rw [List.map_append, List.nodup_append]
    refine ⟨once, by simp, fun r mem p single => ?_⟩
    obtain ⟨x, inQueue, rfl⟩ := List.mem_map.mp mem
    obtain rfl : p = w.record := by simpa using single
    exact others x inQueue

/-- R185: writes of distinct records, or equal ones, that join a queue in turn. -/
theorem mem_queuedAll {ws q : List RecordWrite} (once : (q.map RecordWrite.record).Nodup)
    (distinct : ∀ v ∈ ws, ∀ w ∈ ws, v.record = w.record → v = w) (v : RecordWrite) :
    ((ws.foldl queued q).map RecordWrite.record).Nodup ∧
      (v ∈ ws.foldl queued q ↔ v ∈ ws ∨ v ∈ q ∧ ∀ w ∈ ws, v.record ≠ w.record) := by
  induction ws generalizing q with
  | nil => exact ⟨once, by simp⟩
  | cons w ws ih =>
    obtain ⟨nodup, mem⟩ := ih (queued_once (w := w) once) fun a inA b inB => distinct a (.tail w inA) b (.tail w inB)
    refine ⟨nodup, ?_⟩
    rw [List.foldl_cons, mem, mem_queued once, List.mem_cons]
    constructor
    · rintro (later | ⟨rfl | ⟨before, other⟩, others⟩)
      · exact .inl (.inr later)
      · exact .inl (.inl rfl)
      · exact .inr ⟨before, fun r inList => (List.mem_cons.mp inList).elim (fun same => same ▸ other) (others r)⟩
    · rintro ((rfl | later) | ⟨before, others⟩)
      · by_cases again : ∃ r ∈ ws, v.record = r.record
        · obtain ⟨r, inList, same⟩ := again
          exact .inl (distinct v (.head ws) r (.tail v inList) same ▸ inList)
        · exact .inr ⟨.inl rfl, fun r inList same => again ⟨r, inList, same⟩⟩
      · exact .inl later
      · exact .inr ⟨.inr ⟨before, others w (.head ws)⟩, fun r inList => others r (.tail w inList)⟩

/-! ### The writer while a write is in progress -/

theorem Nvm.enqueue_inProgress {m : Nvm} {p : RecordWrite × WriteTiming} (busy : m.inProgress = some p) (w : RecordWrite) :
    m.enqueue w = { m with queue := queued m.queue w } := by
  unfold Nvm.enqueue Nvm.begin
  simp only [busy]
  rfl

theorem State.queueWrites_busy {s : State} {p : RecordWrite × WriteTiming} (busy : s.nvm.inProgress = some p)
    (ws : List RecordWrite) :
    ws.foldl State.queueWrite s = { s with nvm := { s.nvm with queue := ws.foldl queued s.nvm.queue } } := by
  induction ws generalizing s with
  | nil => rfl
  | cons w ws ih =>
    have first : s.queueWrite w = { s with nvm := { s.nvm with queue := queued s.nvm.queue w } } := by
      rw [State.queueWrite, Nvm.enqueue_inProgress busy]
    rw [List.foldl_cons, first]
    exact ih busy

end Sys2Proof.Machine

/-!
PROOFS. The writer that a start-up leaves, as a whole (R119, R184, R185, R192).
-/

namespace Sys2Proof.Machine

open Sys2Proof

section
variable (m : Store)

/-- R119: the entries that a start-up does not load. -/
theorem Store.dropped_iff (n : EntryNo) :
    (m.superseded n = true ∨ n ∈ m.startHistory.2.map Prod.fst) ↔ m.entry n ≠ m.startHistory.1.entries[n] := by
  by_cases superseded : m.superseded n = true
  · have kept : m.keptEntry n = none := if_pos superseded
    obtain ⟨e, held, -⟩ := (m.superseded_iff n).mp superseded
    refine iff_of_true (.inl superseded) fun same => ?_
    rcases m.startHistory_entry n with ⟨-, left⟩ | ⟨-, left, -⟩
    · cases held.symm.trans (same.trans (left.trans kept))
    · cases held.symm.trans (same.trans left)
  · have kept : m.keptEntry n = m.entry n := if_neg superseded
    rcases m.startHistory_entry n with ⟨stays, left⟩ | ⟨evicted, left, e, held, -⟩
    · exact iff_of_false (not_or.mpr ⟨superseded, stays⟩) fun other => other (kept.symm.trans left.symm)
    · refine iff_of_true (.inr evicted) fun same => ?_
      rw [kept] at held
      cases (Option.mem_def.mp held).symm.trans (same.trans left)

/-- R184, R119: the pending writes of a start-up, behind the clean mark. -/
def Store.startQueue : List RecordWrite := (m.rewrites ++ m.historyWrites).foldl queued []

theorem Store.mem_startQueue (w : RecordWrite) :
    (m.startQueue.map RecordWrite.record).Nodup ∧
      (w ∈ m.startQueue ↔ w ∈ m.historyWrites ∨ w ∈ m.rewrites ∧ ∀ v ∈ m.historyWrites, w.record ≠ v.record) := by
  have oneRewrite : ∀ v ∈ m.rewrites, ∀ w ∈ m.rewrites, v.record = w.record → v = w := by
    intro v inV w inW same
    rw [m.mem_rewrites] at inV inW
    cases v <;> cases w <;> simp only [RecordWrite.record, reduceCtorEq, RecordName.history.injEq] at same
    case identity.identity => simp_all
    case settings.settings => simp_all
    case history.history => subst same; simp_all
    case waste.waste => simp_all
    case cleanMark.cleanMark => exact inV.elim
  have oneHistory : ∀ v ∈ m.historyWrites, ∀ w ∈ m.historyWrites, v.record = w.record → v = w := by
    intro v inV w inW same
    obtain ⟨n, rfl, -⟩ := (m.mem_historyWrites v).mp inV
    obtain ⟨k, rfl, -⟩ := (m.mem_historyWrites w).mp inW
    simp only [RecordWrite.record, RecordName.history.injEq] at same
    rw [same]
  have first (v : RecordWrite) := mem_queuedAll (q := []) (by simp) oneRewrite v
  obtain ⟨nodup, mem⟩ := mem_queuedAll (first w).1 oneHistory w
  rw [Store.startQueue, List.foldl_append]
  refine ⟨nodup, ?_⟩
  rw [mem, (first w).2]
  simp

/-- R119, R184: the history write of an entry. -/
theorem Store.startQueue_history (n : EntryNo) (x : Option HistoryEntry) :
    .history n x ∈ m.startQueue ↔
      x = m.startHistory.1.entries[n] ∧
        (m.history[n].result = .corrected ∨ m.entry n ≠ m.startHistory.1.entries[n]) := by
  have written : .history n x ∈ m.historyWrites ↔ x = none ∧ m.entry n ≠ m.startHistory.1.entries[n] := by
    rw [m.mem_historyWrites]
    constructor
    · rintro ⟨k, same, dropped⟩
      obtain ⟨rfl, rfl⟩ := RecordWrite.history.inj same
      exact ⟨rfl, (m.dropped_iff n).mp dropped⟩
    · rintro ⟨rfl, dropped⟩
      exact ⟨n, rfl, (m.dropped_iff n).mpr dropped⟩
  have others : (∀ v ∈ m.historyWrites, (RecordWrite.history n x).record ≠ v.record) ↔
      m.entry n = m.startHistory.1.entries[n] := by
    constructor
    · intro none
      by_contra dropped
      exact none (.history n .none) ((m.mem_historyWrites _).mpr ⟨n, rfl, (m.dropped_iff n).mpr dropped⟩) rfl
    · intro loaded v inV same
      obtain ⟨k, rfl, dropped⟩ := (m.mem_historyWrites v).mp inV
      obtain rfl : n = k := by simpa [RecordWrite.record] using same
      exact (m.dropped_iff n).mp dropped loaded
  have rewritten : .history n x ∈ m.rewrites ↔ m.history[n].result = .corrected ∧ m.history[n].loaded = some x :=
    (m.mem_rewrites _).trans (Stored.corrected_iff _ x).symm
  rw [(m.mem_startQueue _).2, written, others, rewritten]
  by_cases loaded : m.entry n = m.startHistory.1.entries[n]
  · rw [← loaded, m.entry_eq n]
    have contents : m.history[n].result = .corrected → ∃ c, m.history[n].loaded = some c := by
      obtain ⟨c, condition⟩ := m.history[n]
      cases c <;> cases condition <;> simp [Stored.result, Stored.loaded]
    constructor
    · rintro (⟨-, other⟩ | ⟨⟨corrected, own⟩, -⟩)
      · exact absurd rfl other
      · exact ⟨by rw [own]; rfl, .inl corrected⟩
    · rintro ⟨rfl, corrected | other⟩
      · obtain ⟨c, own⟩ := contents corrected
        exact .inr ⟨⟨corrected, by rw [own]; rfl⟩, rfl⟩
      · exact absurd rfl other
  · have none : m.startHistory.1.entries[n] = none := by
      rcases m.startHistory_entry n with ⟨stays, left⟩ | ⟨-, left, -⟩
      · have superseded := ((m.dropped_iff n).mpr loaded).resolve_right stays
        rw [left]
        exact if_pos superseded
      · exact left
    simp only [none] at loaded ⊢
    simp [loaded]

/-- R184: the write of another record. -/
theorem Store.startQueue_other {w : RecordWrite} (other : ∀ n x, w ≠ .history n x) : w ∈ m.startQueue ↔ w ∈ m.rewrites := by
  have apart : ∀ v ∈ m.historyWrites, w.record ≠ v.record := by
    intro v inV same
    obtain ⟨n, rfl, -⟩ := (m.mem_historyWrites v).mp inV
    cases w <;> simp [RecordWrite.record] at same
    next k x => exact other k x rfl
  have unwritten : w ∉ m.historyWrites := fun mem => apart w mem rfl
  rw [(m.mem_startQueue w).2, or_iff_right unwritten, and_iff_left apart]

end

/-- R192, step 4: the clean mark is in progress, and the writes behind it. -/
theorem State.startWrites_eq {s : State} (free : s.nvm.inProgress = none) (empty : s.nvm.queue = []) :
    s.startWrites =
      { s with
        nvm :=
          { s.nvm with inProgress := some (.cleanMark false, s.nvm.timing), queue := s.nvm.store.startQueue } } := by
  have first : s.queueWrite (.cleanMark false) =
      { s with nvm := { s.nvm with inProgress := some (.cleanMark false, s.nvm.timing), queue := [] } } := by
    simp [State.queueWrite, Nvm.enqueue, Nvm.begin, free, empty]
  rw [State.startWrites, first, State.queueWrites_busy rfl]
  rfl

/-- R185: writes were queued, and nothing else of the Non-Volatile Memory changed. -/
theorem State.startWrites_queues (s : State) : s.startWrites.nvm.queuesOn s.nvm := by
  have all (ws : List RecordWrite) (u : State) : (ws.foldl State.queueWrite u).nvm.queuesOn u.nvm := by
    induction ws generalizing u with
    | nil => exact .refl _
    | cons w ws ih => exact (Nvm.enqueue_queuesOn u.nvm w).trans (ih _)
  exact (Nvm.enqueue_queuesOn s.nvm _).trans (all _ _)

end Sys2Proof.Machine

/-!
PROOFS. The routes that a start-up sets up and judges (R50, R53, R54, R62, R63).
-/

namespace Sys2Proof.Machine

open Sys2Proof

/-! ### A channel's configuration -/

/-- R51: the channel has a route. -/
def RouteCfg.routed (cfg : RouteCfg) : Bool := decide (cfg.ink ≠ 0 ∧ cfg.defaultSlot ≠ none)

/-- R52: the leave-default condition holds of EMPTY slots and filters that have not expired. -/
def RouteCfg.leaves (cfg : RouteCfg) : Bool := decide (cfg.source = .activeUnfit ∨ cfg.source = .always)

/-- R54: the channel enters PENDING_ALT at start-up. -/
def RouteCfg.pends (cfg : RouteCfg) : Bool := cfg.routed && cfg.leaves && cfg.alternate.isSome

/-- R50, R63: the route record before the conditions are judged. -/
def RouteCfg.begun (cfg : RouteCfg) : Route :=
  { state := if cfg.routed then .onDefault else .unrouted, active := if cfg.routed then cfg.defaultSlot else none
    switchTimer := .idle, revertTimer := none, settleCount := 0, hold := false
    gate := { powerSave := false, noRoute := !cfg.routed, operatorHold := false, noSupply := true, settle := false }
    lastLine := none }

/-- R54, R55: the route record of a channel that pends, no alternate being fit. -/
def RouteCfg.pending (cfg : RouteCfg) (time : Time) : Route :=
  { cfg.begun with
    state := .pendingAlt
    switchTimer := if cfg.switchDelay = 0 then .waiting else .running (time + BitVec.ofNat 32 cfg.switchDelay) }

/-- R50, R54: the route record after start-up. -/
def RouteCfg.started (cfg : RouteCfg) (time : Time) : Route := if cfg.pends then cfg.pending time else cfg.begun

/-! ### No supply -/

/-- R3, R173: every slot is EMPTY and no filter has expired. -/
def State.unsupplied (s : State) : Prop :=
  (∀ i : SlotNo, (s.slot i).state = .empty) ∧ ∀ p : Pin, (s.filter p).filtered = false

theorem State.unsupplied.of_kept {s t : State} {bs : List Block} (h : s.unsupplied) (k : keepsBut bs s t)
    (slots : .slots ∉ bs) (filters : ∀ p, t.filter p = s.filter p) : t.unsupplied := by
  obtain ⟨empty, unfiltered⟩ := h
  exact ⟨fun i => (congrArg Slot.state (State.slot_of_slots (k.2.2 .slots slots) i)).trans (empty i),
    fun p => (congrArg Filter.filtered (filters p)).trans (unfiltered p)⟩

section
variable {s : State} (h : s.unsupplied) (c : Channel)
include h

theorem State.unsupplied.fit (i : SlotNo) : s.fit i c = false := by
  simp [State.fit, Slot.fitFor, h.1 i]

theorem State.unsupplied.drawable (i : SlotNo) : s.drawable i c = false := by
  simp [State.drawable, Slot.drawableFor, Slot.fitFor, h.1 i]

theorem State.unsupplied.noSupply : s.noSupply c = true := by
  unfold State.noSupply
  split
  · rfl
  · rw [h.drawable]
    rfl

theorem State.unsupplied.alternateFit : s.alternateFit c = false := by
  unfold State.alternateFit
  split
  · rfl
  · exact h.fit c _

theorem State.unsupplied.defaultFit : s.defaultFit c = false := by
  unfold State.defaultFit
  split
  · rfl
  · exact h.fit c _

theorem State.unsupplied.leaveDefault : s.leaveDefault c = (s.routeCfg c).leaves := by
  have reported (i : SlotNo) : s.reportedLow i = false := by rw [State.reportedLow, h.2 (.level i), Bool.and_false]
  unfold State.leaveDefault
  split
  case h_1 source => simp [RouteCfg.leaves, source, h.defaultFit c]
  case h_2 source =>
    have stays : (s.routeCfg c).leaves = false := by simp [RouteCfg.leaves, source]
    rw [stays]
    split
    · rfl
    · exact reported _
  case h_7 source => simp [RouteCfg.leaves, source]
  case h_8 source => simp [RouteCfg.leaves, source]
  all_goals
    next source =>
      rw [h.2]
      simp [RouteCfg.leaves, source]

/-! ### Setting up (R50) -/

theorem State.startRoute_own :
    (s.startRoute c).route c = (s.routeCfg c).begun ∧
      (s.startRoute c).pins =
        { s.pins with valves := s.pins.valves.set c ((s.routeCfg c).routed && (s.routeCfg c).valveInvert) } := by
  obtain ⟨t, isPut⟩ : ∃ t, t = s.putRoute c (Route.start (s.routeCfg c)) := ⟨_, rfl⟩
  have route : t.route c = Route.start (s.routeCfg c) := isPut ▸ State.putRoute_same s c _
  have cfg : t.routeCfg c = s.routeCfg c := by rw [isPut]; rfl
  have pins : t.pins = s.pins := by rw [isPut]; rfl
  have unsupplied : t.unsupplied := by
    rw [isPut]
    exact h.of_kept (bs := [.routes]) (by simp) (by decide) fun p => s.putRoute_filter p c _
  have shape : s.startRoute c = (t.putRoute c { t.route c with gate := { (t.route c).gate with noSupply := true } }).driveValve c := by
    rw [← unsupplied.noSupply c, isPut]
    rfl
  have record : { t.route c with gate := { (t.route c).gate with noSupply := true } } = (s.routeCfg c).begun := by
    rw [route, Route.start]
    by_cases unrouted : (s.routeCfg c).ink = 0 ∨ (s.routeCfg c).defaultSlot = none
    · have no : (s.routeCfg c).routed = false := decide_eq_false fun yes => unrouted.elim yes.1 yes.2
      rw [if_pos unrouted, RouteCfg.begun, no]
      rfl
    · have yes : (s.routeCfg c).routed = true := decide_eq_true (not_or.mp unrouted)
      rw [if_neg unrouted, RouteCfg.begun, yes]
      rfl
  rw [shape, record]
  refine ⟨State.putRoute_same t c _, ?_⟩
  have level : (t.putRoute c (s.routeCfg c).begun).valveLevel c = ((s.routeCfg c).routed && (s.routeCfg c).valveInvert) := by
    have sameCfg : (t.putRoute c (s.routeCfg c).begun).routeCfg c = s.routeCfg c := cfg
    rw [State.valveLevel, State.putRoute_same, sameCfg, RouteCfg.begun]
    cases (s.routeCfg c).routed <;> rfl
  have samePins : (t.putRoute c (s.routeCfg c).begun).pins = s.pins := pins
  simp only [State.driveValve, level, samePins]

end

theorem State.startRoute_filter (s : State) (c : Channel) (p : Pin) : (s.startRoute c).filter p = s.filter p := by
  cases p <;> rfl

theorem State.startRoute_keepsRoutes (s : State) (c : Channel) : keepsBut [.routes, .pins] s (s.startRoute c) := by
  simp

/-- R50, R62: every channel set up once. -/
theorem State.startRoutes_does {s : State} (h : s.unsupplied) {cs : List Channel} (once : cs.Nodup) :
    let t := cs.foldl State.startRoute s
    keepsBut [.routes, .pins] s t ∧ (∀ p, t.filter p = s.filter p) ∧
      ∀ c : Channel,
        t.route c = (if c ∈ cs then (s.routeCfg c).begun else s.route c) ∧
          t.pins.valves[c] =
            if c ∈ cs then (s.routeCfg c).routed && (s.routeCfg c).valveInvert else s.pins.valves[c] := by
  induction cs generalizing s with
  | nil => exact ⟨by simp, fun _ => rfl, fun _ => ⟨rfl, rfl⟩⟩
  | cons d cs ih =>
    obtain ⟨first, rest⟩ := List.nodup_cons.mp once
    have step := s.startRoute_keepsRoutes d
    obtain ⟨route, pins⟩ := State.startRoute_own h d
    obtain ⟨kept, filters, each⟩ := ih (h.of_kept step (by decide) (s.startRoute_filter d)) rest
    refine ⟨step.trans kept, fun p => (filters p).trans (s.startRoute_filter d p), fun c => ?_⟩
    have cfg : (s.startRoute d).routeCfg c = s.routeCfg c := by
      rw [State.routeCfg, show (s.startRoute d).settings = s.settings from step.2.2 .settings (by decide)]
      rfl
    obtain ⟨routeC, valveC⟩ := each c
    rw [cfg] at routeC valveC
    rw [List.foldl_cons, routeC, valveC, pins]
    by_cases same : c = d
    · subst same
      simp [first, route]
    · have setOther (level : Bool) : (s.pins.valves.set d level)[c] = s.pins.valves[c] :=
        Vector.getElem_set_ne d.isLt c.isLt fun same' => same (Fin.ext same'.symm)
      rw [State.startRoute_other s same, setOther]
      simp [same]

/-! ### Judging (R53, R54, R55) -/

section
variable {s : State} (h : s.unsupplied) {c : Channel} (begun : s.route c = (s.routeCfg c).begun)
include h begun

/-- R54, R55: a channel that pends; a switch delay of 0 leaves it waiting. -/
theorem State.unsupplied.enterPendingAlt_begun :
    let t := s.enterPendingAlt c
    keepsBut [.routes, .notices] s t ∧ otherRoutes c s t ∧ t.route c = (s.routeCfg c).pending s.time := by
  obtain ⟨t, isPut⟩ : ∃ t, t =
      (s.putRoute c { s.route c with state := .pendingAlt, switchTimer := .running (s.after (s.routeCfg c).switchDelay) }).raiseRoute
        c false := ⟨_, rfl⟩
  have shape : s.enterPendingAlt c = if (s.routeCfg c).switchDelay = 0 then t.expirePendingAlt c else t := by
    rw [isPut]
    rfl
  have kept : keepsBut [.routes, .notices] s t := by rw [isPut]; simp
  have others : otherRoutes c s t := by rw [isPut]; simp [otherRoutes.refl]
  have route : t.route c =
      { (s.routeCfg c).begun with
        state := .pendingAlt, switchTimer := .running (s.after (s.routeCfg c).switchDelay) } := by
    rw [isPut, ← begun]
    exact State.putRoute_same s c _
  dsimp only
  rw [shape, RouteCfg.pending]
  split
  · have unfit : t.alternateFit c = false :=
      State.unsupplied.alternateFit (h.of_kept kept (by decide) (kept.filter (by decide))) c
    have waits : t.expirePendingAlt c = (t.putRoute c { t.route c with switchTimer := .waiting }).raiseRoute c true := by
      rw [State.expirePendingAlt, unfit]
      rfl
    have routeT : (t.expirePendingAlt c).route c = { t.route c with switchTimer := .waiting } := by
      rw [waits]
      exact State.putRoute_same t c _
    refine ⟨kept.trans (by rw [waits]; simp), ?_, by rw [routeT, route]⟩
    rw [waits]
    simpa using others
  · exact ⟨kept, others, route⟩

/-- R54: a channel that pends raises its notices and has no alternate to switch to; another is left. -/
theorem State.judgeRoute_begun :
    let t := s.judgeRoute c
    keepsBut [.routes, .notices] s t ∧ otherRoutes c s t ∧ t.route c = (s.routeCfg c).started s.time ∧
      ((s.routeCfg c).pends = false → t = s) := by
  intro t
  by_cases routed : (s.routeCfg c).routed = true
  · have state : (s.route c).state = .onDefault := by rw [begun, RouteCfg.begun, routed, if_pos rfl]
    have condition : (s.leaveDefault c && (s.routeCfg c).alternate.isSome) = (s.routeCfg c).pends := by
      rw [h.leaveDefault, RouteCfg.pends, routed, Bool.true_and]
    have shape : t = if (s.routeCfg c).pends = true then s.enterPendingAlt c else s := by
      rw [← condition]
      simp only [t, State.judgeRoute, state]
      rfl
    cases pends : (s.routeCfg c).pends with
    | false =>
      rw [pends, if_neg (by simp)] at shape
      rw [shape, RouteCfg.started, pends]
      exact ⟨by simp, otherRoutes.refl c s, begun, fun _ => rfl⟩
    | true =>
      rw [pends, if_pos rfl] at shape
      obtain ⟨kept, others, route⟩ := h.enterPendingAlt_begun begun
      rw [shape, RouteCfg.started, pends]
      exact ⟨kept, others, route, nofun⟩
  · have no : (s.routeCfg c).routed = false := Bool.eq_false_iff.mpr routed
    have state : (s.route c).state = .unrouted := by rw [begun, RouteCfg.begun, no]; rfl
    have stays : t = s := by simp only [t, State.judgeRoute, state]
    have never : (s.routeCfg c).pends = false := by rw [RouteCfg.pends, no]; rfl
    rw [stays, RouteCfg.started, never]
    exact ⟨by simp, otherRoutes.refl c s, begun, fun _ => rfl⟩

end

end Sys2Proof.Machine

/-!
PROOFS. The routes judged at start-up, and its notices (R53, R117, R119, R184, R192, R193).
-/

namespace Sys2Proof.Machine

open Sys2Proof

/-! ### Every channel judged -/

theorem State.judgeRoutes_begun {s : State} (h : s.unsupplied) {cs : List Channel} (once : cs.Nodup)
    (begun : ∀ c ∈ cs, s.route c = (s.routeCfg c).begun) :
    let t := cs.foldl State.judgeRoute s
    keepsBut [.routes, .notices] s t ∧
      (∀ c : Channel, t.route c = if c ∈ cs then (s.routeCfg c).started s.time else s.route c) ∧
      ((∀ c ∈ cs, (s.routeCfg c).pends = false) → t = s) := by
  induction cs generalizing s with
  | nil => exact ⟨by simp, fun _ => rfl, fun _ => rfl⟩
  | cons d cs ih =>
    obtain ⟨first, rest⟩ := List.nodup_cons.mp once
    obtain ⟨step, others, route, stays⟩ := State.judgeRoute_begun h (begun d (by simp))
    have cfg (c : Channel) : (s.judgeRoute d).routeCfg c = s.routeCfg c := by
      rw [State.routeCfg, show (s.judgeRoute d).settings = s.settings from step.2.2 .settings (by decide)]
      rfl
    have time : (s.judgeRoute d).time = s.time := step.2.2 .time (by decide)
    have apart {c : Channel} (mem : c ∈ cs) : c ≠ d := fun same => first (same ▸ mem)
    obtain ⟨kept, each, all⟩ := ih (h.of_kept step (by decide) (step.filter (by decide))) rest fun c mem => by
      rw [others c (apart mem), cfg, begun c (by simp [mem])]
    refine ⟨step.trans kept, fun c => ?_, fun none => ?_⟩
    · rw [List.foldl_cons, each, cfg, time]
      by_cases same : c = d
      · subst same
        simp [first, route]
      · rw [others c same]
        simp [same]
    · have same := stays (none d (by simp))
      rw [List.foldl_cons, all fun c mem => by rw [cfg]; exact none c (by simp [mem]), same]

theorem State.judgeRoutes_follows (s : State) : noticesFollow s.notices (channels.foldl State.judgeRoute s) :=
  s.judgeChannels_follows fun _ => true

/-! ### The notices of start-up (R117, R119, R193) -/

theorem State.raise_follows (s : State) (k : NoticeKind) (u : Subject) (d : Details) :
    noticesFollow s.notices (s.raise k u d) := ⟨[(k, u, d)], rfl⟩

theorem noticesFollow.foldl {α : Type} {f : State → α → State} (step : ∀ u a, noticesFollow u.notices (f u a))
    (settings : ∀ u a, (f u a).settings = u.settings) (l : List α) (s : State) :
    noticesFollow s.notices (l.foldl f s) ∧ (l.foldl f s).settings = s.settings := by
  induction l generalizing s with
  | nil => exact ⟨.of_same rfl, rfl⟩
  | cons a l ih =>
    obtain ⟨follows, same⟩ := ih (f s a)
    exact ⟨(step s a).trans follows same, same.trans (settings s a)⟩

theorem State.reportRecord_follows (s : State) (x : RecordName × ReadResult) :
    noticesFollow s.notices (s.reportRecord x) ∧ (s.reportRecord x).settings = s.settings := by
  unfold State.reportRecord
  split
  · exact ⟨s.raise_follows _ _ _, rfl⟩
  · exact ⟨s.raise_follows _ _ _, rfl⟩
  · exact ⟨.of_same rfl, rfl⟩

theorem State.reportRecord_silent (s : State) {x : RecordName × ReadResult} (silent : x.2 ≠ .corrected ∧ x.2 ≠ .uncorrectable) :
    s.reportRecord x = s := by
  unfold State.reportRecord
  split
  next corrected => exact absurd corrected silent.1
  next uncorrectable => exact absurd uncorrectable silent.2
  · rfl

theorem State.reportRecords_silent (s : State) {l : List (RecordName × ReadResult)}
    (silent : ∀ r ∈ l, r.2 ≠ .corrected ∧ r.2 ≠ .uncorrectable) : l.foldl State.reportRecord s = s := by
  induction l with
  | nil => rfl
  | cons r l ih =>
    rw [List.foldl_cons, s.reportRecord_silent (silent r (by simp))]
    exact ih fun r mem => silent r (by simp [mem])

theorem State.judgeWaste_silent {s : State} (near : s.wasteNear = false) (full : s.wasteFull = false) :
    s.judgeWaste false false = s := by
  rw [State.judgeWaste, near, full]
  rfl

theorem State.judgeWaste_follows (s : State) (near full : Bool) : noticesFollow s.notices (s.judgeWaste near full) := by
  have raises (u : State) (e : WasteFlag) (b : Bool) : noticesFollow u.notices (u.raiseWaste e b) :=
    u.raise_follows _ _ _
  unfold State.judgeWaste
  dsimp only
  split
  · split
    · exact .of_same rfl
    · exact raises _ _ _
  · split
    · exact raises _ _ _
    · exact (raises _ _ _).trans (raises _ _ _) rfl

/-- R193: the notices after the one of an unclean start, if there is one. -/
def State.firstNotices (s : State) : NoticeUnit :=
  if s.nvm.clean then s.notices
  else
    s.notices.take s.settings.mask[NoticeKind.store.position] .store .none
      (.store .uncleanStart none false s.nvm.source s.nvm.corrected s.nvm.uncorrectable)

theorem State.startNotices_does (s : State) :
    noticesFollow s.firstNotices s.startNotices ∧
      ((∀ r ∈ s.nvm.store.results, r.2 ≠ .corrected ∧ r.2 ≠ .uncorrectable) → s.nvm.store.startHistory.2 = [] →
        s.wasteNear = false → s.wasteFull = false → s.startNotices.notices = s.firstNotices) := by
  obtain ⟨t, isFirst⟩ : ∃ t, t = if s.nvm.clean then s else s.raiseStore .uncleanStart none := ⟨_, rfl⟩
  have kept : keepsBut [.notices] s t := by rw [isFirst]; split <;> simp
  have notices : t.notices = s.firstNotices := by
    rw [isFirst, State.firstNotices]
    split
    · rfl
    next unclean =>
      rw [State.raiseStore, Bool.eq_false_iff.mpr unclean]
      rfl
  have shape : s.startNotices =
      (s.nvm.store.startHistory.2.foldl State.reportEviction (s.nvm.store.results.foldl State.reportRecord t)).judgeWaste
        false false := by
    rw [State.startNotices, ← isFirst]
  generalize s.nvm.store.startHistory.2 = evicted at shape ⊢
  generalize s.nvm.store.results = results at shape ⊢
  rw [shape, ← notices]
  constructor
  · obtain ⟨reports, same⟩ := noticesFollow.foldl (fun u x => (State.reportRecord_follows u x).1)
      (fun u x => (State.reportRecord_follows u x).2) results t
    obtain ⟨evicts, same'⟩ := noticesFollow.foldl (f := State.reportEviction) (fun u x => u.raise_follows _ _ _)
      (fun u x => rfl) evicted (results.foldl State.reportRecord t)
    have waste (u : State) : (u.judgeWaste false false).settings = u.settings := by
      have keeps : keepsBut [.notices] u (u.judgeWaste false false) := by simp
      exact keeps.2.2 .settings (by decide)
    exact (reports.trans evicts same').trans (State.judgeWaste_follows _ _ _) (waste _)
  · intro good none near full
    have settings : t.settings = s.settings := kept.2.2 .settings (by decide)
    have waste : t.waste = s.waste := kept.2.2 .waste (by decide)
    have nearT : t.wasteNear = false := by rw [← near, State.wasteNear, State.policy, settings, waste]; rfl
    have fullT : t.wasteFull = false := by rw [← full, State.wasteFull, State.policy, settings, waste]; rfl
    rw [t.reportRecords_silent good, none, List.foldl_nil, State.judgeWaste_silent nearT fullT]

end Sys2Proof.Machine

/-!
PROOFS. The filters that start at start-up, and the probes of slots whose delay is 0 (R173, R174, R3).
-/

namespace Sys2Proof.Machine

open Sys2Proof

/-- R173: the filter of an input after start-up at that time. -/
def PinCfg.startedFilter (cfg : PinCfg) (time : Time) (p : Pin) (raw : Bool) : Filter :=
  if raw = false then Filter.cold false
  else if p = .powerFail ∨ 0 < (cfg.groupDelays p).1 then
    { raw := true, filtered := false, timer := some ⟨time, time + BitVec.ofNat 32 (cfg.groupDelays p).1⟩, changed := false }
  else { raw := true, filtered := true, timer := none, changed := true }

theorem PinCfg.immediate_iff (cfg : PinCfg) (p : Pin) :
    cfg.immediate p true = true ↔ ¬(p = .powerFail ∨ 0 < (cfg.groupDelays p).1) := by
  simp [PinCfg.immediate, PinCfg.delay, not_or]

section
variable {s : State} {p : Pin}

theorem State.startInput_other {q : Pin} (other : q ≠ p) : (s.startInput p).filter q = s.filter q := by
  have timer : (s.startTimer p).filter q = s.filter q := State.putFilter_other s _ other
  unfold State.startInput State.startFilter
  split
  · dsimp only
    split
    · rw [State.inputChanges_filter_other _ other, timer]
    · exact timer
  · rfl

theorem State.startInput_waits (waits : (s.filter p).raw = true → p = .powerFail ∨ 0 < (s.settings.pins.groupDelays p).1) :
    keepsBut [.pins] s (s.startInput p) ∧ (s.startInput p).pins.valves = s.pins.valves := by
  unfold State.startInput State.startFilter
  split
  next raw =>
    have later : ¬s.settings.pins.immediate p (s.filter p).raw = true := by
      rw [raw, PinCfg.immediate_iff]
      exact not_not.mpr (waits raw)
    dsimp only
    rw [if_neg later]
    refine ⟨by simp [State.startTimer], ?_⟩
    cases p <;> rfl
  · exact ⟨by simp, rfl⟩

theorem State.startInput_filter (cold : s.filter p = Filter.cold (s.filter p).raw) :
    (s.startInput p).filter p = s.settings.pins.startedFilter s.time p (s.filter p).raw := by
  cases raw : (s.filter p).raw with
  | false =>
    rw [State.startInput, raw, if_neg (by simp), cold, raw]
    rfl
  | true =>
    have timer : (s.startTimer p).filter p =
        { raw := true, filtered := false
          timer := some ⟨s.time, s.time + BitVec.ofNat 32 (s.settings.pins.groupDelays p).1⟩, changed := false } := by
      rw [State.startTimer, State.putFilter_same, cold, raw]
      rfl
    rw [State.startInput, raw, if_pos rfl, State.startFilter, raw, PinCfg.startedFilter,
      if_neg (c := true = false) (by simp)]
    by_cases later : p = .powerFail ∨ 0 < (s.settings.pins.groupDelays p).1
    · rw [if_neg (by rw [PinCfg.immediate_iff]; exact not_not.mpr later), if_pos later, timer]
    · have changed : Pin.hasChanged p = true := by
        cases p with
        | powerFail => exact absurd (.inl rfl) later
        | _ => rfl
      rw [if_pos ((PinCfg.immediate_iff _ _).mpr later), if_neg later, State.inputChanges_filter, timer, Filter.settle,
        changed]
      rfl

end

/-! ### The inputs in turn -/

section
variable {ps : List Pin}

theorem State.startInputs_keeps (s : State) (ps : List Pin) :
    keepsBut [.slots, .lines, .routes, .pins, .trace, .notices, .history, .nvm, .sense, .digest] s
      (ps.foldl State.startInput s) := by
  induction ps generalizing s with
  | nil => exact keepsBut_refl _ s
  | cons p ps ih => exact keepsBut.trans (by simp) (ih _)

theorem State.startInputs_waits {s : State} (once : ps.Nodup)
    (waits : ∀ p ∈ ps, (s.filter p).raw = true → p = .powerFail ∨ 0 < (s.settings.pins.groupDelays p).1) :
    keepsBut [.pins] s (ps.foldl State.startInput s) ∧ (ps.foldl State.startInput s).pins.valves = s.pins.valves := by
  induction ps generalizing s with
  | nil => exact ⟨keepsBut_refl _ s, rfl⟩
  | cons p ps ih =>
    obtain ⟨first, rest⟩ := List.nodup_cons.mp once
    obtain ⟨kept, valves⟩ := State.startInput_waits (waits p (by simp))
    have settings : (s.startInput p).settings = s.settings := kept.2.2 .settings (by decide)
    obtain ⟨kept', valves'⟩ := ih (s := s.startInput p) rest fun q mem => by
      have other : q ≠ p := fun same => first (same ▸ mem)
      rw [State.startInput_other other, settings]
      exact waits q (by simp [mem])
    exact ⟨kept.trans kept', valves'.trans valves⟩

theorem State.startInputs_other {s : State} {q : Pin} (out : q ∉ ps) : (ps.foldl State.startInput s).filter q = s.filter q := by
  induction ps generalizing s with
  | nil => rfl
  | cons p ps ih =>
    obtain ⟨other, out⟩ := not_or.mp (mt List.mem_cons.mpr out)
    rw [List.foldl_cons, ih out, State.startInput_other other]

theorem State.startInputs_filter {s : State} (once : ps.Nodup) {q : Pin} (mem : q ∈ ps)
    (cold : s.filter q = Filter.cold (s.filter q).raw) :
    (ps.foldl State.startInput s).filter q = s.settings.pins.startedFilter s.time q (s.filter q).raw := by
  induction ps generalizing s with
  | nil => cases mem
  | cons p ps ih =>
    obtain ⟨first, rest⟩ := List.nodup_cons.mp once
    rw [List.foldl_cons]
    by_cases same : q = p
    · subst same
      rw [State.startInputs_other first, State.startInput_filter cold]
    · have kept : keepsBut [.slots, .lines, .routes, .pins, .trace, .notices, .history, .nvm, .sense, .digest] s
          (s.startInput p) := by simp
      have filter := State.startInput_other (s := s) same
      rw [ih rest ((List.mem_cons.mp mem).resolve_left same) (by rw [filter]; exact cold), filter,
        show (s.startInput p).settings = s.settings from kept.2.2 .settings (by decide),
        show (s.startInput p).time = s.time from kept.2.2 .time (by decide)]

end

/-! ### The probes (R3, R173) -/

section
variable {s : State} {i : SlotNo}

/-- R174, R176 to R178: another input that is asserted leaves the slot and its line. -/
theorem State.startInput_otherSlot {q : Pin} (other : q ≠ .presence i) :
    (s.startInput q).slot i = s.slot i ∧ (s.startInput q).line i = s.line i := by
  have of_kept {u t : State} {bs : List Block} (k : keepsBut bs u t) (slots : .slots ∉ bs) (lines : .lines ∉ bs) :
      t.slot i = u.slot i ∧ t.line i = u.line i :=
    ⟨State.slot_of_slots (k.2.2 .slots slots) i, State.line_of_lines (k.2.2 .lines lines) i⟩
  unfold State.startInput
  split
  next raw =>
    obtain ⟨t, isStarted⟩ : ∃ t, t = s.startTimer q := ⟨_, rfl⟩
    have started : keepsBut [.pins] s t := by rw [isStarted]; simp [State.startTimer]
    obtain ⟨slot, line⟩ := of_kept started (by decide) (by decide)
    have rawT : (t.filter q).raw = true := by
      rw [isStarted, State.startTimer, State.putFilter_same]
      exact raw
    rw [State.startFilter, ← isStarted]
    split
    · obtain ⟨u, isSettled⟩ : ∃ u, u = t.putFilter q ((t.filter q).settle q) := ⟨_, rfl⟩
      have settled : keepsBut [.pins] t u := by rw [isSettled]; simp
      obtain ⟨slotU, lineU⟩ := of_kept settled (by decide) (by decide)
      have filtered : (u.filter q).filtered = true := by
        rw [isSettled, State.putFilter_same]
        exact rawT
      rw [State.inputChanges, ← isSettled, ← slot, ← line, ← slotU, ← lineU]
      cases q with
      | presence j =>
        have apart : i ≠ j := fun same => other (same ▸ rfl)
        have shape : u.handOnInput (.presence j) = u.presenceAsserted j := by
          rw [State.handOnInput, State.presenceChanges, if_pos filtered]
        rw [shape]
        by_cases empty : (u.slot j).state = .empty
        · obtain ⟨-, -, others, kept⟩ := State.presenceAsserted_does empty
          refine ⟨others i apart, ?_⟩
          rw [State.line_of_lines (kept.2.2 .lines (by decide)) i]
          exact u.arriving_otherLines j i apart
        · have stays : u.presenceAsserted j = u := if_neg empty
          rw [stays]
          exact ⟨rfl, rfl⟩
      | level j =>
        have kept : keepsBut [.sense, .routes, .pins, .trace, .notices] u (u.levelChanges j) := by
          cases enabled : u.settings.pins.levelEnable[j] with
          | true =>
            rw [State.levelChanges_low enabled filtered]
            simp [State.judgeLevel]
          | false =>
            rw [State.levelChanges_disabled enabled]
            simp
        exact of_kept kept (by decide) (by decide)
      | aux n =>
        have kept : keepsBut [.routes, .pins, .trace, .notices] u (u.auxChanges n) := by simp
        exact of_kept kept (by decide) (by decide)
      | powerFail => exact ⟨rfl, rfl⟩
    · exact ⟨slot, line⟩
  · exact ⟨rfl, rfl⟩

theorem State.startInputs_otherSlot {ps : List Pin} (out : .presence i ∉ ps) (s : State) :
    (ps.foldl State.startInput s).slot i = s.slot i ∧ (ps.foldl State.startInput s).line i = s.line i := by
  induction ps generalizing s with
  | nil => exact ⟨rfl, rfl⟩
  | cons p ps ih =>
    obtain ⟨other, out⟩ := not_or.mp (mt List.mem_cons.mpr out)
    obtain ⟨slot, line⟩ := State.startInput_otherSlot (s := s) (Ne.symm other)
    obtain ⟨slot', line'⟩ := ih out (s.startInput p)
    exact ⟨slot'.trans slot, line'.trans line⟩

/-- R3: a cartridge that is there at once is probed. -/
theorem State.startInput_probes (raw : (s.filter (.presence i)).raw = true)
    (atOnce : (s.settings.pins.groupDelays (.presence i)).1 = 0) (empty : (s.slot i).state = .empty)
    (idle : (s.line i).state = .idle) :
    let t := s.startInput (.presence i)
    (t.slot i).state = .probing ∧ (t.slot i).present = true ∧ (t.line i).state = .break ∧
      (t.line i).trans = some (Transaction.start .identify (s.slot i).tenure) := by
  intro t
  have now : s.settings.pins.immediate (.presence i) true = true := by
    rw [PinCfg.immediate_iff]
    simp [atOnce]
  obtain ⟨u, isStarted⟩ : ∃ u, u = s.startTimer (.presence i) := ⟨_, rfl⟩
  obtain ⟨v, isSettled⟩ : ∃ v, v = u.putFilter (.presence i) ((u.filter (.presence i)).settle (.presence i)) := ⟨_, rfl⟩
  have kept : keepsBut [.pins] s v := by
    rw [isSettled, isStarted]
    simp [State.startTimer]
  have filtered : (v.filter (.presence i)).filtered = true := by
    rw [isSettled, State.putFilter_same, isStarted, State.startTimer, State.putFilter_same]
    exact raw
  have shape : t = v.presenceAsserted i := by
    have begins : t = u.inputChanges (.presence i) := by
      simp only [t, State.startInput, raw, if_pos, State.startFilter, now, isStarted]
    rw [begins, State.inputChanges, ← isSettled, State.handOnInput, State.presenceChanges, if_pos filtered]
  have slot : v.slot i = s.slot i := State.slot_of_slots (kept.2.2 .slots (by decide)) i
  have line : v.line i = s.line i := State.line_of_lines (kept.2.2 .lines (by decide)) i
  obtain ⟨-, arrived, -, after⟩ := State.presenceAsserted_does (s := v) (i := i) (by rw [slot]; exact empty)
  have lineT : t.line i = (v.arriving i).line i := by
    rw [shape]
    exact State.line_of_lines (after.2.2 .lines (by decide)) i
  rw [lineT, State.arriving_line_idle (by rw [line]; exact idle), shape, arrived, slot]
  exact ⟨rfl, rfl, rfl, rfl⟩

end

end Sys2Proof.Machine

/-!
PROOFS. POWER_LOSS and POWER_ON as a whole (R173, R183, R192).
-/

namespace Sys2Proof.Machine

open Sys2Proof

/-! ### Before the filters start (R192, steps 1 to 6) -/

section
variable (s : State)

/-- R192, steps 1 to 6: every block set up, the routes judged. -/
def State.routed : State :=
  channels.foldl State.judgeRoute (channels.foldl State.startRoute s.coldStart.startWrites.startNotices)

theorem State.startUp_eq : s.startUp = (inputs ++ [Pin.powerFail]).foldl State.startInput s.routed := rfl

theorem State.coldStart_filter (p : Pin) : s.coldStart.filter p = Filter.cold (s.filter p).raw := State.cold_filter rfl p

theorem State.coldStart_unsupplied : s.coldStart.unsupplied := by
  refine ⟨fun i => ?_, fun p => by rw [s.coldStart_filter p]; rfl⟩
  simp [State.coldStart, State.slot, Slot.cold]

theorem State.startWrites_kept (u : State) : keepsBut [.nvm] u u.startWrites := by simp

theorem State.startNotices_kept (u : State) : keepsBut [.notices] u u.startNotices := by simp

/-- R50, R53, R62: what the set-up leaves of the blocks of a cold start. -/
theorem State.routed_does :
    let w := s.coldStart.startWrites
    let t := s.routed
    let cfg (c : Channel) := s.nvm.store.image.settings.routes[c]
    keepsBut [.nvm, .notices, .routes, .pins] s.coldStart t ∧ t.nvm = w.nvm ∧
      (∀ p : Pin, t.filter p = Filter.cold (s.filter p).raw) ∧
      (∀ c : Channel,
        t.route c = (cfg c).started 0 ∧ t.pins.valves[c] = ((cfg c).routed && (cfg c).valveInvert)) ∧
      noticesFollow w.firstNotices t ∧
      ((∀ r ∈ s.nvm.store.results, r.2 ≠ .corrected ∧ r.2 ≠ .uncorrectable) → s.nvm.store.startHistory.2 = [] →
        w.wasteNear = false → w.wasteFull = false → (∀ c, (cfg c).pends = false) → t.notices = w.firstNotices) := by
  intro w t cfg
  obtain ⟨n, isNoticed⟩ : ∃ n, n = w.startNotices := ⟨_, rfl⟩
  obtain ⟨r, isSetUp⟩ : ∃ r, r = channels.foldl State.startRoute n := ⟨_, rfl⟩
  have isJudged : t = channels.foldl State.judgeRoute r := by rw [isSetUp, isNoticed]; rfl
  have writes : keepsBut [.nvm] s.coldStart w := State.startWrites_kept s.coldStart
  have notes : keepsBut [.notices] w n := isNoticed ▸ State.startNotices_kept w
  have toNoticed : keepsBut [.nvm, .notices] s.coldStart n := (writes.mono (by simp)).trans (notes.mono (by simp))
  have once : channels.Nodup := List.nodup_finRange 12
  have every (c : Channel) : c ∈ channels := List.mem_finRange c
  have unsupplied : n.unsupplied := s.coldStart_unsupplied.of_kept toNoticed (by decide) (toNoticed.filter (by decide))
  obtain ⟨setUp, filters, each⟩ := State.startRoutes_does unsupplied once
  rw [← isSetUp] at setUp filters each
  have settings : n.settings = s.nvm.store.image.settings := toNoticed.2.2 .settings (by decide)
  have cfgN (c : Channel) : n.routeCfg c = cfg c := by rw [State.routeCfg, settings]
  have cfgR (c : Channel) : r.routeCfg c = cfg c := by
    rw [State.routeCfg, show r.settings = n.settings from setUp.2.2 .settings (by decide), settings]
  have timeR : r.time = 0 := (setUp.2.2 .time (by decide)).trans (toNoticed.2.2 .time (by decide))
  have begun : ∀ c ∈ channels, r.route c = (r.routeCfg c).begun := fun c mem => by
    rw [(each c).1, if_pos mem, cfgN, cfgR]
  obtain ⟨judged, routes, stays⟩ :=
    State.judgeRoutes_begun (unsupplied.of_kept setUp (by decide) filters) once begun
  have follows := State.judgeRoutes_follows r
  rw [← isJudged] at judged routes stays follows
  obtain ⟨noted, silent⟩ := State.startNotices_does w
  rw [← isNoticed] at noted silent
  have store : w.nvm.store = s.nvm.store := by
    obtain ⟨_, _, nvm, -⟩ := s.coldStart.startWrites_queues
    rw [nvm]
    rfl
  rw [store] at silent
  have notices : r.notices = n.notices := setUp.2.2 .notices (by decide)
  refine ⟨((toNoticed.mono (by simp)).trans (setUp.mono (by simp))).trans (judged.mono (by simp)), ?_, fun p => ?_,
    fun c => ⟨?_, ?_⟩, ?_, fun good none near full never => ?_⟩
  · exact (judged.2.2 .nvm (by decide)).trans ((setUp.2.2 .nvm (by decide)).trans (notes.2.2 .nvm (by decide)))
  · rw [judged.filter (by decide), filters, toNoticed.filter (by decide), s.coldStart_filter]
  · rw [routes, if_pos (every c), cfgR, timeR]
  · rw [show t.pins = r.pins from judged.2.2 .pins (by decide), (each c).2, if_pos (every c), cfgN]
  · rw [notices] at follows
    exact noted.trans follows ((judged.2.2 .settings (by decide)).trans (setUp.2.2 .settings (by decide)))
  · rw [stays fun c _ => by rw [cfgR]; exact never c, notices, silent good none near full]

end

/-! ### Power applied -/

theorem exec_powerOn {s : State} (errors : List (RecordName × BitErrors)) (off : s.powered = false) :
    exec (.powerOn errors) s =
      .next { s with nvm := { s.nvm with store := errors.foldl Store.err s.nvm.store } }.startUp := by
  have powers : s.powersOn errors = { s with nvm := { s.nvm with store := errors.foldl Store.err s.nvm.store } }.startUp :=
    if_neg (by simp [off])
  exact congrArg Host.Outcome.next powers

theorem startedInputs_nodup : (inputs ++ [Pin.powerFail]).Nodup := by decide

theorem mem_startedInputs (p : Pin) : p ∈ inputs ++ [Pin.powerFail] := by
  cases p <;> simp [inputs, slotNos, auxNos]

section
variable (s : State)

/-- R173: every filter after start-up. -/
theorem State.startUp_filter (p : Pin) :
    s.startUp.filter p = s.nvm.store.image.settings.pins.startedFilter 0 p (s.filter p).raw := by
  obtain ⟨kept, -, filters, -⟩ := s.routed_does
  have raw : (s.routed.filter p).raw = (s.filter p).raw := by rw [filters]; rfl
  rw [s.startUp_eq, State.startInputs_filter startedInputs_nodup (mem_startedInputs p) (by rw [raw]; exact filters p), raw,
    show s.routed.settings = s.nvm.store.image.settings from kept.2.2 .settings (by decide),
    show s.routed.time = 0 from kept.2.2 .time (by decide)]

/-- R3, R173: a slot whose PRESENCE input has no delay. -/
theorem State.startUp_probes {i : SlotNo} (raw : (s.filter (.presence i)).raw = true)
    (atOnce : (s.nvm.store.image.settings.pins.groupDelays (.presence i)).1 = 0) :
    let t := s.startUp
    (t.slot i).state = .probing ∧ (t.slot i).present = true ∧ (t.line i).state = .break ∧
      (t.line i).trans = some (Transaction.start .identify 0) := by
  intro t
  obtain ⟨before, after, split⟩ := List.append_of_mem (mem_startedInputs (.presence i))
  have once := startedInputs_nodup
  rw [split, List.nodup_append] at once
  obtain ⟨-, own, apart⟩ := once
  have notBefore : .presence i ∉ before := fun mem => apart _ mem _ (by simp) rfl
  have notAfter : .presence i ∉ after := (List.nodup_cons.mp own).1
  obtain ⟨kept, -, filters, -⟩ := s.routed_does
  have shape : t = after.foldl State.startInput ((before.foldl State.startInput s.routed).startInput (.presence i)) := by
    rw [show t = s.startUp from rfl, s.startUp_eq, split, List.foldl_append, List.foldl_cons]
  obtain ⟨slot, line⟩ := State.startInputs_otherSlot notBefore s.routed
  have filter : (before.foldl State.startInput s.routed).filter (.presence i) = s.routed.filter (.presence i) :=
    State.startInputs_other notBefore
  have settings : (before.foldl State.startInput s.routed).settings = s.nvm.store.image.settings :=
    ((State.startInputs_keeps s.routed before).2.2 .settings (by decide)).trans (kept.2.2 .settings (by decide))
  generalize before.foldl State.startInput s.routed = u at shape slot line filter settings
  obtain ⟨slotT, lineT⟩ := State.startInputs_otherSlot notAfter (u.startInput (.presence i))
  have coldSlot : (u.slot i).state = .empty ∧ (u.slot i).tenure = 0 := by
    rw [slot, State.slot_of_slots (kept.2.2 .slots (by decide)) i]
    simp [State.coldStart, State.slot, Slot.cold]
  have coldLine : (u.line i).state = .idle := by
    rw [line, State.line_of_lines (kept.2.2 .lines (by decide)) i]
    simp [State.coldStart, State.line, State.manufactured, LineCtl.cold]
  have probes := State.startInput_probes (s := u) (i := i) (by rw [filter, filters]; exact raw) (by rw [settings]; exact atOnce)
    coldSlot.1 coldLine
  rw [coldSlot.2] at probes
  rw [shape, slotT, lineT]
  exact probes

end

end Sys2Proof.Machine

/-!
PROOFS. POWER_LOSS and POWER_ON as a whole (R173, R183, R192).
-/

namespace Sys2Proof.Machine

open Sys2Proof

section
variable {s : State}
  (waits : ∀ p : Pin, (s.filter p).raw = true →
    p = .powerFail ∨ 0 < (s.nvm.store.image.settings.pins.groupDelays p).1)
include waits

/-- R192: a start-up at which no filter expires leaves what was set up. -/
theorem State.startUp_waits :
    let w := s.coldStart.startWrites
    let t := s.startUp
    let cfg (c : Channel) := s.nvm.store.image.settings.routes[c]
    keepsBut [.nvm, .notices, .routes, .pins] s.coldStart t ∧ t.nvm = w.nvm ∧
      (∀ c : Channel,
        t.route c = (cfg c).started 0 ∧ t.pins.valves[c] = ((cfg c).routed && (cfg c).valveInvert)) ∧
      noticesFollow w.firstNotices t ∧
      ((∀ r ∈ s.nvm.store.results, r.2 ≠ .corrected ∧ r.2 ≠ .uncorrectable) → s.nvm.store.startHistory.2 = [] →
        t.wasteNear = false → t.wasteFull = false → (∀ c, (t.route c).state ≠ .pendingAlt) →
          t.notices = w.firstNotices) := by
  intro w t cfg
  obtain ⟨kept, nvm, filters, routes, follows, silent⟩ := s.routed_does
  have settings : s.routed.settings = s.nvm.store.image.settings := kept.2.2 .settings (by decide)
  obtain ⟨timers, valves⟩ := State.startInputs_waits (s := s.routed) startedInputs_nodup fun p _ raw => by
    rw [filters] at raw
    rw [settings]
    exact waits p raw
  rw [← s.startUp_eq] at timers valves
  have all : keepsBut [.nvm, .notices, .routes, .pins] s.coldStart t := kept.trans (timers.mono (by simp))
  have route (c : Channel) : t.route c = (cfg c).started 0 :=
    (congrArg (fun routes : Vector Route 12 => routes[c]) (timers.2.2 .routes (by decide))).trans (routes c).1
  have notices : t.notices = s.routed.notices := timers.2.2 .notices (by decide)
  have writes : keepsBut [.nvm] s.coldStart w := State.startWrites_kept s.coldStart
  have policy : w.policy = t.policy := congrArg Settings.policy
    ((writes.2.2 .settings (by decide)).trans (all.2.2 .settings (by decide)).symm)
  have waste : w.waste = t.waste := (writes.2.2 .waste (by decide)).trans (all.2.2 .waste (by decide)).symm
  refine ⟨all, (timers.2.2 .nvm (by decide)).trans nvm, fun c => ⟨route c, ?_⟩, ?_, fun good none near full never => ?_⟩
  · rw [valves]
    exact (routes c).2
  · exact follows.trans (.of_same notices) (timers.2.2 .settings (by decide))
  · refine notices.trans (silent good none ?_ ?_ fun c => ?_)
    · rw [State.wasteNear, policy, waste]
      exact near
    · rw [State.wasteFull, policy, waste]
      exact full
    · have stays := never c
      rw [route c, RouteCfg.started] at stays
      cases pends : (cfg c).pends with
      | false => rfl
      | true =>
        rw [pends] at stays
        exact absurd rfl stays

end

/-- R184, R192: the writer and what it read of the store. -/
theorem State.coldStart_writer (s : State) :
    let w := s.coldStart.startWrites.nvm
    let m := s.nvm.store
    w.saveState = .running ∧ w.saveCause = none ∧ w.startUpHeld = false ∧ w.timing = .normal ∧ w.store = m ∧
      w.clean = decide (m.cleanMark.loaded = some true) ∧ w.damaged = m.identity.loaded.isNone ∧
      (s.nvm.inProgress = none →
        w.inProgress = some (.cleanMark false, .normal) ∧ w.queue = m.startQueue) := by
  intro w m
  have read : m.clean = decide (m.cleanMark.loaded = some true) := by
    rw [Store.clean, Bool.eq_iff_iff]
    simp
  obtain ⟨_, _, nvm, -⟩ := s.coldStart.startWrites_queues
  have shape : w = _ := nvm
  refine ⟨by rw [shape]; rfl, by rw [shape]; rfl, by rw [shape]; rfl, by rw [shape]; rfl, by rw [shape]; rfl, ?_,
    by rw [shape]; rfl, fun free => ?_⟩
  · rw [shape]
    exact read
  · have writes : w = _ := congrArg State.nvm (State.startWrites_eq (s := s.coldStart) free rfl)
    rw [writes]
    exact ⟨rfl, rfl⟩

/-- R54: when the channel pends. -/
theorem RouteCfg.pends_iff (cfg : RouteCfg) :
    cfg.pends = true ↔
      (cfg.ink ≠ 0 ∧ cfg.defaultSlot ≠ none) ∧ (cfg.source = .activeUnfit ∨ cfg.source = .always) ∧
        cfg.alternate ≠ none := by
  simp [RouteCfg.pends, RouteCfg.routed, RouteCfg.leaves, Option.isSome_iff_ne_none, and_assoc]

/-- R50 to R63: the route record after start-up, field by field. -/
theorem RouteCfg.started_eq (cfg : RouteCfg) (time : Time) :
    cfg.started time =
      { state := if cfg.pends then .pendingAlt else if cfg.routed then .onDefault else .unrouted
        active := if cfg.routed then cfg.defaultSlot else none
        switchTimer :=
          if cfg.pends then
            (if cfg.switchDelay = 0 then .waiting else .running (time + BitVec.ofNat 32 cfg.switchDelay))
          else .idle
        revertTimer := none, settleCount := 0, hold := false
        gate := { powerSave := false, noRoute := !cfg.routed, operatorHold := false, noSupply := true, settle := false }
        lastLine := none } := by
  rw [RouteCfg.started]
  split <;> rfl

/-- R119: the table is as the trimming left it. -/
theorem State.coldStart_history (s : State) : s.coldStart.history = s.nvm.store.startHistory.1 := by
  simp only [State.coldStart]

section
variable {s t : State} (kept : keepsBut [.nvm, .notices, .routes, .pins] s.coldStart t)
include kept

/-- R192, steps 1 and 3: the blocks that hold no slot, channel or head. -/
theorem State.coldStart_single :
    t.powered = true ∧ t.pending = s.pending ∧ t.time = 0 ∧ t.draws = s.draws ∧
      t.settings = s.nvm.store.image.settings ∧ t.waste = s.nvm.store.waste.loaded.getD ⟨0, 0⟩ ∧ t.trace = [] ∧
      t.digest = Digest.cold ∧ t.requests = RequestUnit.cold ∧ t.link = Link.cold ∧ t.forward = Forward.cold ∧
      t.returns = Returns.cold ∧ t.history = s.nvm.store.startHistory.1 := by
  obtain ⟨pending, powered, blocks⟩ := kept
  have settings : t.settings = s.coldStart.settings := blocks .settings (by decide)
  have waste : t.waste = s.coldStart.waste := blocks .waste (by decide)
  have history : t.history = s.coldStart.history := blocks .history (by decide)
  refine ⟨powered, pending, blocks .time (by decide), blocks .draws (by decide), settings, waste, blocks .trace (by decide),
    blocks .digest (by decide), blocks .requests (by decide), blocks .link (by decide), blocks .forward (by decide),
    blocks .returns (by decide), history.trans s.coldStart_history⟩

/-- R192, step 1: the slots, with the watches of the image, and their lines. -/
theorem State.coldStart_slot (i : SlotNo) :
    let watch := s.nvm.store.image.watches[i]
    t.slot i = Slot.cold watch.1.start watch.2.start ∧ t.line i = LineCtl.cold ∧ t.senseOf i = ⟨false, false⟩ := by
  intro watch
  have sense : t.sense = s.coldStart.sense := kept.2.2 .sense (by decide)
  refine ⟨?_, ?_, ?_⟩
  · rw [State.slot_of_slots (kept.2.2 .slots (by decide)) i]
    simp [State.coldStart, State.slot, watch]
  · rw [State.line_of_lines (kept.2.2 .lines (by decide)) i]
    simp [State.coldStart, State.line, State.manufactured]
  · rw [State.senseOf, sense]
    simp [State.coldStart, State.manufactured]

/-- R192, step 1: the meters and the heads. -/
theorem State.coldStart_machine : (∀ c : Channel, t.meter c = Meter.cold) ∧ ∀ h : HeadNo, t.head h = Head.cold := by
  have meters : t.meters = s.coldStart.meters := kept.2.2 .meters (by decide)
  have heads : t.heads = s.coldStart.heads := kept.2.2 .heads (by decide)
  refine ⟨fun c => ?_, fun h => ?_⟩
  · rw [State.meter, meters]
    simp [State.coldStart, State.manufactured]
  · rw [State.head, heads]
    simp [State.coldStart, State.manufactured]

/-- R193: the notices that a start-up raises first. -/
theorem State.coldStart_firstNotices (nvm : t.nvm = s.coldStart.startWrites.nvm) :
    s.coldStart.startWrites.firstNotices =
      if t.nvm.clean then NoticeUnit.cold
      else
        NoticeUnit.cold.take t.settings.mask[NoticeKind.store.position] .store .none
          (.store .uncleanStart none false t.nvm.source t.nvm.corrected t.nvm.uncorrectable) := by
  have writes : keepsBut [.nvm] s.coldStart s.coldStart.startWrites := State.startWrites_kept s.coldStart
  have notices : s.coldStart.startWrites.notices = NoticeUnit.cold := writes.2.2 .notices (by decide)
  have settings : s.coldStart.startWrites.settings = t.settings :=
    (writes.2.2 .settings (by decide)).trans (kept.2.2 .settings (by decide)).symm
  rw [State.firstNotices, notices, settings, ← nvm]

end

/-! ### The History Table and the queue (R119, R184) -/

section
variable (m : Store)

/-- R119: with few locked entries the table is as loaded, otherwise 56 of them remain. -/
theorem Store.startHistory_locked :
    ((lockedOf m.keptEntry).length ≤ 56 → ∀ n : EntryNo, m.startHistory.1.entries[n] = m.keptEntry n) ∧
      (56 < (lockedOf m.keptEntry).length →
        (lockedOf fun n => m.startHistory.1.entries[n]).length = 56 ∧
          ∀ n : EntryNo,
            m.startHistory.1.entries[n] = m.keptEntry n ∨
              m.startHistory.1.entries[n] = none ∧
                ∃ e ∈ m.keptEntry n, e.locked = true ∧
                  ∀ (k : EntryNo) (f : HistoryEntry), m.startHistory.1.entries[k] = some f → f.locked = true →
                    lessRecent e n f k = true) := by
  refine ⟨fun few n => ?_, fun many => ⟨m.startHistory_many many, fun n => ?_⟩⟩
  · rw [m.startHistory_few few]
    exact m.loadedHistory_entry n
  · rcases m.startHistory_entry n with ⟨-, same⟩ | ⟨-, none, evicted⟩
    · exact .inl same
    · exact .inr ⟨none, evicted⟩

/-- R184: a pending write of a start-up rewrites its record, or stores an entry that is not as loaded. -/
theorem Store.mem_startQueue_iff (w : RecordWrite) :
    w ∈ m.startQueue ↔
      match w with
      | .identity x => m.identity = { contents := some x, condition := .corrected }
      | .settings x => m.settings = { contents := some x, condition := .corrected }
      | .history n x =>
        x = m.startHistory.1.entries[n] ∧
          (m.history[n].result = .corrected ∨ m.entry n ≠ m.startHistory.1.entries[n])
      | .waste x => m.waste = { contents := some x, condition := .corrected }
      | .cleanMark _ => False := by
  cases w with
  | history n x => exact m.startQueue_history n x
  | identity x => exact (m.startQueue_other (by simp)).trans (m.mem_rewrites _)
  | settings x => exact (m.startQueue_other (by simp)).trans (m.mem_rewrites _)
  | waste x => exact (m.startQueue_other (by simp)).trans (m.mem_rewrites _)
  | cleanMark x => exact (m.startQueue_other (by simp)).trans (m.mem_rewrites _)

end

/-- Settles O60: the blocks at a loss of power, the filters at a start-up, and the other blocks when no filter expires at
once. -/
theorem powerIsLostAndApplied : Obligations.PowerIsLostAndApplied := by
  refine ⟨fun s torn on => ?_, fun s errors off => ?_, fun s errors off => ?_⟩
  · have loses : exec (.powerLoss torn) s = .next (s.losesPower torn) := exec_on (f := fun s => s.losesPower torn) rfl on rfl
    obtain ⟨idle, begun⟩ := s.nvm.storeAfterLoss_eq torn
    refine ⟨_, loses, s.losesPower_keeps torn, rfl, rfl, State.cold_filter rfl, rfl, idle, fun w timing busy => ?_⟩
    have store : (s.losesPower torn).nvm.store = s.nvm.store.tear torn w := begun w timing busy
    rw [store]
    exact s.nvm.store.tear_does torn w
  · intro store image
    obtain ⟨u, isFound⟩ : ∃ u : State, u = { s with nvm := { s.nvm with store := store } } := ⟨_, rfl⟩
    refine ⟨u.startUp, isFound ▸ exec_powerOn errors off, fun p => ?_⟩
    intro delay runs
    have filter (p : Pin) : u.filter p = s.filter p := State.filter_of_pins (by rw [isFound]) p
    have isImage : u.nvm.store.image = image := by rw [isFound]; rfl
    refine ⟨?_, fun i presence asserted atOnce => ?_⟩
    · rw [u.startUp_filter, filter, isImage, PinCfg.startedFilter, zero_add]
    · subst presence
      exact u.startUp_probes (by rw [filter]; exact asserted) (by rw [isImage]; exact atOnce)
  · intro store image delays loaded superseded locked kept
    have powers : exec (.powerOn errors) s = .next { s with nvm := { s.nvm with store := store } }.startUp :=
      exec_powerOn errors off
    have isImage : store.image = image := rfl
    have isLoaded : loaded = store.entry := funext fun n => (store.entry_eq n).symm
    have isKept : kept = store.keptEntry := by
      funext n
      have dropped : superseded n ↔ store.superseded n = true := by
        rw [store.superseded_iff, ← isLoaded]
      by_cases gone : superseded n
      · exact (if_pos gone : kept n = none).trans (if_pos (dropped.mp gone)).symm
      · have left : kept n = loaded n := if_neg gone
        rw [left, isLoaded]
        exact (if_neg (mt dropped.mpr gone)).symm
    have isLocked : locked = lockedOf := rfl
    clear_value kept locked superseded loaded image store
    subst isImage isLoaded isKept isLocked
    obtain ⟨u, isFound⟩ : ∃ u : State, u = { s with nvm := { s.nvm with store := store } } := ⟨_, rfl⟩
    have filter (p : Pin) : u.filter p = s.filter p := State.filter_of_pins (by rw [isFound]) p
    have isStore : u.nvm.store = store := by rw [isFound]
    have pending : u.pending = s.pending := by rw [isFound]
    have draws : u.draws = s.draws := by rw [isFound]
    have inProgress : u.nvm.inProgress = s.nvm.inProgress := by rw [isFound]
    rw [← isFound] at powers
    clear isFound
    subst isStore
    rw [← pending, ← draws, ← inProgress]
    obtain ⟨cold, nvm, routes, follows, silent⟩ := State.startUp_waits (s := u) fun p raw => by
      rw [filter] at raw
      exact delays p raw
    obtain ⟨t, isStarted⟩ : ∃ t, t = u.startUp := ⟨_, rfl⟩
    rw [← isStarted] at powers cold nvm routes follows silent
    rw [State.coldStart_firstNotices cold nvm] at follows silent
    obtain ⟨saveState, saveCause, startUpHeld, timing, storeOf, clean, damaged, writer⟩ := u.coldStart_writer
    rw [← nvm] at saveState saveCause startUpHeld timing storeOf clean damaged writer
    obtain ⟨powered, pending, time, draws, settings, waste, trace, digest, requests, link, forward, returns, history⟩ :=
      State.coldStart_single cold
    have entry : t.entry = fun n => u.nvm.store.startHistory.1.entries[n] := by
      funext n
      rw [State.entry, history]
    obtain ⟨few, many⟩ := u.nvm.store.startHistory_locked
    refine ⟨t, powers, powered, pending, time, draws, settings, State.coldStart_slot cold,
      (State.coldStart_machine cold).1, (State.coldStart_machine cold).2, waste, trace, digest, requests, link, forward,
      returns, fun c => ?_, ?_, ?_, ?_, saveState, saveCause, startUpHeld, timing, storeOf, clean, damaged, fun free => ?_,
      follows, fun good few => ?_⟩
    · intro cfg routed leaves pends
      obtain ⟨route, valve⟩ := routes c
      have shape : t.route c = cfg.started 0 := route
      have isPending : cfg.pends = true ↔ pends := cfg.pends_iff
      have isRouted : cfg.routed = decide routed := rfl
      rw [shape, cfg.started_eq, zero_add, isRouted]
      refine ⟨?_, valve⟩
      simp only [isPending, decide_eq_true_eq, decide_not]
    · rw [entry]
      exact few
    · rw [entry]
      exact many
    · rw [history, u.nvm.store.startHistory_trimmed.stamp]
      exact u.nvm.store.loadedHistory_nextStamp
    · obtain ⟨mark, queue⟩ := writer free
      rw [queue, entry]
      exact ⟨mark, (u.nvm.store.mem_startQueue (.cleanMark false)).1, u.nvm.store.mem_startQueue_iff⟩
    · exact silent good (congrArg Prod.snd (u.nvm.store.startHistory_few few))

end Sys2Proof.Machine
